-- ==== Sys2Proof/Word.lean ====
section
/-! DEFINITION. The words of the device's two ports: bytes, tokens, bus addresses and pedestal indices. -/

namespace Sys2Proof

/-- One byte of a frame (12_frame_and_record_layouts.md). -/
abbrev Byte := BitVec 8

/-- A 64-bit token, mask, base, translate value or account reference (R33). -/
abbrev Token := BitVec 64

/-- A five-bit pedestal bus address as it is contended for in the alert slot (R158). -/
abbrev BusAddress := BitVec 5

/-- A pedestal, and the session record of the same number (R1). Index `n` stands for pedestal number `n + 1`. -/
abbrev Ped := Fin 16

/-- The pedestal number 1 to 16 of an index. -/
def Ped.number (n : Ped) : Nat := n.val + 1

/-- The pedestals in ascending pedestal order. -/
def Ped.all : List Ped := List.finRange 16

end Sys2Proof
end

