-- ==== Sys2Proof/Syntax.lean ====
section
/-! DEFINITION. The commands of the block: one constructor per row of spec/opcode_table.json, with the row's operands. -/

namespace Sys2Proof

/-- One character taken from the host line: its eight data bits and whether its stop bit was good (R174, R175). -/
structure RxChar where
  value : Byte
  stopGood : Bool
  deriving DecidableEq, Repr

/-- Why an exchange gave no good reply (R153, R194). -/
inductive MissCause where
  /-- no reply began within 1 ms of the end of the command -/
  | noReply
  /-- the reply failed its CRC -/
  | badCrc
  /-- the reply carried another address than the one commanded -/
  | wrongAddress
  /-- a coded byte held an undefined value -/
  | undefinedCode
  /-- the reply was cut short by a line error -/
  | lineError
  deriving DecidableEq, Repr

/-- The commands. A host request is a valid frame of its kind, given by its tag and its body (R175, R177). -/
inductive Instr where
  | statusRead (tag : Byte) (body : List Byte)
  | parkSet (tag : Byte) (body : List Byte)
  | parkRead (tag : Byte) (body : List Byte)
  | parkOpen (tag : Byte) (body : List Byte)
  | parkClose (tag : Byte) (body : List Byte)
  | clockSet (tag : Byte) (body : List Byte)
  | siteLoad (tag : Byte) (body : List Byte)
  | tariffWrite (tag : Byte) (body : List Byte)
  | tariffRead (tag : Byte) (body : List Byte)
  | tariffClear (tag : Byte) (body : List Byte)
  | windowWrite (tag : Byte) (body : List Byte)
  | windowRead (tag : Byte) (body : List Byte)
  | windowClear (tag : Byte) (body : List Byte)
  | enrol (tag : Byte) (body : List Byte)
  | withdraw (tag : Byte) (body : List Byte)
  | unblock (tag : Byte) (body : List Byte)
  | pedestalRead (tag : Byte) (body : List Byte)
  | countersRead (tag : Byte) (body : List Byte)
  | sessionRead (tag : Byte) (body : List Byte)
  | sessionStop (tag : Byte) (body : List Byte)
  | sessionCap (tag : Byte) (body : List Byte)
  | authDecision (tag : Byte) (body : List Byte)
  | queryList (tag : Byte) (body : List Byte)
  | settleFetch (tag : Byte) (body : List Byte)
  | settleFetchNamed (tag : Byte) (body : List Byte)
  | settleConfirm (tag : Byte) (body : List Byte)
  | conditionsRead (tag : Byte) (body : List Byte)
  | conditionsClear (tag : Byte) (body : List Byte)
  | conditionsMask (tag : Byte) (body : List Byte)
  | restartSoft (tag : Byte) (body : List Byte)
  | restartHard (tag : Byte) (body : List Byte)
  | badKind (kind : Byte) (tag : Byte) (body : List Byte)
  | frameDiscarded (received : List RxChar)
  | badSyncRun (received : List RxChar)
  | frameGapTimeout (received : List RxChar)
  | linkSilenceExpiry
  | replySent
  | notice
  | noticeSent
  | softRestart
  | hardRestart
  | cycleStart
  | statusReply (received : List Byte)
  | exchangeMiss (cause : MissCause)
  | alertSlot (contenders : List BusAddress)
  | quietTimerExpiry
  | authDeadlineExpiry (pedestal : Ped)
  | plugDeadlineExpiry (pedestal : Ped)
  | probeDeadlineExpiry (pedestal : Ped)
  | endingDeadlineExpiry (pedestal : Ped)
  | refusalDisplayExpiry (pedestal : Ped)
  | oneSecondTick
  | suspendLimit (pedestal : Ped)
  | idleMinute (pedestal : Ped)
  | supplyWarning
  | reset
  | supplyFail
  | retentionLoss
  | powerOn
  | haltedStart
  deriving DecidableEq, Repr

end Sys2Proof
end

