-- ==== Sys2Proof/Decode.lean ====
section
/-! DEFINITION. The rows of spec/opcode_table.json give no bits, so no word spells a command. The device's own codecs
(host frames, request bodies, pedestal status replies) stand in Machine/Bytes.lean, Machine/Operands.lean and
Machine/Parser.lean. -/

namespace Sys2Proof

/-- The command that a table word spells: none, since no row of the table has fixed bits or fields. -/
def decodeTableWord (_nbits _w : Nat) : Option Instr := none

end Sys2Proof
end

