-- ==== Sys2Proof/Machine/Bytes.lean ====
section
/-! DEFINITION. Byte order and CRC of both ports: multi-byte numbers travel most significant byte first (chapter 12). -/

namespace Sys2Proof.Machine

/-- `v` in `size` bytes, most significant first. -/
def bytesOf : (size : Nat) → (v : Nat) → List Byte
  | 0, _ => []
  | size + 1, v => bytesOf size (v / 256) ++ [BitVec.ofNat 8 v]

/-- The number that bytes spell, most significant first. -/
def natOf (bytes : List Byte) : Nat := bytes.foldl (fun acc b => acc * 256 + b.toNat) 0

/-- The field of `size` bytes at offset `off` of a body. -/
def fieldAt (body : List Byte) (off size : Nat) : Nat := natOf ((body.drop off).take size)

/-- An eight-byte field at offset `off`. -/
def tokenAt (body : List Byte) (off : Nat) : Token := BitVec.ofNat 64 (fieldAt body off 8)

/-- A yes or no field is one byte, 0 for no and 1 for yes (R193). -/
def yesNoByte (b : Bool) : List Byte := bytesOf 1 b.toNat

/-- One bit of the CRC's division by polynomial 0x1021, not reflected (R175). -/
def crcShift (c : BitVec 16) : BitVec 16 := if c.msb then (c <<< 1) ^^^ 0x1021#16 else c <<< 1

/-- The CRC after `n` bit steps. -/
def crcShifts : Nat → BitVec 16 → BitVec 16
  | 0, c => c
  | n + 1, c => crcShifts n (crcShift c)

/-- The CRC after one more byte. -/
def crcByte (c : BitVec 16) (b : Byte) : BitVec 16 := crcShifts 8 (c ^^^ (b.setWidth 16 <<< 8))

/-- The CRC of bytes, with initial value 0xFFFF (R175). -/
def crc16 (bytes : List Byte) : BitVec 16 := bytes.foldl crcByte 0xFFFF#16

/-- The CRC of bytes as it is sent: two bytes, most significant first. -/
def crcBytes (bytes : List Byte) : List Byte := bytesOf 2 (crc16 bytes).toNat

end Sys2Proof.Machine
end

