-- ==== Sys2Proof/Config.lean ====
section
/-! DEFINITION. What the device fixes (R141's list of values that are not settings) and the free values:
constants without a body for the values the spec does not state, so that nothing can be proved of them. -/

namespace Sys2Proof.Config

/-- Free value: the reply kind of a BUSY or BAD-TAG reply to a request whose kind is 0x80 or more. R177 gives
"the request kind plus 0x80", which does not fit a byte there, and 0xFF for BAD-KIND alone (notes/assumptions/7.md). -/
opaque replyKindOfHighKind : Byte → Byte

/-- Free value: the two power cap bytes of a WINDOW-READ reply for a window without a power cap
(R35, section 12.2; notes/assumptions/8.md). -/
opaque absentWindowCap : Nat

/-- Free value: the number byte of a PEDESTAL-READ reply when no presentation number is held
(section 12.2; notes/assumptions/9.md). -/
opaque absentPresentation : Nat

/-- Free value: whether a fault set that holds ESTOP beside OVERTEMP or CONVERTER is taken ESTOP first.
R5 orders the fields of a reply and no rule orders the faults within the set (notes/assumptions/10.md). -/
opaque estopTakenFirst : BitVec 4 → Bool

/-- The probe deadline, in ms (R163). -/
def probeDeadlineMs : Nat := 5000

/-- How long a refusal display is held, in ms (R10). -/
def refusalDisplayMs : Nat := 5000

/-- The slow scan period, in ms (R150). -/
def slowPeriodMs : Nat := 1000

/-- The ending threshold, in steps (R24). -/
def endingThreshold : Nat := 10

/-- The consecutive misses at which an ONLINE pedestal becomes LOST (R157). -/
def lostMisses : Nat := 5

/-- The most settlement slots: reserved slots and queued records together (R116). -/
def slotLimit : Nat := 24

/-- The most entries of the BUSY list (R178). -/
def busyLimit : Nat := 8

/-- The highest value of a two-byte count. -/
def max16 : Nat := 65535

/-- The highest value of a four-byte count (R63). -/
def max32 : Nat := 4294967295

/-- The modulus of a pedestal's meter count (R56). -/
def meterModulus : Nat := 16777216

/-- Millionths in one minor unit (R53). -/
def million : Nat := 1000000

/-- The sync byte of a host frame (R175). -/
def syncByte : Byte := 0xC3#8

/-- The longest body of a host frame (R175). -/
def maxBody : Nat := 240

end Sys2Proof.Config
end

