-- ==== Sys2Proof/Machine/State.lean ====
section
/-! DEFINITION. Every piece of state the spec gives the device, as plain data, and the state after a start
(INVENTORY.md, "State"). Timebase points are in milliseconds. A field of an `Option` type is an optional field of the
spec, and `none` is its absent value (00_scope.md, "Names and values"). -/

namespace Sys2Proof.Machine

/-- A point of the timebase (00_scope.md, "Time"). -/
abbrev Point := Nat

/-! ## Session records (R1) -/

inductive SessionState where
  | free | plugged | authorizing | authorized | probing | dispensing | suspended | occupying | ending | released
  deriving DecidableEq, Repr

inductive HasPlug where
  | no | yes | unknown
  deriving DecidableEq, Repr

inductive TokenSource where
  | reader | vehicle
  deriving DecidableEq, Repr

inductive GrantKind where
  | localGrant | referred | fallback
  deriving DecidableEq, Repr

inductive GrantState where
  | none | powered | parked | yielding
  deriving DecidableEq, Repr

/-- The end reasons of R22. -/
inductive EndReason where
  | userStop | hostStop | vehicleUnplug | noVehicle | cableOpen | cableShort | cableLong | estop | pedestalFault
  | coverExhausted | pedestalLost | supplyLoss | hostRestart
  deriving DecidableEq, Repr

/-- The device's own refusal reasons (R9, R51, section 12.3). -/
inductive RefusalReason where
  | parkClosed | outOfService | inUse | queueFull | denied | noRoute | noTariff | holdTooSmall | authTimeout
  | busyPoint | unplugFirst
  deriving DecidableEq, Repr

/-- A day number and a second of day; day 65,535 is the unset-clock form (R115). -/
structure Stamp where
  day : Nat
  second : Nat
  deriving DecidableEq, Repr

/-- How a window authorizes (R33). -/
inductive WindowMode where
  | localMode | refer | referFallback | deny
  deriving DecidableEq, Repr

/-- What a record holds of its session from AUTHORIZING to ENDING (R11). -/
structure Opening where
  number : Nat
  token : Token
  source : TokenSource
  /-- absent when the token hit no window -/
  window : Option (Fin 12)
  account : Token
  opened : Stamp
  deriving DecidableEq, Repr

/-- The pending authorization's captured terms (R42). -/
structure CapturedTerms where
  mode : WindowMode
  /-- absent for a token with no hit -/
  localHold : Option Nat
  tariff : Fin 8
  route : Fin 4
  baseRank : Fin 16
  powerCap : Option Nat
  deriving DecidableEq, Repr

/-- What a grant writes into the record, held from AUTHORIZED to ENDING (R12). -/
structure Grant where
  kind : GrantKind
  tariff : Fin 8
  hold : Nat
  route : Fin 4
  baseRank : Fin 16
  authCap : Option Nat
  deriving DecidableEq, Repr

/-- The Power Allocation Unit's fields of a record, with their FREE values (R87). -/
structure Alloc where
  grantState : GrantState := .none
  share : Nat := 0
  waitRounds : Nat := 0
  servedRounds : Nat := 0
  yieldLeft : Nat := 0
  request : Nat := 0
  deriving DecidableEq, Repr

/-- The metering fields of a record without the baseline, with their FREE values (R53). -/
structure Meter where
  energyTotal : Nat := 0
  bandEnergy : Vector Nat 6 := Vector.replicate 6 0
  costWhole : Nat := 0
  costRemainder : Nat := 0
  startFeeCharged : Bool := false
  occupyingSeconds : Nat := 0
  idleMinutes : Nat := 0
  idleFee : Nat := 0
  deriving DecidableEq, Repr

/-- The session flags of R1. -/
structure SessionFlags where
  clockUnset : Bool := false
  idleCapped : Bool := false
  meterJump : Bool := false
  meterGap : Bool := false
  deriving DecidableEq, Repr

/-- A reason byte and the timebase point at which it is removed (R10). -/
structure RefusalDisplay where
  reason : Byte
  until_ : Point
  deriving DecidableEq, Repr

/-- One session record (R1). The default is the record of R2 in FREE. -/
structure Session where
  state : SessionState := .free
  hasPlug : HasPlug := .no
  opening : Option Opening := none
  captured : Option CapturedTerms := none
  grant : Option Grant := none
  hostCap : Option Nat := none
  alloc : Alloc := {}
  baseline : Nat := 0
  meter : Meter := {}
  flags : SessionFlags := {}
  energized : Option Stamp := none
  endReason : Option EndReason := none
  authDeadline : Option Point := none
  plugDeadline : Option Point := none
  probeDeadline : Option Point := none
  suspendStart : Option Point := none
  endingDeadline : Option Point := none
  /-- a PROBE command is owed to the pedestal (R163) -/
  probeSend : Bool := false
  probeAttempts : Nat := 0
  refusal : Option RefusalDisplay := none
  deriving DecidableEq, Repr

/-! ## Acceptance windows (R33) and tariffs (R131); the defaults are the cleared values of R35 and R134 -/

structure Window where
  enabled : Bool := false
  base : Token := 0
  mask : Token := 0
  translateEnabled : Bool := false
  translate : Token := 0
  mode : WindowMode := .deny
  localHold : Nat := 1
  tariff : Fin 8 := 0
  route : Fin 4 := 0
  baseRank : Fin 16 := 15
  powerCap : Option Nat := none
  deriving DecidableEq, Repr

structure Band where
  start : Nat
  price : Nat
  deriving DecidableEq, Repr

/-- A tariff; its band count is the length of its band list (R131). -/
structure Tariff where
  defined : Bool := false
  bands : List Band := [⟨0, 0⟩]
  startFee : Nat := 0
  idleFeePerMinute : Nat := 0
  idleGrace : Nat := 0
  deriving DecidableEq, Repr

/-- The park clock while its valid flag is set (R136). -/
structure Clock where
  day : Nat
  second : Nat
  deriving DecidableEq, Repr

inductive ParkState where
  | closed | opened
  deriving DecidableEq, Repr

/-- The park settings with their defaults (R141). -/
structure Settings where
  fastPeriod : Nat := 100
  quietTime : Nat := 60
  linkSilence : Nat := 5
  authWait : Nat := 20
  plugWait : Nat := 120
  probeRetries : Nat := 2
  endingTimeout : Nat := 5
  suspendLimit : Nat := 15
  siteCap : Nat := 0
  reserve : Nat := 0
  fallbackLoad : Nat := 65535
  staleTime : Nat := 15
  agingRounds : Nat := 20
  yieldOn : Nat := 3000
  yieldOff : Nat := 600
  maxHold : Nat := 100000
  highMark : Nat := 20
  plausibility : Nat := 60
  /-- bit r is the posted flag of route r -/
  routePosted : BitVec 4 := 0
  deriving DecidableEq, Repr

/-! ## The Power Allocation Unit's park-level state (R87, R111) -/

structure BaseLoad where
  steps : Nat
  takenAt : Point
  deriving DecidableEq, Repr

structure Allocation where
  baseLoad : Option BaseLoad := none
  shortMark : Bool := false
  lastBudget : Nat := 0
  lastCandidates : Nat := 0
  lastParked : Nat := 0
  deriving DecidableEq, Repr

/-! ## The settlement queue (R113, R114) -/

inductive Delivery where
  | pending | delivered
  deriving DecidableEq, Repr

/-- The record flags of R119. -/
structure RecordFlags where
  localGrant : Bool
  fallbackGrant : Bool
  clockUnset : Bool
  idleCapped : Bool
  meterJump : Bool
  meterGap : Bool
  holdClamped : Bool
  deriving DecidableEq, Repr

structure BandEntry where
  index : Nat
  energy : Nat
  deriving DecidableEq, Repr

structure SettlementRecord where
  number : Nat
  pedestal : Ped
  token : Token
  source : TokenSource
  account : Token
  window : Option (Fin 12)
  grantKind : GrantKind
  route : Fin 4
  posted : Bool
  tariff : Fin 8
  hold : Nat
  opened : Stamp
  energized : Option Stamp
  closed : Stamp
  energyTotal : Nat
  bandList : List BandEntry
  startFee : Nat
  energyCost : Nat
  idleMinutes : Nat
  idleFee : Nat
  total : Nat
  due : Nat
  absorbed : Nat
  endReason : EndReason
  flags : RecordFlags
  delivery : Delivery
  deriving DecidableEq, Repr

/-- The queue with what shares its memory (R113); the defaults are those of a cold start (R128). -/
structure Settlement where
  queue : List SettlementRecord := []
  reserved : Nat := 0
  counter : Nat := 1
  markerValid : Bool := true
  deriving DecidableEq, Repr

/-! ## The pedestal table and the pedestal bus (R146, R150, R151) -/

inductive Link where
  | lost | online
  deriving DecidableEq, Repr

/-- A pedestal table entry; the defaults are its not-enrolled values (R146). -/
structure PedestalEntry where
  enrolled : Bool := false
  rating : Nat := 0
  floor : Nat := 0
  extension : Nat := 0
  maxCable : Nat := 0
  link : Link := .lost
  blocked : Bool := false
  estop : Bool := false
  lastMeter : Nat := 0
  /-- whether the plug was present in the last good reply -/
  lastPlug : Option Bool := none
  lastPresentation : Option Byte := none
  misses : Nat := 0
  frameErrors : Nat := 0
  missMark : Bool := false
  deriving DecidableEq, Repr

inductive Pace where
  | slow | fast
  deriving DecidableEq, Repr

/-- An exchange under way. `void`: its pedestal was withdrawn meanwhile, and its end is discarded (R148). -/
structure Exchange where
  pedestal : Ped
  outOfTurn : Bool
  void : Bool
  deriving DecidableEq, Repr

/-- The place in the scan cycle (R150). -/
inductive BusPhase where
  /-- no cycle under way: before the first cycle start and after the last exchange of a cycle -/
  | idle
  /-- a command has been sent and its reply is awaited -/
  | exchange (e : Exchange)
  /-- the regular exchanges are over and the alert slot is open (R158) -/
  | alertSlot
  /-- STOP-ALL has been sent: no further frame until the next start (R160) -/
  | stopped
  deriving DecidableEq, Repr

inductive BusCommand where
  | none | probe | energize | stop
  deriving DecidableEq, Repr

inductive DisplayCode where
  | idle | presentToken | authorizing | refused | connectVehicle | checkingCable | charging | waitingForPower
  | paused | complete | finished | outOfService
  deriving DecidableEq, Repr

/-- A command frame (section 12.4). -/
structure CommandFrame where
  address : Nat
  command : BusCommand
  setpoint : Nat
  display : DisplayCode
  reason : Byte
  extension : Nat
  deriving DecidableEq, Repr

/-- The Pedestal Bus Controller's state beside the table; the defaults are those after a start (R161). -/
structure Bus where
  pace : Pace := .slow
  quietTimer : Option Point := none
  /-- the pace with which the cycle under way began (R151) -/
  cyclePace : Pace := .slow
  nextCycle : Point := 0
  phase : BusPhase := .idle
  /-- STOP-ALL is to be sent when the exchange under way ends (R160) -/
  stopAllOwed : Bool := false
  /-- the last command frame put on the bus (MODEL's own output latch) -/
  lastFrame : Option CommandFrame := none
  deriving DecidableEq, Repr

/-! ## The host line (R174 to R184) -/

/-- The frame parser (R175). `kind`, `tag` and the body bytes taken so far are kept with the state that needs them. -/
inductive Parser where
  /-- `badRun`: a bad-sync run is under way (R176) -/
  | hunt (badRun : Bool)
  | length
  | header (bodyLength : Nat) (kind : Option Byte)
  | body (bodyLength : Nat) (kind tag : Byte) (taken : List Byte)
  | crc (kind tag : Byte) (body : List Byte) (first : Option Byte)
  deriving DecidableEq, Repr

inductive BaudRate where
  | baud115200 | baud460800
  deriving DecidableEq, Repr

inductive LinkMode where
  | standalone | attended
  deriving DecidableEq, Repr

/-- A reply frame: its kind, its tag and its body, which begins with the reply code (R177, R193). -/
structure Reply where
  kind : Byte
  tag : Byte
  body : List Byte
  deriving DecidableEq, Repr

/-- A notice frame's body fields: set number, flags listed and their data (R184, section 12.2). -/
structure NoticeFrame where
  set : Nat
  flags : Nat
  data : List Byte
  deriving DecidableEq, Repr

/-- The frame being sent on the host line. -/
inductive Outgoing where
  | reply (r : Reply)
  | notice (n : NoticeFrame)
  deriving DecidableEq, Repr

/-- The Host Line Interface beside the conditions; the defaults are those after a start (R187). -/
structure HostLine where
  parser : Parser := .hunt false
  /-- the rate that the baud strap selects -/
  strap : BaudRate := .baud115200
  /-- the rate fixed at the last start (R174) -/
  baud : BaudRate := .baud115200
  mode : LinkMode := .standalone
  silenceTimer : Option Point := none
  lineErrors : Nat := 0
  sending : Option Outgoing := none
  /-- the reply that waits for the notice under way (R178) -/
  replyWaiting : Option Reply := none
  /-- the BUSY replies waiting, oldest first (R178) -/
  busyList : List Reply := []
  deriving DecidableEq, Repr

/-! ## Conditions (R182) -/

/-- The fields of an AUTH-QUERY entry (R44, section 12.2). -/
structure QueryEntry where
  number : Nat
  pedestal : Ped
  token : Token
  source : TokenSource
  window : Option (Fin 12)
  deriving DecidableEq, Repr

inductive StartKind where
  | cold | warm
  deriving DecidableEq, Repr

inductive StartCause where
  | powerOn | resetInput | supplyRelease | restartHard | restartSoft
  deriving DecidableEq, Repr

inductive CondData where
  | none
  | reason (b : Byte)
  | query (q : QueryEntry)
  | start (kind : StartKind) (cause : StartCause)
  deriving DecidableEq, Repr

/-- A set flag: its reported mark and its data. A clear flag is `none` in its set. -/
structure Latched where
  reported : Bool
  data : CondData
  deriving DecidableEq, Repr

/-- The eleven pedestal kinds, in the order of R182. -/
inductive PedKind where
  | plugIn | plugOut | tokenRefused | authQuery | energized | sessionClosed | probeFault | estop | pedestalLost
  | pedestalBack | meterJump
  deriving DecidableEq, Repr

/-- The five park kinds, in the order of R182. -/
inductive ParkKind where
  | parkStart | queueHigh | budgetShort | clockUnset | linkReturned
  deriving DecidableEq, Repr

abbrev PedSet := Vector (Option Latched) 11
abbrev ParkSet := Vector (Option Latched) 5

/-- The seventeen flag sets, the mask and the set of the last notice (R182 to R184). -/
structure Conditions where
  ped : Vector PedSet 16 := Vector.replicate 16 (Vector.replicate 11 none)
  park : ParkSet := Vector.replicate 5 none
  /-- bit k masks pedestal kind k -/
  pedMask : BitVec 11 := 0
  /-- bit k masks park kind k -/
  parkMask : BitVec 5 := 0
  lastNotice : Option (Fin 17) := none
  deriving DecidableEq, Repr

/-! ## The Supply Monitor (R188 to R192) -/

inductive RunState where
  | running | restarting | halted
  deriving DecidableEq, Repr

inductive RestartKind where
  | soft | hard
  deriving DecidableEq, Repr

/-- The main supply against the operating threshold. `below`: it fell below it and the device halted;
`absent`: it failed while the device was HALTED, so that the device is without power (R190). -/
inductive MainSupply where
  | good | below | absent
  deriving DecidableEq, Repr

structure Supply where
  runState : RunState := .running
  startKind : StartKind := .cold
  startCause : StartCause := .powerOn
  secondsSinceStart : Nat := 0
  pendingRestart : Option RestartKind := none
  warningInput : Bool := false
  resetInput : Bool := false
  mainSupply : MainSupply := .good
  /-- the reset input was asserted at some moment since HALTED was entered (R190) -/
  resetSeen : Bool := false
  deriving DecidableEq, Repr

/-! ## The whole machine -/

/-- The device: its blocks' state and the queue of the commands that wait. -/
structure State where
  timebase : Point := 0
  /-- the point of the next one-second tick -/
  tickDue : Point := 1000
  records : Vector Session 16 := Vector.replicate 16 {}
  windows : Vector Window 12 := Vector.replicate 12 {}
  alloc : Allocation := {}
  settlement : Settlement := {}
  tariffs : Vector Tariff 8 := Vector.replicate 8 {}
  clock : Option Clock := none
  park : ParkState := .closed
  settings : Settings := {}
  pedestals : Vector PedestalEntry 16 := Vector.replicate 16 {}
  bus : Bus := {}
  line : HostLine := {}
  conds : Conditions := {}
  supply : Supply := {}
  /-- the commands that wait, the next one first -/
  pending : List Instr := []
  deriving DecidableEq, Repr

/-- No command of the device stops it: a bad frame is discarded, a bad request is answered with a reply code, a missed
exchange is counted, and a lost supply is the run state HALTED. So the type of faults is empty. -/
inductive Fault where
  deriving DecidableEq, Repr

/-- Why a command has no meaning. -/
inductive Refusal where
  /-- Raised by an arm of `exec` for a command that is not modelled yet; no arm raises it. Safe: the model stops. -/
  | notModelled (mnemonic : String)
  deriving DecidableEq, Repr

/-- Park set 0 after a cold start: PARK-START with its data, and CLOCK-UNSET, both unreported (R187, R138). -/
def resetParkSet : ParkSet :=
  ((Vector.replicate 5 none).set 0 (some ⟨false, .start .cold .powerOn⟩)).set 3 (some ⟨false, .none⟩)

/-- The device right after a cold start with cause POWER-ON (notes/assumptions/1.md): every field at the value that its
owner's rule gives after a cold start. -/
def State.reset : State := { conds := { park := resetParkSet } }

end Sys2Proof.Machine
end

