-- ==== Sys2Proof/Machine/Layout.lean ====
section
/-! DEFINITION. The codes and byte layouts of chapter 12: enumerated fields, reason bytes, stamps, query entries, the
settlement record, the host frame envelope and the pedestal command frame. -/

namespace Sys2Proof.Machine

/-! ## Codes of the enumerated fields (R193, section 12.2, section 12.3, section 12.4) -/

def SessionState.code : SessionState → Nat
  | .free => 0 | .plugged => 1 | .authorizing => 2 | .authorized => 3 | .probing => 4
  | .dispensing => 5 | .suspended => 6 | .occupying => 7 | .ending => 8 | .released => 9

def HasPlug.code : HasPlug → Nat
  | .no => 0 | .yes => 1 | .unknown => 2

def GrantState.code : GrantState → Nat
  | .none => 0 | .powered => 1 | .parked => 2 | .yielding => 3

def GrantKind.code : GrantKind → Nat
  | .localGrant => 0 | .referred => 1 | .fallback => 2

def WindowMode.code : WindowMode → Nat
  | .localMode => 0 | .refer => 1 | .referFallback => 2 | .deny => 3

/-- The mode that a byte codes, if it codes one. -/
def WindowMode.ofCode : Nat → Option WindowMode
  | 0 => some .localMode
  | 1 => some .refer
  | 2 => some .referFallback
  | 3 => some .deny
  | _ => none

def TokenSource.code : TokenSource → Nat
  | .reader => 0 | .vehicle => 1

def ParkState.code : ParkState → Nat
  | .closed => 0 | .opened => 1

def LinkMode.code : LinkMode → Nat
  | .standalone => 0 | .attended => 1

def Pace.code : Pace → Nat
  | .slow => 0 | .fast => 1

def Link.code : Link → Nat
  | .lost => 0 | .online => 1

def StartKind.code : StartKind → Nat
  | .cold => 0 | .warm => 1

def StartCause.code : StartCause → Nat
  | .powerOn => 0 | .resetInput => 1 | .supplyRelease => 2 | .restartHard => 3 | .restartSoft => 4

/-- The reason byte of an end reason (section 12.3). -/
def EndReason.code : EndReason → Byte
  | .userStop => 0x01#8 | .hostStop => 0x02#8 | .vehicleUnplug => 0x03#8 | .noVehicle => 0x04#8
  | .cableOpen => 0x05#8 | .cableShort => 0x06#8 | .cableLong => 0x07#8 | .estop => 0x08#8
  | .pedestalFault => 0x09#8 | .coverExhausted => 0x0A#8 | .pedestalLost => 0x0B#8 | .supplyLoss => 0x0C#8
  | .hostRestart => 0x0D#8

/-- The reason byte of a refusal (section 12.3). -/
def RefusalReason.code : RefusalReason → Byte
  | .parkClosed => 0x20#8 | .outOfService => 0x21#8 | .inUse => 0x22#8 | .queueFull => 0x23#8
  | .denied => 0x24#8 | .noRoute => 0x25#8 | .noTariff => 0x26#8 | .holdTooSmall => 0x27#8
  | .authTimeout => 0x28#8 | .busyPoint => 0x29#8 | .unplugFirst => 0x2A#8

/-- The reason bytes shown with WAITING-FOR-POWER (section 12.3). -/
def reasonParked : Byte := 0x30#8
def reasonYielding : Byte := 0x31#8

/-- A code with no reason carries 0x00 (section 12.3). -/
def noReason : Byte := 0x00#8

def BusCommand.code : BusCommand → Nat
  | .none => 0 | .probe => 1 | .energize => 2 | .stop => 3

def DisplayCode.code : DisplayCode → Nat
  | .idle => 0 | .presentToken => 1 | .authorizing => 2 | .refused => 3 | .connectVehicle => 4 | .checkingCable => 5
  | .charging => 6 | .waitingForPower => 7 | .paused => 8 | .complete => 9 | .finished => 10 | .outOfService => 11

/-- The reply codes of R179, with their values (R193). -/
inductive ReplyCode where
  | done | clamped | busy | badTag | badKind | badLength | outOfRange | notFound | inUse | wrongState | late | empty
  | notDelivered
  deriving DecidableEq, Repr

def ReplyCode.value : ReplyCode → Byte
  | .done => 0x00#8 | .clamped => 0x01#8 | .busy => 0x02#8 | .badTag => 0x03#8 | .badKind => 0x04#8
  | .badLength => 0x05#8 | .outOfRange => 0x06#8 | .notFound => 0x07#8 | .inUse => 0x08#8 | .wrongState => 0x09#8
  | .late => 0x0A#8 | .empty => 0x0B#8 | .notDelivered => 0x0C#8

/-! ## Common fields (R193) -/

/-- A stamp in five bytes; an absent stamp is day 0xFFFF with second 0xFFFFFF. -/
def stampBytes : Option Stamp → List Byte
  | some t => bytesOf 2 t.day ++ bytesOf 3 t.second
  | none => bytesOf 2 0xFFFF ++ bytesOf 3 0xFFFFFF

/-- A window index in one byte; an absent one is the no-hit mark 0xFF. -/
def windowIndexByte : Option (Fin 12) → List Byte
  | some w => bytesOf 1 w.val
  | none => bytesOf 1 0xFF

/-- A query entry, 13 bytes (section 12.2). -/
def QueryEntry.bytes (q : QueryEntry) : List Byte :=
  bytesOf 2 q.number ++ bytesOf 1 q.pedestal.number ++ bytesOf 8 q.token.toNat ++ bytesOf 1 q.source.code
    ++ windowIndexByte q.window

/-- The data that a listed or set flag adds (section 12.2, "Notice"). -/
def CondData.bytes : CondData → List Byte
  | .none => []
  | .reason b => [b]
  | .query q => q.bytes
  | .start k c => bytesOf 1 k.code ++ bytesOf 1 c.code

/-- The flag byte of a settlement record (section 12.2, offset 75). -/
def RecordFlags.bits (f : RecordFlags) : Nat :=
  f.localGrant.toNat + 2 * f.fallbackGrant.toNat + 4 * f.clockUnset.toNat + 8 * f.idleCapped.toNat
    + 16 * f.meterJump.toNat + 32 * f.meterGap.toNat + 64 * f.holdClamped.toNat

/-- The session flags byte of SESSION-READ (section 12.2). -/
def SessionFlags.bits (f : SessionFlags) : Nat :=
  f.clockUnset.toNat + 2 * f.idleCapped.toNat + 4 * f.meterJump.toNat + 8 * f.meterGap.toNat

def BandEntry.bytes (e : BandEntry) : List Byte := bytesOf 1 e.index ++ bytesOf 4 e.energy

/-- A settlement record as the SETTLE-FETCH reply carries it (section 12.2). -/
def SettlementRecord.bytes (r : SettlementRecord) : List Byte :=
  bytesOf 2 r.number ++ bytesOf 1 r.pedestal.number ++ bytesOf 8 r.token.toNat ++ bytesOf 1 r.source.code
    ++ bytesOf 8 r.account.toNat ++ windowIndexByte r.window ++ bytesOf 1 r.grantKind.code ++ bytesOf 1 r.route.val
    ++ yesNoByte r.posted ++ bytesOf 1 r.tariff.val ++ bytesOf 4 r.hold ++ stampBytes (some r.opened)
    ++ stampBytes r.energized ++ stampBytes (some r.closed) ++ bytesOf 4 r.energyTotal ++ bytesOf 2 r.startFee
    ++ bytesOf 4 r.energyCost ++ bytesOf 4 r.idleMinutes ++ bytesOf 4 r.idleFee ++ bytesOf 4 r.total ++ bytesOf 4 r.due
    ++ bytesOf 4 r.absorbed ++ [r.endReason.code] ++ bytesOf 1 r.flags.bits ++ bytesOf 1 r.bandList.length
    ++ r.bandList.flatMap BandEntry.bytes

/-! ## Frames -/

/-- The part of a host frame that its CRC covers: length, kind, tag and body (section 12.1). -/
def hostFrameCore (kind tag : Byte) (body : List Byte) : List Byte :=
  bytesOf 1 body.length ++ [kind, tag] ++ body

/-- A host frame as it travels (section 12.1). -/
def hostFrameBytes (kind tag : Byte) (body : List Byte) : List Byte :=
  Config.syncByte :: hostFrameCore kind tag body ++ crcBytes (hostFrameCore kind tag body)

/-- The kind of a notice (section 12.1). -/
def noticeKind : Byte := 0x7F#8

def NoticeFrame.body (n : NoticeFrame) : List Byte := bytesOf 1 n.set ++ bytesOf 2 n.flags ++ n.data

/-- The bytes of the frame being sent on the host line; a notice carries tag 0 (R184). -/
def Outgoing.bytes : Outgoing → List Byte
  | .reply r => hostFrameBytes r.kind r.tag r.body
  | .notice n => hostFrameBytes noticeKind 0 n.body

/-- The bytes of a command frame, with the CRC over every byte before it (section 12.4). -/
def CommandFrame.bytes (f : CommandFrame) : List Byte :=
  let core := bytesOf 1 f.address ++ bytesOf 1 f.command.code ++ bytesOf 2 f.setpoint ++ bytesOf 1 f.display.code
    ++ [f.reason] ++ bytesOf 1 f.extension
  core ++ crcBytes core

end Sys2Proof.Machine
end

