-- ==== Sys2Proof/Machine/Flags.lean ====
section
/-! DEFINITION. The seventeen condition flag sets: latching, reading, marking, clearing and masking (R182 to R186), and
the forming of a notice (R184). -/

namespace Sys2Proof.Machine

/-- The bit of a pedestal kind, in the order of R182. -/
def PedKind.index : PedKind → Fin 11
  | .plugIn => 0 | .plugOut => 1 | .tokenRefused => 2 | .authQuery => 3 | .energized => 4 | .sessionClosed => 5
  | .probeFault => 6 | .estop => 7 | .pedestalLost => 8 | .pedestalBack => 9 | .meterJump => 10

/-- The bit of a park kind, in the order of R182. -/
def ParkKind.index : ParkKind → Fin 5
  | .parkStart => 0 | .queueHigh => 1 | .budgetShort => 2 | .clockUnset => 3 | .linkReturned => 4

/-- Latching a pedestal condition: the flag becomes set, not reported, with the data of this latch (R182). -/
def latchPed (n : Ped) (k : PedKind) (d : CondData) (s : State) : State :=
  { s with conds := { s.conds with ped := s.conds.ped.set n ((s.conds.ped.get n).set k.index (some ⟨false, d⟩)) } }

/-- Latching a park condition (R182). -/
def latchPark (k : ParkKind) (d : CondData) (s : State) : State :=
  { s with conds := { s.conds with park := s.conds.park.set k.index (some ⟨false, d⟩) } }

/-- The pedestal of a condition set other than the park's set 0. -/
def setPedestal (k : Fin 17) : Ped := Fin.ofNat 16 (k.val - 1)

/-- The flags of a set, by bit. -/
def condFlags (c : Conditions) (k : Fin 17) : List (Option Latched) :=
  if k = 0 then c.park.toList else (c.ped.get (setPedestal k)).toList

/-- The mask bits that apply to a set (R183). -/
def maskOf (c : Conditions) (k : Fin 17) : Nat := if k = 0 then c.parkMask.toNat else c.pedMask.toNat

/-- A change of every flag of one set, given its bit. -/
def mapFlags (k : Fin 17) (f : Nat → Option Latched → Option Latched) (c : Conditions) : Conditions :=
  if k = 0 then { c with park := c.park.mapIdx f }
  else { c with ped := c.ped.set (setPedestal k) ((c.ped.get (setPedestal k)).mapIdx f) }

/-- The bits of the set flags that satisfy a test, counted from bit `i`. -/
def bitsWhere (p : Nat → Latched → Bool) : Nat → List (Option Latched) → Nat
  | _, [] => 0
  | i, none :: fs => bitsWhere p (i + 1) fs
  | i, some l :: fs => (if p i l then 2 ^ i else 0) + bitsWhere p (i + 1) fs

/-- The data of the set flags that satisfy a test, in bit order. -/
def dataWhere (p : Nat → Latched → Bool) : Nat → List (Option Latched) → List Byte
  | _, [] => []
  | i, none :: fs => dataWhere p (i + 1) fs
  | i, some l :: fs => (if p i l then l.data.bytes else []) ++ dataWhere p (i + 1) fs

/-- A flag of bit `i` is listed by the next notice of its set: it is set, unmasked and not reported (R184). -/
def isNews (mask : Nat) (i : Nat) (l : Latched) : Bool := !l.reported && !mask.testBit i

/-- A set holds a flag to be listed. -/
def hasNews (c : Conditions) (k : Fin 17) : Bool := bitsWhere (isNews (maskOf c k)) 0 (condFlags c k) != 0

/-- The order of the search for the next notice: from the set after that of the last notice, up to set 16 and wrapping to
set 0; from set 0 when no notice has been sent since the start (R184). -/
def noticeOrder (last : Option (Fin 17)) : List (Fin 17) :=
  match last with
  | none => List.finRange 17
  | some k => (List.finRange 17).map fun i => k + 1 + i

/-- The set that the next notice reports. -/
def nextNoticeSet (c : Conditions) : Option (Fin 17) := (noticeOrder c.lastNotice).find? (hasNews c)

/-- The notice of a set, and the conditions with each listed flag marked reported (R184). -/
def noticeFor (k : Fin 17) (c : Conditions) : NoticeFrame × Conditions :=
  let news := isNews (maskOf c k)
  (⟨k.val, bitsWhere news 0 (condFlags c k), dataWhere news 0 (condFlags c k)⟩,
   { mapFlags k (fun i f => f.map fun l => if news i l then { l with reported := true } else l) c with
     lastNotice := some k })

/-- Marking every set flag of a set reported, masked or not (R185). -/
def markAllReported (k : Fin 17) (c : Conditions) : Conditions :=
  mapFlags k (fun _ f => f.map fun l => { l with reported := true }) c

/-- Clearing the named flags of a set that are set and reported (R186). -/
def clearReported (k : Fin 17) (named : Nat) (c : Conditions) : Conditions :=
  mapFlags k (fun i f => f.bind fun l => if named.testBit i && l.reported then none else some l) c

/-- The data of a CONDITIONS-READ reply: set number, flags set, reported marks, data (section 12.2). -/
def conditionsReadData (k : Fin 17) (c : Conditions) : List Byte :=
  bytesOf 1 k.val ++ bytesOf 2 (bitsWhere (fun _ _ => true) 0 (condFlags c k))
    ++ bytesOf 2 (bitsWhere (fun _ l => l.reported) 0 (condFlags c k)) ++ dataWhere (fun _ _ => true) 0 (condFlags c k)

end Sys2Proof.Machine
end

