-- ==== Sys2Proof/Machine/Ops.lean ====
section
/-! DEFINITION. The shared operations on the device's tables and its time: accessors, stamps, the scan pace and quiet
timer (R151), record updates, refusal displays (R10) and the FREE values of a record (R2). -/

namespace Sys2Proof.Machine

/-! ## Accessors -/

def State.session (s : State) (n : Ped) : Session := s.records.get n

def State.setSession (n : Ped) (r : Session) (s : State) : State := { s with records := s.records.set n r }

def State.entry (s : State) (n : Ped) : PedestalEntry := s.pedestals.get n

def State.setEntry (n : Ped) (e : PedestalEntry) (s : State) : State := { s with pedestals := s.pedestals.set n e }

/-- The tariff of a grant (R46). -/
def State.tariffOf (s : State) (g : Grant) : Tariff := s.tariffs.get g.tariff

/-- The pedestal that a pedestal number byte names, if it lies in 1..16. -/
def pedestalOf (number : Nat) : Option Ped :=
  if 1 ≤ number ∧ number ≤ 16 then some (Fin.ofNat 16 (number - 1)) else none

/-- The open states (00_scope.md, "Session state groups"). -/
def SessionState.isOpen : SessionState → Bool
  | .authorizing | .authorized | .probing | .dispensing | .suspended | .occupying | .ending => true
  | .free | .plugged | .released => false

/-- The energy-flow states (00_scope.md, "Session state groups"). -/
def SessionState.energyFlow : SessionState → Bool
  | .dispensing | .suspended | .occupying | .ending => true
  | .free | .plugged | .authorizing | .authorized | .probing | .released => false

/-- The open states in which a session holds a grant (R12, R133). -/
def SessionState.granted : SessionState → Bool
  | .authorized | .probing | .dispensing | .suspended | .occupying | .ending => true
  | .free | .plugged | .authorizing | .released => false

/-- All sixteen records are FREE (R151). -/
def State.allFree (s : State) : Bool := s.records.toList.all fun r => r.state == .free

/-- Some record is in an open state (R192). -/
def State.anyOpen (s : State) : Bool := s.records.toList.any fun r => r.state.isOpen

/-! ## Time -/

/-- A time-driven event is taken at its point: the timebase has reached it (notes/assumptions/2.md). -/
def State.reach (p : Point) (s : State) : State := { s with timebase := max s.timebase p }

/-- The point `seconds` s ahead of the timebase. -/
def State.after (s : State) (seconds : Nat) : Point := s.timebase + 1000 * seconds

/-- The device acts on events other than host bytes: it is not HALTED (R188). -/
def State.active (s : State) : Bool := s.supply.runState != .halted

/-- A stamp of the present moment (R115). -/
def State.stamp (s : State) : Stamp :=
  match s.clock with
  | some c => ⟨c.day, c.second⟩
  | none => ⟨65535, s.supply.secondsSinceStart % 86400⟩

/-! ## Scan pace and quiet timer (R151) -/

/-- The pace becomes FAST. When it does so during a cycle that began SLOW, the next cycle start is brought forward:
it is due at once, and comes when the cycle's exchanges are over. DESIGN CHOICE, unsafe: in a cycle that began FAST the next
start stays where it was placed, also when the quiet timer has expired in between (notes/assumptions/37.md). -/
def paceFast (s : State) : State :=
  if s.bus.pace = .slow ∧ s.bus.cyclePace = .slow then
    { s with bus := { s.bus with pace := .fast, nextCycle := s.timebase } }
  else { s with bus := { s.bus with pace := .fast } }

/-- The quiet timer is started at the current timebase plus the quiet time. -/
def startQuiet (s : State) : State :=
  { s with bus := { s.bus with quietTimer := some (s.after s.settings.quietTime) } }

/-- A plug-in, a token or a non-empty alert slot, taken while all sixteen records are FREE. -/
def quietActivity (s : State) : State := if s.allFree then startQuiet (paceFast s) else s

/-- A record's new contents, with the effect of R151 when the record leaves or enters FREE. -/
def putSession (n : Ped) (r : Session) (s : State) : State :=
  let left := (s.session n).state != .free && r.state == .free
  let leaves := (s.session n).state == .free && r.state != .free
  let s := s.setSession n r
  if leaves then
    let s := paceFast s
    { s with bus := { s.bus with quietTimer := none } }
  else if left && s.allFree then startQuiet s
  else s

/-! ## Records entering states -/

/-- The states in which a refusal display stays on entry (R10). -/
def SessionState.keepsRefusal : SessionState → Bool
  | .free | .plugged | .authorizing | .authorized => true
  | .probing | .dispensing | .suspended | .occupying | .ending | .released => false

/-- A record entering a state other than FREE and RELEASED: the refusal display is removed by R10, the Power Allocation
Unit's fields take their FREE values outside DISPENSING (R107), and the suspend start is absent outside SUSPENDED. -/
def Session.enter (st : SessionState) (r : Session) : Session :=
  { r with
    state := st
    refusal := if st.keepsRefusal then r.refusal else none
    alloc := if st = .dispensing ∧ r.state = .dispensing then r.alloc else {}
    suspendStart := if st = .suspended then r.suspendStart else none }

/-- The record of R2 in FREE: every field at its FREE value, but for the meter baseline. -/
def Session.toFree (r : Session) : Session := { baseline := r.baseline }

/-- The record of R2 in RELEASED: the FREE values, but for has-plug, the end reason and the baseline. -/
def Session.toReleased (r : Session) : Session :=
  { state := .released, hasPlug := r.hasPlug, endReason := r.endReason, baseline := r.baseline }

/-- The record of R13 after a cancel: PLUGGED if has-plug is yes and FREE otherwise, every session field FREE. -/
def Session.toCancelled (r : Session) : Session :=
  { state := if r.hasPlug = .yes then .plugged else .free, hasPlug := if r.hasPlug = .yes then .yes else .no,
    baseline := r.baseline }

/-- A refusal at a point, or a cancel: TOKEN-REFUSED is latched with the reason and the refusal display set (R10). -/
def refuseToken (n : Ped) (reason : Byte) (s : State) : State :=
  let s := latchPed n .tokenRefused (.reason reason) s
  s.setSession n { s.session n with refusal := some ⟨reason, s.timebase + Config.refusalDisplayMs⟩ }

/-- The pedestal is out of service for a token: blocked, LOST or with its e-stop active (R39, check 2). -/
def PedestalEntry.outOfService (e : PedestalEntry) : Bool := e.blocked || e.link == .lost || e.estop

/-- A count that saturates. -/
def satAdd (limit a b : Nat) : Nat := min limit (a + b)

/-- Sixteen records one after the other, in ascending pedestal order. -/
def forPedestals (f : Ped → State → State) (s : State) : State := Ped.all.foldl (fun s n => f n s) s

end Sys2Proof.Machine
end

