-- ==== Sys2Proof/Machine/Metering.lean ====
section
/-! DEFINITION. The Metering Unit (chapter 3): meter delta, band and price selection, accrual, start fee, idle minutes
and the close figures. -/

namespace Sys2Proof.Machine

/-! ## Price selection (R59, R60) -/

/-- The highest-numbered band whose start minute is at most `minute`, with its index; `i` is the index of the first band
of the list (R59). -/
def bandAt (minute : Nat) : Nat → List Band → Option (Nat × Nat)
  | _, [] => none
  | i, b :: bs => (bandAt minute (i + 1) bs).or (if b.start ≤ minute then some (i, b.price) else none)

/-- The lowest-numbered band among those of the highest price, with its index (R60). -/
def dearestBand : Nat → List Band → Option (Nat × Nat)
  | _, [] => none
  | i, b :: bs =>
    match dearestBand (i + 1) bs with
    | none => some (i, b.price)
    | some (j, p) => if b.price ≥ p then some (i, b.price) else some (j, p)

/-- The band index and price at which energy is valued now: by the minute of day while the clock is valid, and at the
highest price while it is not. -/
def priceNow (clock : Option Clock) (t : Tariff) : Option (Nat × Nat) :=
  match clock with
  | some c => bandAt (c.second / 60) 0 t.bands
  | none => dearestBand 0 t.bands

/-! ## Accrual (R56, R57, R62, R63) -/

/-- The meter delta of a reported count against the baseline (R56). -/
def meterDelta (count baseline : Nat) : Nat := (count + Config.meterModulus - baseline) % Config.meterModulus

/-- The cost numerator after `d` Wh at price `p`: cost whole and cost remainder (R62, saturating by R63). -/
def addCost (d p whole remainder : Nat) : Nat × Nat :=
  let sum := remainder + d * p
  let carried := whole + sum / Config.million
  if carried > Config.max32 then (Config.max32, Config.million - 1) else (carried, sum % Config.million)

/-- An accrued delta above 0, priced in band `band` at `price` (R62, R63). -/
def Meter.accrue (d band price : Nat) (m : Meter) : Meter :=
  let cost := addCost d price m.costWhole m.costRemainder
  { m with
    energyTotal := satAdd Config.max32 m.energyTotal d
    bandEnergy := m.bandEnergy.mapIdx fun i e => if i = band then satAdd Config.max32 e d else e
    costWhole := cost.1
    costRemainder := cost.2 }

/-- A delta within the plausibility limit: a delta of 0 changes nothing, and another is priced and accrued; while the clock
is unset it also sets the session's CLOCK-UNSET flag (R59, R60). -/
def Session.accrueDelta (clock : Option Clock) (t : Tariff) (d : Nat) (r : Session) : Session :=
  if d = 0 then r
  else
    match priceNow clock t with
    | none => r
    | some (band, price) =>
      { r with meter := r.meter.accrue d band price,
               flags := { r.flags with clockUnset := r.flags.clockUnset || clock.isNone } }

/-- The Metering Unit takes the meter count of a good reply (R55 to R58). -/
def meterReply (n : Ped) (count : Nat) (s : State) : State :=
  let r := s.session n
  if r.state.energyFlow then
    let d := meterDelta count r.baseline
    if d ≤ s.settings.plausibility then
      let r := match r.grant with
        | some g => r.accrueDelta s.clock (s.tariffOf g) d
        | none => r
      s.setSession n { r with baseline := count }
    else
      let s := latchPed n .meterJump .none s
      s.setSession n { r with baseline := count, flags := { r.flags with meterJump := true } }
  else s.setSession n { r with baseline := count }

/-! ## Idle minutes (R66 to R68) -/

/-- The start fee that a session has been charged (R53). -/
def chargedStartFee (t : Tariff) (m : Meter) : Nat := if m.startFeeCharged then t.startFee else 0

/-- The cost whole, with the remainder rounded half up (R68, R70). -/
def roundedCost (m : Meter) : Nat := m.costWhole + if m.costRemainder ≥ 500000 then 1 else 0

/-- The chargeable minutes of R67: every started minute past the grace. -/
def chargeableMinutes (occupyingSeconds grace : Nat) : Nat := (occupyingSeconds - grace * 60 + 59) / 60

/-- One second spent in OCCUPYING (R66). -/
def Session.tickOccupying (r : Session) : Session :=
  if r.state = .occupying then
    { r with meter := { r.meter with occupyingSeconds := satAdd Config.max32 r.meter.occupyingSeconds 1 } }
  else r

/-- The money a session would have committed with one more idle minute (R68). -/
def idleTestSum (t : Tariff) (m : Meter) : Nat :=
  chargedStartFee t m + roundedCost m + m.idleFee + t.idleFeePerMinute

/-- An idle minute falls due for the record: it is in OCCUPYING, its chargeable minutes exceed the minutes charged, and its
IDLE-CAPPED flag is clear (R67). -/
def Session.idleMinuteDue (t : Tariff) (r : Session) : Bool :=
  r.state == .occupying && !r.flags.idleCapped
    && decide (r.meter.idleMinutes < chargeableMinutes r.meter.occupyingSeconds t.idleGrace)

/-- The due idle minute is charged, or capped against the hold (R67, R68). -/
def Session.chargeIdleMinute (t : Tariff) (hold : Nat) (r : Session) : Session :=
  if idleTestSum t r.meter ≤ hold then
    { r with meter := { r.meter with idleFee := r.meter.idleFee + t.idleFeePerMinute,
                                     idleMinutes := r.meter.idleMinutes + 1 } }
  else { r with flags := { r.flags with idleCapped := true } }

/-! ## Close figures (R70 to R72) -/

structure CloseFigures where
  startFee : Nat
  energyCost : Nat
  total : Nat
  due : Nat
  absorbed : Nat
  deriving DecidableEq, Repr

/-- The energy cost of R70; a cost whole that has saturated stays where it is. -/
def closeEnergyCost (m : Meter) : Nat := min Config.max32 (roundedCost m)

/-- The close figures of R71. -/
def closeFigures (t : Tariff) (hold : Nat) (m : Meter) : CloseFigures :=
  let startFee := chargedStartFee t m
  let total := min Config.max32 (startFee + closeEnergyCost m + m.idleFee)
  let due := min total hold
  ⟨startFee, closeEnergyCost m, total, due, total - due⟩

/-- The band list of a record: the bands whose energy is above 0, ascending (R72, R114). -/
def bandListFrom : Nat → List Nat → List BandEntry
  | _, [] => []
  | i, e :: es => if e > 0 then ⟨i, e⟩ :: bandListFrom (i + 1) es else bandListFrom (i + 1) es

def Meter.bandList (m : Meter) : List BandEntry := bandListFrom 0 m.bandEnergy.toList

end Sys2Proof.Machine
end

