-- ==== Sys2Proof/Machine/Settlement.lean ====
section
/-! DEFINITION. The Settlement Queue (chapter 6): slots, session numbers, the building and joining of records, fetching
and confirming, and what a start does to the queue. -/

namespace Sys2Proof.Machine

def State.withSettlement (q : Settlement) (s : State) : State := { s with settlement := q }

/-! ## Slots and session numbers (R116, R117, R120) -/

/-- The numbers held: those of the open sessions and of the queued records (R120). -/
def State.heldNumbers (s : State) : List Nat :=
  s.records.toList.filterMap (fun r => if r.state.isOpen then r.opening.map (·.number) else none)
    ++ s.settlement.queue.map (·.number)

/-- The number after `k`, wrapping from 65,535 to 1 (R120). -/
def numberAfter (k : Nat) : Nat := if k ≥ 65535 then 1 else k + 1

/-- The first number from `k` on that is not held, after at most `skips` skips. -/
def firstNotHeld (held : List Nat) : (skips : Nat) → (k : Nat) → Nat
  | 0, k => k
  | skips + 1, k => if k ∈ held then firstNotHeld held skips (numberAfter k) else k

/-- The number that the next assignment gives: no more numbers than are held can be skipped (R120). -/
def State.nextNumber (s : State) : Nat := firstNotHeld s.heldNumbers s.heldNumbers.length s.settlement.counter

/-- A slot is reserved and the session number `s.nextNumber` taken from the counter (R116, R120). -/
def reserveSlot (s : State) : State :=
  s.withSettlement { s.settlement with
    reserved := s.settlement.reserved + 1, counter := numberAfter s.nextNumber }

/-- A reserved slot is given up (R117). -/
def releaseSlot (s : State) : State :=
  s.withSettlement { s.settlement with reserved := s.settlement.reserved - 1 }

/-- No settlement slot is free (R39, check 4). -/
def Settlement.full (q : Settlement) : Bool := decide (q.reserved + q.queue.length ≥ Config.slotLimit)

/-! ## Building a record (R114, R118, R119) -/

/-- The settlement record of a closing session, from its opening and grant (R114, R118, R119). -/
def buildRecord (n : Ped) (r : Session) (o : Opening) (g : Grant) (why : EndReason) (s : State) : SettlementRecord :=
  let f := closeFigures (s.tariffOf g) g.hold r.meter
  { number := o.number, pedestal := n, token := o.token, source := o.source, account := o.account, window := o.window,
    grantKind := g.kind, route := g.route, posted := s.settings.routePosted.getLsbD g.route.val, tariff := g.tariff,
    hold := g.hold, opened := o.opened, energized := r.energized, closed := s.stamp,
    energyTotal := r.meter.energyTotal, bandList := r.meter.bandList,
    startFee := f.startFee, energyCost := f.energyCost, idleMinutes := r.meter.idleMinutes,
    idleFee := r.meter.idleFee, total := f.total, due := f.due, absorbed := f.absorbed, endReason := why,
    flags := { localGrant := g.kind == .localGrant, fallbackGrant := g.kind == .fallback,
               clockUnset := r.flags.clockUnset, idleCapped := r.flags.idleCapped, meterJump := r.flags.meterJump,
               meterGap := r.flags.meterGap, holdClamped := decide (f.absorbed > 0) },
    delivery := .pending }

/-- A record joins the queue at its newest end in the place of its session's slot, and the queue is tested against the high
mark (R118, R126). -/
def joinQueue (record : SettlementRecord) (s : State) : State :=
  let queue := s.settlement.queue ++ [record]
  let s := s.withSettlement { s.settlement with queue := queue, reserved := s.settlement.reserved - 1 }
  if queue.length ≥ s.settings.highMark then latchPark .queueHigh .none s else s

/-! ## Collection (R122 to R125) -/

/-- The number of PENDING records. -/
def pendingCount (queue : List SettlementRecord) : Nat := queue.countP fun r => r.delivery == .pending

/-- The fetch of the oldest PENDING record: the record, and the queue with it marked DELIVERED, or removed if it is posted
(R122, R124). -/
def fetchOldest : List SettlementRecord → Option (SettlementRecord × List SettlementRecord)
  | [] => none
  | r :: rs =>
    if r.delivery = .pending then
      some (r, if r.posted then rs else { r with delivery := .delivered } :: rs)
    else (fetchOldest rs).map fun (got, rest) => (got, r :: rest)

/-- The record that carries a session number. -/
def recordNumbered (number : Nat) (queue : List SettlementRecord) : Option SettlementRecord :=
  queue.find? fun r => r.number == number

/-- The queue without the record that carries a session number (R125). -/
def removeNumbered (number : Nat) (queue : List SettlementRecord) : List SettlementRecord :=
  queue.eraseP fun r => r.number == number

/-- Every DELIVERED record becomes PENDING in its place (R129). -/
def undeliver (queue : List SettlementRecord) : List SettlementRecord :=
  queue.map fun r => { r with delivery := .pending }

end Sys2Proof.Machine
end

