-- ==== Sys2Proof/Machine/Session.lean ====
section
/-! DEFINITION. The session life cycle (chapter 1): cancel, close, ENDING, the probe sequence (chapter 9), energization,
and what a lost pedestal, a stop cause and a restart do to a session. -/

namespace Sys2Proof.Machine

/-! ## Cancel and close -/

/-- A session in AUTHORIZING is cancelled with a reason byte (R13, R50, R117): its pending authorization is discarded, its
slot released, TOKEN-REFUSED latched and the refusal display set, and the record goes to PLUGGED or FREE. -/
def cancelSession (n : Ped) (reason : Byte) (s : State) : State :=
  let s := releaseSlot s
  let s := putSession n (s.session n).toCancelled s
  refuseToken n reason s

/-- The record that a close leaves (R26): RELEASED if has-plug is yes or unknown, FREE if it is no. -/
def Session.toClosed (r : Session) : Session := if r.hasPlug = .no then r.toFree else r.toReleased

/-- A session closes (R26): the end reason is set if it is not yet, its settlement record joins the queue, SESSION-CLOSED is
latched, and the record enters RELEASED or FREE. -/
def closeSession (n : Ped) (why : EndReason) (s : State) : State :=
  let reason := (s.session n).endReason.getD why
  let r := { s.session n with endReason := some reason }
  let s := match r.opening, r.grant with
    | some o, some g => joinQueue (buildRecord n r o g reason s) s
    | _, _ => s
  putSession n r.toClosed (latchPed n .sessionClosed .none s)

/-- A record enters ENDING from an energy-flow state on a stop cause (R23). -/
def enterEnding (n : Ped) (why : EndReason) (s : State) : State :=
  let r := (s.session n).enter .ending
  putSession n { r with endReason := some why, endingDeadline := some (s.after s.settings.endingTimeout) } s

/-! ## The probe sequence (R163 to R167) -/

/-- Starting an attempt: the attempts used grow by 1, the probe deadline starts and a PROBE command is owed (R163). -/
def startAttempt (n : Ped) (s : State) : State :=
  let r := s.session n
  s.setSession n { r with probeAttempts := r.probeAttempts + 1, probeSend := true,
                          probeDeadline := some (s.timebase + Config.probeDeadlineMs) }

/-- A record enters PROBING and its first attempt is started (R16). The plug deadline is stopped (R15). -/
def enterProbing (n : Ped) (s : State) : State :=
  let r := (s.session n).enter .probing
  startAttempt n (putSession n { r with plugDeadline := none, authDeadline := none, probeAttempts := 0 } s)

/-- The attempts allowed: 1 plus the probe retries setting (R16). -/
def State.attemptsAllowed (s : State) : Nat := 1 + s.settings.probeRetries

/-- The attempt under way has failed: the next one is started, or the session closes with CABLE-OPEN (R17, R166). -/
def attemptFailed (n : Ped) (s : State) : State :=
  let s := s.setSession n { s.session n with probeDeadline := none }
  if (s.session n).probeAttempts < s.attemptsAllowed then startAttempt n s else closeSession n .cableOpen s

/-- The first entry to DISPENSING (R18, R65, R167): baseline at the count of the reply, start fee charged, energized stamp
taken, ENERGIZED latched, grant state NONE, probe sequence idle. -/
def energize (n : Ped) (count : Nat) (s : State) : State :=
  let s := latchPed n .energized .none s
  let r := (s.session n).enter .dispensing
  putSession n { r with baseline := count, meter := { r.meter with startFeeCharged := true },
                        energized := some s.stamp, probeDeadline := none, probeSend := false } s

/-! ## Other moves between the energy-flow states (R19 to R21) -/

/-- SUSPENDED, with the suspend start at the current timebase (R20). -/
def enterSuspended (n : Ped) (s : State) : State :=
  let r := (s.session n).enter .suspended
  putSession n { r with suspendStart := some s.timebase } s

/-- OCCUPYING (R21). -/
def enterOccupying (n : Ped) (s : State) : State := putSession n ((s.session n).enter .occupying) s

/-- Back to DISPENSING on a vehicle request, which is held for the next round (R20, R21, R94). -/
def returnToDispensing (n : Ped) (request : Nat) (s : State) : State :=
  let r := (s.session n).enter .dispensing
  putSession n { r with alloc := { r.alloc with request := request } } s

/-! ## Stop causes by state -/

/-- A stop cause that ends the session by its state: closed at once in AUTHORIZED and PROBING, ENDING from DISPENSING,
SUSPENDED and OCCUPYING, nothing elsewhere (R14, R17, R19 to R21, R24). -/
def stopSession (n : Ped) (why : EndReason) (s : State) : State :=
  match (s.session n).state with
  | .authorized | .probing => closeSession n why s
  | .dispensing | .suspended | .occupying => enterEnding n why s
  | .free | .plugged | .authorizing | .ending | .released => s

/-- A stop cause that ends the session without an ENDING phase: cancelled in AUTHORIZING, closed at once in the other open
states (R29, R32). -/
def haltSession (why : EndReason) (n : Ped) (s : State) : State :=
  match (s.session n).state with
  | .authorizing => cancelSession n why.code s
  | .authorized | .probing | .dispensing | .suspended | .occupying | .ending => closeSession n why s
  | .free | .plugged | .released => s

/-- What the loss of its pedestal does to a record (R28). -/
def loseSession (n : Ped) (s : State) : State :=
  let r := s.session n
  match r.state with
  | .authorizing => cancelSession n EndReason.pedestalLost.code s
  | .authorized => closeSession n .pedestalLost s
  | .probing => closeSession n .pedestalLost (s.setSession n { r with hasPlug := .unknown })
  | .dispensing | .suspended | .occupying | .ending =>
    closeSession n .pedestalLost
      (s.setSession n { r with hasPlug := .unknown, flags := { r.flags with meterGap := true } })
  | .free | .plugged | .released => s

end Sys2Proof.Machine
end

