-- ==== Sys2Proof/Machine/Acceptance.lean ====
section
/-! DEFINITION. The Acceptance Unit (chapter 2): window match, acceptance checks, the decision of a session, the grant
checks, the site computer's decision and the authorization deadline. -/

namespace Sys2Proof.Machine

/-! ## Matching (R37, R38) -/

/-- A window hits a token: they agree in every bit position where the mask has a 1 (R37). -/
def Window.hits (w : Window) (token : Token) : Bool := w.enabled && (token ^^^ w.base) &&& w.mask == 0

/-- The lowest-numbered enabled window that hits the token (R37). -/
def State.matchWindow (s : State) (token : Token) : Option (Fin 12) :=
  (List.finRange 12).find? fun i => (s.windows.get i).hits token

/-- The account reference of a token that hit a window (R38). -/
def Window.account (w : Window) (token : Token) : Token :=
  if w.translateEnabled then (w.translate &&& w.mask) ||| (token &&& ~~~w.mask) else token

/-- The terms captured at the match (R42). -/
def Window.terms (w : Window) : CapturedTerms :=
  ⟨w.mode, some w.localHold, w.tariff, w.route, w.baseRank, w.powerCap⟩

/-- The captured terms of a token with no hit (R42). -/
def noHitTerms : CapturedTerms := ⟨.refer, none, 0, 0, 15, none⟩

/-! ## Grants (R12, R45, R46) -/

/-- A grant as it comes to the checks of R45: its hold is not clamped yet. -/
structure GrantOffer where
  kind : GrantKind
  hold : Nat
  tariff : Fin 8
  route : Fin 4
  baseRank : Fin 16
  cap : Option Nat
  deriving DecidableEq, Repr

/-- The offer of a LOCAL or FALLBACK grant (R46). A window always has a local hold, so the 0 below is never read of one. -/
def CapturedTerms.ownOffer (c : CapturedTerms) (kind : GrantKind) : GrantOffer :=
  ⟨kind, c.localHold.getD 0, c.tariff, c.route, c.baseRank, c.powerCap⟩

/-- The grant that passes the checks of R45, or the reason of the failing step. -/
def checkGrant (n : Ped) (o : GrantOffer) (s : State) : Except RefusalReason Grant :=
  let t := s.tariffs.get o.tariff
  let hold := min o.hold s.settings.maxHold
  if !t.defined then .error .noTariff
  else if hold < t.startFee then .error .holdTooSmall
  else .ok ⟨o.kind, o.tariff, hold, o.route, o.baseRank, o.cap.map fun c => max c (s.entry n).floor⟩

/-- A grant taken by the Session Table (R12): the terms are written, the pending authorization is discarded, and the record
enters PROBING, or AUTHORIZED with the plug deadline started (R15). -/
def takeGrant (n : Ped) (g : Grant) (s : State) : State :=
  let r := { s.session n with grant := some g, captured := none, authDeadline := none }
  let s := s.setSession n r
  if r.hasPlug = .yes then enterProbing n s
  else putSession n { r.enter .authorized with plugDeadline := some (s.after s.settings.plugWait) } s

/-- A grant goes through the checks of R45: it is taken, or becomes a deny. -/
def offerGrant (n : Ped) (o : GrantOffer) (s : State) : State :=
  match checkGrant n o s with
  | .ok g => takeGrant n g s
  | .error reason => cancelSession n reason.code s

/-! ## Deciding a session (R43, R44, R48) -/

/-- The query entry of a record under referral (R44). -/
def queryOf (n : Ped) (o : Opening) : QueryEntry := ⟨o.number, n, o.token, o.source, o.window⟩

/-- A referral: the authorization deadline is started and AUTH-QUERY latched (R44). -/
def referSession (n : Ped) (o : Opening) (s : State) : State :=
  let s := s.setSession n { s.session n with authDeadline := some (s.after s.settings.authWait) }
  latchPed n .authQuery (.query (queryOf n o)) s

/-- The decision made in the event of the acceptance (R43). -/
def decideSession (n : Ped) (o : Opening) (c : CapturedTerms) (s : State) : State :=
  match c.mode, s.line.mode with
  | .deny, _ => cancelSession n RefusalReason.denied.code s
  | .localMode, _ => offerGrant n (c.ownOffer .localGrant) s
  | .referFallback, .standalone => offerGrant n (c.ownOffer .fallback) s
  | .refer, .standalone => cancelSession n RefusalReason.noRoute.code s
  | .referFallback, .attended => referSession n o s
  | .refer, .attended => referSession n o s

/-- A token is accepted for decision (R41): a slot and a number are taken, the token is matched and the record enters
AUTHORIZING (R11); then the session is decided. -/
def acceptToken (n : Ped) (token : Token) (source : TokenSource) (s : State) : State :=
  let hit := s.matchWindow token
  let account := (hit.map fun i => (s.windows.get i).account token).getD token
  let terms := (hit.map fun i => (s.windows.get i).terms).getD noHitTerms
  let o : Opening := ⟨s.nextNumber, token, source, hit, account, s.stamp⟩
  let s := reserveSlot s
  let r := (s.session n).enter .authorizing
  let s := putSession n { r with
    hasPlug := if (s.session n).state = .plugged then .yes else .no
    opening := some o
    captured := some terms } s
  decideSession n o terms s

/-- Another record in an open state holds the token (R40). -/
def State.tokenHeldElsewhere (s : State) (n : Ped) (token : Token) : Bool :=
  Ped.all.any fun m => m != n && (s.session m).state.isOpen && (s.session m).opening.any (·.token == token)

/-- The check that a token fails, if it fails one (R39). -/
def acceptanceCheck (n : Ped) (token : Token) (s : State) : Option RefusalReason :=
  if s.park = .closed then some .parkClosed
  else if (s.entry n).outOfService then some .outOfService
  else if s.tokenHeldElsewhere n token then some .inUse
  else if s.settlement.full then some .queueFull
  else none

/-- A token at a point whose record is FREE or PLUGGED (R7, R8, R39). -/
def offerToken (n : Ped) (token : Token) (source : TokenSource) (s : State) : State :=
  match acceptanceCheck n token s with
  | some reason => refuseToken n reason.code s
  | none => acceptToken n token source s

/-- A token presented at a point, by the state of its record (R7 to R9). -/
def takeToken (n : Ped) (token : Token) (source : TokenSource) (s : State) : State :=
  let r := s.session n
  let same := r.opening.any (·.token == token)
  match r.state with
  | .free | .plugged => offerToken n token source s
  | .authorizing | .ending => if same then s else refuseToken n RefusalReason.busyPoint.code s
  | .authorized | .probing | .dispensing | .suspended | .occupying =>
    if same then stopSession n .userStop s else refuseToken n RefusalReason.busyPoint.code s
  | .released => refuseToken n RefusalReason.unplugFirst.code s

/-- The authorization deadline has expired: a FALLBACK grant for captured mode REFER-FALLBACK, otherwise a cancel with
AUTH-TIMEOUT (R48). -/
def authExpired (n : Ped) (s : State) : State :=
  match (s.session n).captured with
  | some c =>
    if c.mode = .referFallback then offerGrant n (c.ownOffer .fallback) s
    else cancelSession n RefusalReason.authTimeout.code s
  | none => cancelSession n RefusalReason.authTimeout.code s

end Sys2Proof.Machine
end

