-- ==== Sys2Proof/Machine/Operands.lean ====
section
/-! DEFINITION. The operands that come as bytes: the status reply of a pedestal (section 12.4, R194), the reply of a
request's owner, and the readings of a request body that several requests share (R193). -/

namespace Sys2Proof.Machine

/-! ## The status reply (section 12.4) -/

/-- A token presentation carried by a reply (R154). -/
structure Presentation where
  number : Byte
  token : Token
  source : TokenSource
  deriving DecidableEq, Repr

/-- The probe result of a reply; the length is read with MATCH alone (R162, R194). -/
inductive ProbeResult where
  | none | openCircuit | short
  | matched (length : Nat)
  deriving DecidableEq, Repr

/-- The fields of a status reply. -/
structure StatusReply where
  plug : Bool
  request : Nat
  complete : Bool
  power : Nat
  meter : Nat
  presentation : Option Presentation
  probe : ProbeResult
  /-- bits 0 to 3: ESTOP, OVERTEMP, ISOLATION, CONVERTER -/
  faults : BitVec 4
  released : Bool
  deriving DecidableEq, Repr

def StatusReply.estop (r : StatusReply) : Bool := r.faults.getLsbD 0
def StatusReply.overtemp (r : StatusReply) : Bool := r.faults.getLsbD 1
def StatusReply.isolation (r : StatusReply) : Bool := r.faults.getLsbD 2
def StatusReply.converter (r : StatusReply) : Bool := r.faults.getLsbD 3

/-- The probe result that a class byte and a length byte spell. -/
def ProbeResult.ofBytes (cls length : Nat) : ProbeResult :=
  match cls with
  | 1 => .openCircuit
  | 2 => .short
  | 3 => .matched length
  | _ => .none

/-- The presentation that the token flags and the token bytes spell: none while the token-carried bit is clear (R194). -/
def presentationAt (bytes : List Byte) : Option Presentation :=
  let flags := fieldAt bytes 10 1
  if flags % 2 = 1 then
    some ⟨BitVec.ofNat 8 (fieldAt bytes 11 1), tokenAt bytes 12, if flags / 2 = 1 then .vehicle else .reader⟩
  else none

/-- Every coded byte holds a defined value (R194). -/
def codedBytesDefined (bytes : List Byte) : Bool :=
  decide (fieldAt bytes 1 1 ≤ 1) && decide (fieldAt bytes 4 1 ≤ 1) && decide (fieldAt bytes 10 1 ≤ 3)
    && decide (fieldAt bytes 20 1 ≤ 3) && decide (fieldAt bytes 22 1 ≤ 15) && decide (fieldAt bytes 23 1 ≤ 1)

/-- A reply frame is good: 26 bytes, its CRC agrees, its address is the one commanded and its codes are defined (R194).
DEDUCED, unsafe: the length is that of section 12.4; R153 and R194 do not list it (notes/assumptions/17.md). -/
def replyIsGood (n : Ped) (bytes : List Byte) : Bool :=
  bytes.length == 26 && bytes.drop 24 == crcBytes (bytes.take 24) && fieldAt bytes 0 1 == n.number
    && codedBytesDefined bytes

/-- The fields of a reply frame. -/
def StatusReply.ofBytes (bytes : List Byte) : StatusReply :=
  { plug := fieldAt bytes 1 1 == 1
    request := fieldAt bytes 2 2
    complete := fieldAt bytes 4 1 == 1
    power := fieldAt bytes 5 2
    meter := fieldAt bytes 7 3
    presentation := presentationAt bytes
    probe := ProbeResult.ofBytes (fieldAt bytes 20 1) (fieldAt bytes 21 1)
    faults := BitVec.ofNat 4 (fieldAt bytes 22 1)
    released := fieldAt bytes 23 1 == 1 }

/-- The good reply that a frame is, if it is one (R194). -/
def decodeReply (n : Ped) (bytes : List Byte) : Option StatusReply :=
  if replyIsGood n bytes then some (StatusReply.ofBytes bytes) else none

def ProbeResult.classCode : ProbeResult → Nat
  | .none => 0 | .openCircuit => 1 | .short => 2 | .matched _ => 3

def ProbeResult.lengthValue : ProbeResult → Nat
  | .matched l => l
  | _ => 0

/-- The token flags, presentation number and token of a reply. -/
def presentationBytes : Option Presentation → List Byte
  | some p => bytesOf 1 (1 + 2 * p.source.code) ++ [p.number] ++ bytesOf 8 p.token.toNat
  | none => bytesOf 1 0 ++ bytesOf 1 0 ++ bytesOf 8 0

/-- The bytes of a reply before its CRC. -/
def StatusReply.core (n : Ped) (r : StatusReply) : List Byte :=
  bytesOf 1 n.number ++ bytesOf 1 r.plug.toNat ++ bytesOf 2 r.request ++ bytesOf 1 r.complete.toNat ++ bytesOf 2 r.power
    ++ bytesOf 3 r.meter ++ presentationBytes r.presentation ++ bytesOf 1 r.probe.classCode
    ++ bytesOf 1 r.probe.lengthValue ++ bytesOf 1 r.faults.toNat ++ bytesOf 1 r.released.toNat

/-- A reply as its pedestal sends it (section 12.4). -/
def StatusReply.bytes (n : Ped) (r : StatusReply) : List Byte := r.core n ++ crcBytes (r.core n)

/-- The values of a reply fit their fields. -/
def StatusReply.fits (r : StatusReply) : Bool :=
  decide (r.request ≤ 65535) && decide (r.power ≤ 65535) && decide (r.meter < Config.meterModulus)
    && decide (r.probe.lengthValue ≤ 255)

/-! ## The answer of a request's owner -/

/-- What the owner of a request answers: a reply code and the data after it (R177, R193). -/
structure Answer where
  code : ReplyCode
  data : List Byte := []
  deriving DecidableEq, Repr

/-- A yes or no byte, if it is one (R193). -/
def yesNoAt (body : List Byte) (off : Nat) : Option Bool :=
  match fieldAt body off 1 with
  | 0 => some false
  | 1 => some true
  | _ => none

/-- A field with a presence bit: its value, read only while the bit is set (R193). -/
def presentField (presence bit : Nat) (body : List Byte) (off size : Nat) : Option Nat :=
  if presence.testBit bit then some (fieldAt body off size) else none

end Sys2Proof.Machine
end

