-- ==== Sys2Proof/Machine/HostLine.lean ====
section
/-! DEFINITION. The Host Line Interface (chapter 10): link supervision, the test and answer of a request, the sending of
replies, BUSY replies and notices, and the requests on the interface's own state. -/

namespace Sys2Proof.Machine

def State.withLine (l : HostLine) (s : State) : State := { s with line := l }

/-! ## Link supervision and line errors (R176, R181) -/

/-- The effect of every valid frame on the link: the silence timer is restarted, and a link in STANDALONE returns (R181). -/
def linkFrame (s : State) : State :=
  let returned := s.line.mode == .standalone
  let s := s.withLine { s.line with mode := .attended, silenceTimer := some (s.after s.settings.linkSilence) }
  if returned then latchPark .linkReturned .none s else s

/-- One more line error; the count stays at 65,535 (R176). -/
def countLineError (s : State) : State :=
  s.withLine { s.line with lineErrors := satAdd Config.max16 s.line.lineErrors 1 }

/-! ## Sending (R178, R184) -/

/-- A reply is being sent or is waiting to be sent (R177, row 1). -/
def HostLine.busy (l : HostLine) : Bool :=
  (match l.sending with | some (.reply _) => true | some (.notice _) => false | none => false)
    || l.replyWaiting.isSome || !l.busyList.isEmpty

/-- The line is free: nothing is being sent or waits to be sent (R184). -/
def HostLine.free (l : HostLine) : Bool := l.sending.isNone && l.replyWaiting.isNone && l.busyList.isEmpty

/-- A reply is sent at once, or after the notice under way (R178). -/
def sendReply (r : Reply) (s : State) : State :=
  match s.line.sending with
  | none => s.withLine { s.line with sending := some (.reply r) }
  | some _ => s.withLine { s.line with replyWaiting := some r }

/-- On a free line of a running device, the next set with news is reported by a notice (R184, R188). -/
def startNotice (s : State) : State :=
  if s.line.free ∧ s.supply.runState = .running then
    match nextNoticeSet s.conds with
    | some k =>
      { s with conds := (noticeFor k s.conds).2,
               line := { s.line with sending := some (.notice (noticeFor k s.conds).1) } }
    | none => s
  else s

/-- The last byte of the frame under way has been sent: the waiting reply follows, then the BUSY list from its oldest entry,
then a notice (R178, R184). -/
def frameSent (s : State) : State :=
  match s.line.replyWaiting, s.line.busyList with
  | some r, _ => s.withLine { s.line with sending := some (.reply r), replyWaiting := none }
  | none, b :: bs => s.withLine { s.line with sending := some (.reply b), busyList := bs }
  | none, [] => startNotice (s.withLine { s.line with sending := none })

/-! ## The answer to a valid frame (R177 to R179) -/

/-- A request as its owner gives it: the accepted body lengths, and the act that changes the state and forms the answer. -/
structure Request where
  lengths : List Nat
  act : List Byte → State → Answer × State

/-- The kind of a reply: the request kind plus 0x80 (R177); for a kind of 0x80 or more the spec gives none but for BAD-KIND. -/
def replyKind (kind : Byte) : Byte :=
  if kind.toNat < 0x80 then kind + 0x80#8 else Config.replyKindOfHighKind kind

/-- The kind of a BAD-KIND reply (R177). -/
def badKindReplyKind (kind : Byte) : Byte := if kind.toNat < 0x80 then kind + 0x80#8 else 0xFF#8

/-- A reply frame with its code before its data (R193). -/
def replyOf (kind tag : Byte) (a : Answer) : Reply := ⟨kind, tag, a.code.value :: a.data⟩

/-- A request taken while the interface is busy: a BUSY reply joins the list, or a line error is counted when the list is
full (R178). -/
def refuseBusy (kind tag : Byte) (s : State) : State :=
  if s.line.busyList.length < Config.busyLimit then
    s.withLine { s.line with busyList := s.line.busyList ++ [replyOf (replyKind kind) tag ⟨.busy, []⟩] }
  else countLineError s

/-- The rows of R177 after the link has been served; `request` is what the catalogue holds for the kind. -/
def answerFrame (kind tag : Byte) (body : List Byte) (request : Option Request) (s : State) : State :=
  if s.line.busy then refuseBusy kind tag s
  else if tag = 0 then sendReply (replyOf (replyKind kind) tag ⟨.badTag, []⟩) s
  else match request with
    | none => sendReply (replyOf (badKindReplyKind kind) tag ⟨.badKind, [kind]⟩) s
    | some q =>
      if body.length ∈ q.lengths then
        let answer := q.act body s
        sendReply (replyOf (replyKind kind) tag answer.1) answer.2
      else sendReply (replyOf (replyKind kind) tag ⟨.badLength, []⟩) s

/-- A valid frame is taken (R177): the parser is back in HUNT, the link is served, and the frame is answered. Only a RUNNING
device takes host-line bytes (R174). -/
def takeFrame (kind tag : Byte) (body : List Byte) (request : Option Request) (s : State) : State :=
  if s.supply.runState = .running then
    answerFrame kind tag body request (linkFrame (s.withLine { s.line with parser := .hunt false }))
  else s

/-! ## Requests of the interface (R180, R183, R185, R186) -/

/-- The data of STATUS-READ (R180, section 12.2). -/
def statusData (s : State) : List Byte :=
  bytesOf 1 s.park.code ++ bytesOf 1 s.line.mode.code ++ bytesOf 1 s.bus.pace.code ++ yesNoByte s.clock.isSome
    ++ bytesOf 1 s.settlement.queue.length ++ bytesOf 1 s.settlement.reserved ++ bytesOf 1 s.supply.startKind.code
    ++ bytesOf 1 s.supply.startCause.code ++ bytesOf 2 s.line.lineErrors

/-- STATUS-READ (R180). -/
def statusRead : Request where
  lengths := [0]
  act _ s := (⟨.done, statusData s⟩, s.withLine { s.line with lineErrors := 0 })

/-- The set that a set byte names (R185). -/
def conditionSetOf (set : Nat) : Option (Fin 17) := if set ≤ 16 then some (Fin.ofNat 17 set) else none

/-- The number of kinds of a set's type (R182). -/
def kindsOfSet (k : Fin 17) : Nat := if k = 0 then 5 else 11

/-- CONDITIONS-READ (R185). -/
def conditionsRead : Request where
  lengths := [1]
  act body s := match conditionSetOf (fieldAt body 0 1) with
    | some k => (⟨.done, conditionsReadData k s.conds⟩, { s with conds := markAllReported k s.conds })
    | none => (⟨.outOfRange, []⟩, s)

/-- CONDITIONS-CLEAR: at least one kind, and kinds of the named set's type only (R186, R193). -/
def conditionsClear : Request where
  lengths := [3]
  act body s := match conditionSetOf (fieldAt body 0 1) with
    | some k =>
      let named := fieldAt body 1 2
      if named = 0 ∨ named ≥ 2 ^ kindsOfSet k then (⟨.outOfRange, []⟩, s)
      else
        let conds := clearReported k named s.conds
        (⟨.done, bytesOf 2 (bitsWhere (fun _ _ => true) 0 (condFlags conds k))⟩, { s with conds := conds })
    | none => (⟨.outOfRange, []⟩, s)

/-- CONDITIONS-MASK: the whole mask is replaced (R183). -/
def conditionsMask : Request where
  lengths := [3]
  act body s :=
    let ped := fieldAt body 0 2
    let park := fieldAt body 2 1
    if ped ≥ 2 ^ 11 ∨ park ≥ 2 ^ 5 then (⟨.outOfRange, []⟩, s)
    else (⟨.done, []⟩, { s with conds := { s.conds with pedMask := BitVec.ofNat 11 ped, parkMask := BitVec.ofNat 5 park } })

/-! ## The commands -/

def execStatusRead (tag : Byte) (body : List Byte) (s : State) : Host.Outcome State Fault Refusal :=
  .next (takeFrame 0x01#8 tag body (some statusRead) s)

def execConditionsRead (tag : Byte) (body : List Byte) (s : State) : Host.Outcome State Fault Refusal :=
  .next (takeFrame 0x1A#8 tag body (some conditionsRead) s)

def execConditionsClear (tag : Byte) (body : List Byte) (s : State) : Host.Outcome State Fault Refusal :=
  .next (takeFrame 0x1B#8 tag body (some conditionsClear) s)

def execConditionsMask (tag : Byte) (body : List Byte) (s : State) : Host.Outcome State Fault Refusal :=
  .next (takeFrame 0x1C#8 tag body (some conditionsMask) s)

/-- LINK_SILENCE_EXPIRY (R181): taken while the timer runs and the device is not HALTED (R188, R192). -/
def execLinkSilenceExpiry (s : State) : Host.Outcome State Fault Refusal :=
  .next (match s.line.silenceTimer with
    | some p =>
      if s.active then
        let s := s.reach p
        s.withLine { s.line with mode := .standalone, silenceTimer := none }
      else s
    | none => s)

/-- REPLY_SENT: the last byte of the reply or BUSY reply under way has been sent (R178). -/
def execReplySent (s : State) : Host.Outcome State Fault Refusal :=
  .next (match s.line.sending with
    | some (.reply _) => frameSent s
    | some (.notice _) => s
    | none => s)

/-- NOTICE: on a free line the next set with news is reported (R184). -/
def execNotice (s : State) : Host.Outcome State Fault Refusal := .next (startNotice s)

/-- NOTICE_SENT: the last byte of the notice under way has been sent (R178, R184). -/
def execNoticeSent (s : State) : Host.Outcome State Fault Refusal :=
  .next (match s.line.sending with
    | some (.notice _) => frameSent s
    | some (.reply _) => s
    | none => s)

end Sys2Proof.Machine
end

