-- ==== Sys2Proof/Machine/Park.lean ====
section
/-! DEFINITION. Tariffs, park clock, park state and park settings (chapter 7), with SITE-LOAD (R92): the requests of the
site computer that configure and read the park. -/

namespace Sys2Proof.Machine

/-- The refusals and the bare DONE of a request's owner. -/
def outOfRange (s : State) : Answer × State := (⟨.outOfRange, []⟩, s)
def done (s : State) : Answer × State := (⟨.done, []⟩, s)

/-! ## Settings (R141, R142, R144) -/

/-- One setting that PARK-SET clamps: its size in bytes, its range, and how it is read and written. -/
structure SettingRow where
  size : Nat
  low : Nat
  high : Nat
  get : Settings → Nat
  set : Nat → Settings → Settings

/-- The first eighteen settings of R141 in the order of its table, with their ranges and their sizes in section 12.2. -/
def settingRows : List SettingRow := [
  ⟨2, 50, 250, (·.fastPeriod), fun v t => { t with fastPeriod := v }⟩,
  ⟨2, 10, 600, (·.quietTime), fun v t => { t with quietTime := v }⟩,
  ⟨1, 1, 60, (·.linkSilence), fun v t => { t with linkSilence := v }⟩,
  ⟨1, 5, 60, (·.authWait), fun v t => { t with authWait := v }⟩,
  ⟨2, 30, 600, (·.plugWait), fun v t => { t with plugWait := v }⟩,
  ⟨1, 0, 3, (·.probeRetries), fun v t => { t with probeRetries := v }⟩,
  ⟨1, 1, 10, (·.endingTimeout), fun v t => { t with endingTimeout := v }⟩,
  ⟨1, 1, 60, (·.suspendLimit), fun v t => { t with suspendLimit := v }⟩,
  ⟨2, 0, 65535, (·.siteCap), fun v t => { t with siteCap := v }⟩,
  ⟨2, 0, 65535, (·.reserve), fun v t => { t with reserve := v }⟩,
  ⟨2, 0, 65535, (·.fallbackLoad), fun v t => { t with fallbackLoad := v }⟩,
  ⟨1, 5, 120, (·.staleTime), fun v t => { t with staleTime := v }⟩,
  ⟨1, 1, 255, (·.agingRounds), fun v t => { t with agingRounds := v }⟩,
  ⟨2, 1, 65535, (·.yieldOn), fun v t => { t with yieldOn := v }⟩,
  ⟨2, 1, 65535, (·.yieldOff), fun v t => { t with yieldOff := v }⟩,
  ⟨4, 1, 999999, (·.maxHold), fun v t => { t with maxHold := v }⟩,
  ⟨1, 1, 24, (·.highMark), fun v t => { t with highMark := v }⟩,
  ⟨1, 1, 255, (·.plausibility), fun v t => { t with plausibility := v }⟩]

/-- A value taken at its nearest limit (R142). -/
def SettingRow.clamp (row : SettingRow) (v : Nat) : Nat := max row.low (min row.high v)

/-- The settings after the rows from position `k` on, the values beginning at offset `off` of the body, with the entries
moved to a limit: position and value taken (R142). DESIGN CHOICE, unsafe: those entries stand in ascending item number, an
order that the spec does not give (notes/assumptions/36.md). -/
def applyRows (presence : Nat) (body : List Byte) :
    (k off : Nat) → List SettingRow → Settings → Settings × List (Nat × Nat)
  | _, _, [], t => (t, [])
  | k, off, row :: rows, t =>
    match presentField presence (k - 1) body off row.size with
    | none => applyRows presence body (k + 1) (off + row.size) rows t
    | some v =>
      let rest := applyRows presence body (k + 1) (off + row.size) rows (row.set (row.clamp v) t)
      (rest.1, if row.clamp v = v then rest.2 else (k, row.clamp v) :: rest.2)

/-- The data of a CLAMPED reply: a count, and an item number and value for each value moved (R193). -/
def clampedData (moved : List (Nat × Nat)) : List Byte :=
  bytesOf 1 moved.length ++ moved.flatMap fun m => bytesOf 1 m.1 ++ bytesOf 4 m.2

/-- The settings that a PARK-SET body gives, with the entries moved to a limit (R142). The four route flags have no range;
bits 4 to 7 of their byte are not read (R193). -/
def applyParkSet (body : List Byte) (t : Settings) : Settings × List (Nat × Nat) :=
  let presence := fieldAt body 0 3
  let applied := applyRows presence body 1 3 settingRows t
  match presentField presence 18 body 32 1 with
  | some flags => ({ applied.1 with routePosted := BitVec.ofNat 4 flags }, applied.2)
  | none => applied

/-- PARK-SET (R142). A presence bit beyond the nineteen settings has no meaning (R193). -/
def parkSet : Request where
  lengths := [33]
  act body s :=
    if fieldAt body 0 3 ≥ 2 ^ 19 then outOfRange s
    else
      let applied := applyParkSet body s.settings
      (if applied.2.isEmpty then ⟨.done, []⟩ else ⟨.clamped, clampedData applied.2⟩, { s with settings := applied.1 })

/-- The nineteen settings in the order and sizes of the PARK-SET values (section 12.2). -/
def settingsBytes (t : Settings) : List Byte :=
  (settingRows.flatMap fun row => bytesOf row.size (row.get t)) ++ bytesOf 1 t.routePosted.toNat

/-- PARK-READ (R144). -/
def parkRead : Request where
  lengths := [0]
  act _ s := (⟨.done, settingsBytes s.settings ++ bytesOf 1 s.park.code ++ yesNoByte s.clock.isSome
    ++ stampBytes (s.clock.map fun c => ⟨c.day, c.second⟩)⟩, s)

/-! ## Park state (R139, R140) -/

/-- PARK-OPEN (R139). -/
def parkOpen : Request where
  lengths := [0]
  act _ s := if s.windows.toList.any (·.enabled) then done { s with park := .opened } else (⟨.wrongState, []⟩, s)

/-- PARK-CLOSE (R140). -/
def parkClose : Request where
  lengths := [0]
  act _ s := done { s with park := .closed }

/-! ## The park clock (R136, R137) -/

/-- CLOCK-SET (R137). -/
def clockSet : Request where
  lengths := [5]
  act body s :=
    let day := fieldAt body 0 2
    let second := fieldAt body 2 3
    if day > 65534 ∨ second > 86399 then outOfRange s else done { s with clock := some ⟨day, second⟩ }

/-- A valid clock advances by one second (R136). -/
def Clock.tick (c : Clock) : Clock :=
  if c.second < 86399 then ⟨c.day, c.second + 1⟩
  else if c.day < 65534 then ⟨c.day + 1, 0⟩ else ⟨0, 0⟩

/-! ## SITE-LOAD (R92) -/

def siteLoad : Request where
  lengths := [2]
  act body s :=
    (⟨.done, bytesOf 2 s.alloc.lastBudget ++ bytesOf 1 s.alloc.lastCandidates ++ bytesOf 1 s.alloc.lastParked⟩,
     { s with alloc := { s.alloc with baseLoad := some ⟨fieldAt body 0 2, s.timebase⟩ } })

/-! ## Tariffs (R131 to R134) -/

/-- The tariff that an index byte names. -/
def tariffIndexOf (index : Nat) : Option (Fin 8) := if index ≤ 7 then some (Fin.ofNat 8 index) else none

def State.setTariff (i : Fin 8) (t : Tariff) (s : State) : State := { s with tariffs := s.tariffs.set i t }

/-- The session records that hold a tariff index (R133). -/
def State.tariffUse (s : State) (i : Fin 8) : Nat :=
  s.records.toList.countP fun r => r.state.granted && r.grant.any (·.tariff == i)

/-- A tariff is in use (R133). -/
def State.tariffInUse (s : State) (i : Fin 8) : Bool := decide (s.tariffUse i > 0)

/-- The first `count` band entries of a body, the entries beginning at offset `off`. -/
def bandsAt (body : List Byte) : (count off : Nat) → List Band
  | 0, _ => []
  | count + 1, off => ⟨fieldAt body off 2, fieldAt body (off + 2) 4⟩ :: bandsAt body count (off + 6)

/-- Start minutes ascend strictly and end at 1,439 at most, and prices lie in range (R132). -/
def bandsAscend : List Band → Bool
  | [] => true
  | [b] => decide (b.start ≤ 1439) && decide (b.price ≤ 9999999)
  | b :: c :: bs => decide (b.start < c.start) && decide (b.price ≤ 9999999) && bandsAscend (c :: bs)

/-- A band list that a defined tariff may have: band 0 starts at minute 0, and R132's conditions hold. -/
def bandsValid (bands : List Band) : Bool :=
  decide (1 ≤ bands.length) && decide (bands.length ≤ 6) && bands.head?.any (·.start == 0) && bandsAscend bands

/-- TARIFF-WRITE (R132): taken whole or not at all. -/
def tariffWrite : Request where
  lengths := [43]
  act body s := match tariffIndexOf (fieldAt body 0 1) with
    | none => outOfRange s
    | some i =>
      let count := fieldAt body 1 1
      let bands := bandsAt body (min count 6) 2
      let grace := fieldAt body 42 1
      if s.tariffInUse i then (⟨.inUse, []⟩, s)
      else if count = 0 ∨ count > 6 ∨ !bandsValid bands ∨ grace > 240 then outOfRange s
      else done (s.setTariff i
        { defined := true, bands := bands, startFee := fieldAt body 38 2, idleFeePerMinute := fieldAt body 40 2,
          idleGrace := grace })

/-- TARIFF-CLEAR (R134). -/
def tariffClear : Request where
  lengths := [1]
  act body s := match tariffIndexOf (fieldAt body 0 1) with
    | none => outOfRange s
    | some i => if s.tariffInUse i then (⟨.inUse, []⟩, s) else done (s.setTariff i {})

/-- Six band entries, of which those past the list read as start minute 0 and price 0 (R134). -/
def bandBytes (bands : List Band) : List Byte :=
  ((bands ++ List.replicate 6 (Band.mk 0 0)).take 6).flatMap fun (b : Band) => bytesOf 2 b.start ++ bytesOf 4 b.price

/-- TARIFF-READ (R134). -/
def tariffRead : Request where
  lengths := [1]
  act body s := match tariffIndexOf (fieldAt body 0 1) with
    | none => outOfRange s
    | some i =>
      let t := s.tariffs.get i
      (⟨.done, yesNoByte t.defined ++ bytesOf 1 t.bands.length ++ bandBytes t.bands ++ bytesOf 2 t.startFee
        ++ bytesOf 2 t.idleFeePerMinute ++ bytesOf 1 t.idleGrace ++ bytesOf 1 (s.tariffUse i)⟩, s)

/-! ## The commands -/

def execParkSet (tag : Byte) (body : List Byte) (s : State) : Host.Outcome State Fault Refusal :=
  .next (takeFrame 0x02#8 tag body (some parkSet) s)

def execParkRead (tag : Byte) (body : List Byte) (s : State) : Host.Outcome State Fault Refusal :=
  .next (takeFrame 0x03#8 tag body (some parkRead) s)

def execParkOpen (tag : Byte) (body : List Byte) (s : State) : Host.Outcome State Fault Refusal :=
  .next (takeFrame 0x04#8 tag body (some parkOpen) s)

def execParkClose (tag : Byte) (body : List Byte) (s : State) : Host.Outcome State Fault Refusal :=
  .next (takeFrame 0x05#8 tag body (some parkClose) s)

def execClockSet (tag : Byte) (body : List Byte) (s : State) : Host.Outcome State Fault Refusal :=
  .next (takeFrame 0x06#8 tag body (some clockSet) s)

def execSiteLoad (tag : Byte) (body : List Byte) (s : State) : Host.Outcome State Fault Refusal :=
  .next (takeFrame 0x07#8 tag body (some siteLoad) s)

def execTariffWrite (tag : Byte) (body : List Byte) (s : State) : Host.Outcome State Fault Refusal :=
  .next (takeFrame 0x08#8 tag body (some tariffWrite) s)

def execTariffRead (tag : Byte) (body : List Byte) (s : State) : Host.Outcome State Fault Refusal :=
  .next (takeFrame 0x09#8 tag body (some tariffRead) s)

def execTariffClear (tag : Byte) (body : List Byte) (s : State) : Host.Outcome State Fault Refusal :=
  .next (takeFrame 0x0A#8 tag body (some tariffClear) s)

end Sys2Proof.Machine
end

