-- ==== Sys2Proof/Machine/AcceptanceRequests.lean ====
section
/-! DEFINITION. The requests of the Acceptance Unit (R34, R35, R47, R52) and the authorization deadline (R48). -/

namespace Sys2Proof.Machine

/-! ## Windows -/

/-- The window that an index byte names. -/
def windowIndexOf (index : Nat) : Option (Fin 12) := if index ≤ 11 then some (Fin.ofNat 12 index) else none

def State.setWindow (i : Fin 12) (w : Window) (s : State) : State := { s with windows := s.windows.set i w }

/-- The window that a WINDOW-WRITE body carries, if every field is in its range (R34, R193). -/
def windowOf (body : List Byte) : Option Window :=
  let hold := fieldAt body 28 4
  let tariff := fieldAt body 32 1
  let route := fieldAt body 33 1
  let rank := fieldAt body 34 1
  let presence := fieldAt body 35 1
  let cap := presentField presence 0 body 36 2
  match yesNoAt body 1, yesNoAt body 18, WindowMode.ofCode (fieldAt body 27 1) with
  | some enabled, some translateEnabled, some mode =>
    if hold = 0 ∨ hold > 999999 ∨ tariff > 7 ∨ route > 3 ∨ rank > 15 ∨ presence > 1 ∨ cap = some 0 then none
    else some { enabled := enabled, base := tokenAt body 2, mask := tokenAt body 10,
                translateEnabled := translateEnabled, translate := tokenAt body 19, mode := mode, localHold := hold,
                tariff := Fin.ofNat 8 tariff, route := Fin.ofNat 4 route, baseRank := Fin.ofNat 16 rank, powerCap := cap }
  | _, _, _ => none

/-- WINDOW-WRITE (R34). -/
def windowWrite : Request where
  lengths := [38]
  act body s := match windowIndexOf (fieldAt body 0 1), windowOf body with
    | some i, some w => done (s.setWindow i w)
    | _, _ => outOfRange s

/-- The WINDOW-WRITE body of a window (section 12.2). The cap bytes of an absent cap are open (notes/assumptions/8.md). -/
def windowBytes (i : Fin 12) (w : Window) : List Byte :=
  bytesOf 1 i.val ++ yesNoByte w.enabled ++ bytesOf 8 w.base.toNat ++ bytesOf 8 w.mask.toNat
    ++ yesNoByte w.translateEnabled ++ bytesOf 8 w.translate.toNat ++ bytesOf 1 w.mode.code ++ bytesOf 4 w.localHold
    ++ bytesOf 1 w.tariff.val ++ bytesOf 1 w.route.val ++ bytesOf 1 w.baseRank.val ++ bytesOf 1 w.powerCap.isSome.toNat
    ++ bytesOf 2 (w.powerCap.getD Config.absentWindowCap)

/-- WINDOW-READ (R35). -/
def windowRead : Request where
  lengths := [1]
  act body s := match windowIndexOf (fieldAt body 0 1) with
    | some i => (⟨.done, windowBytes i (s.windows.get i)⟩, s)
    | none => outOfRange s

/-- WINDOW-CLEAR (R35). -/
def windowClear : Request where
  lengths := [1]
  act body s := match windowIndexOf (fieldAt body 0 1) with
    | some i => done (s.setWindow i {})
    | none => outOfRange s

/-! ## AUTH-DECISION (R46, R47) -/

/-- The record in AUTHORIZING that holds a session number (R47). -/
def State.waiting (s : State) (number : Nat) : Option Ped :=
  Ped.all.find? fun n => (s.session n).state == .authorizing && (s.session n).opening.any (·.number == number)

/-- The fields of an AUTH-DECISION body that a grant reads (section 12.2). -/
structure Decision where
  hold : Nat
  tariff : Option Nat
  cap : Option Nat
  rank : Option Nat
  deriving DecidableEq, Repr

def decisionOf (body : List Byte) : Decision :=
  let presence := fieldAt body 3 1
  ⟨fieldAt body 4 4, presentField presence 0 body 8 1, presentField presence 1 body 9 2, presentField presence 2 body 11 1⟩

/-- The rows of R47 that answer a grant OUT-OF-RANGE. -/
def decisionOutOfRange (d : Decision) (s : State) : Bool :=
  d.hold == 0 || decide (d.hold > 999999)
    || d.tariff.any (fun t => match tariffIndexOf t with | some i => !(s.tariffs.get i).defined | none => true)
    || d.rank.any (fun r => decide (r > 15)) || d.cap == some 0

/-- The offer of a REFERRED grant (R46). -/
def referredOffer (c : CapturedTerms) (d : Decision) : GrantOffer :=
  { kind := .referred, hold := d.hold, tariff := (d.tariff.map (Fin.ofNat 8)).getD c.tariff, route := c.route,
    baseRank := (d.rank.map (Fin.ofNat 16)).getD c.baseRank, cap := d.cap.or c.powerCap }

/-- AUTH-DECISION (R47). Verdict and presence bytes with an undefined code are answered OUT-OF-RANGE after the LATE row
(R193). -/
def authDecision : Request where
  lengths := [13]
  act body s := match s.waiting (fieldAt body 0 2) with
    | none => (⟨.late, []⟩, s)
    | some n =>
      if fieldAt body 3 1 > 7 then outOfRange s
      else match yesNoAt body 2 with
        | none => outOfRange s
        | some false => done (cancelSession n (BitVec.ofNat 8 (fieldAt body 12 1)) s)
        | some true =>
          let d := decisionOf body
          if decisionOutOfRange d s then outOfRange s
          else done (offerGrant n (referredOffer ((s.session n).captured.getD noHitTerms) d) s)

/-! ## QUERY-LIST (R52) -/

/-- The sessions in AUTHORIZING with a running authorization deadline, in ascending pedestal order (R52). -/
def State.queries (s : State) : List QueryEntry :=
  Ped.all.filterMap fun n =>
    let r := s.session n
    if r.state = .authorizing ∧ r.authDeadline.isSome then r.opening.map (queryOf n) else none

/-- QUERY-LIST (R52). -/
def queryList : Request where
  lengths := [0]
  act _ s := (⟨.done, bytesOf 1 s.queries.length ++ s.queries.flatMap QueryEntry.bytes⟩, s)

/-! ## The commands -/

def execWindowWrite (tag : Byte) (body : List Byte) (s : State) : Host.Outcome State Fault Refusal :=
  .next (takeFrame 0x0B#8 tag body (some windowWrite) s)

def execWindowRead (tag : Byte) (body : List Byte) (s : State) : Host.Outcome State Fault Refusal :=
  .next (takeFrame 0x0C#8 tag body (some windowRead) s)

def execWindowClear (tag : Byte) (body : List Byte) (s : State) : Host.Outcome State Fault Refusal :=
  .next (takeFrame 0x0D#8 tag body (some windowClear) s)

def execAuthDecision (tag : Byte) (body : List Byte) (s : State) : Host.Outcome State Fault Refusal :=
  .next (takeFrame 0x16#8 tag body (some authDecision) s)

def execQueryList (tag : Byte) (body : List Byte) (s : State) : Host.Outcome State Fault Refusal :=
  .next (takeFrame 0x17#8 tag body (some queryList) s)

end Sys2Proof.Machine
end

