-- ==== Sys2Proof/Machine/Cover.lean ====
section
/-! DEFINITION. The Cover Guard (chapter 4): the cover cap of a dispensing session at an allocation round. -/

namespace Sys2Proof.Machine

/-- The cover cap figure of a record in DISPENSING (R75). -/
inductive CoverFigure where
  | steps (cap : Nat)
  | exhausted
  deriving DecidableEq, Repr

/-- The committed numerator, in millionths of a minor unit (R77). -/
def committedNumerator (t : Tariff) (m : Meter) : Nat :=
  (chargedStartFee t m + m.idleFee + m.costWhole) * Config.million + m.costRemainder

/-- The cover: hold less committed numerator, in millionths (R78). -/
def coverOf (hold : Nat) (t : Tariff) (m : Meter) : Int :=
  (hold * Config.million : Nat) - (committedNumerator t m : Nat)

/-- The energy allowance in Wh at a price above 0 (R80). -/
def energyAllowance (cover : Int) (price : Nat) : Nat := cover.toNat / price

/-- The cover cap in steps of a cover valued at a price, with fast scan period `period` ms (R80, R81). -/
def coverCap (cover : Int) (price period : Nat) : Nat :=
  if price = 0 then Config.max16
  else min Config.max16 (energyAllowance cover price * 18000 / period)

/-- The price at which the Cover Guard values the cover (R79). -/
def coverPrice (clock : Option Clock) (t : Tariff) : Nat := ((priceNow clock t).map (·.2)).getD 0

/-- The cover cap of a session with its grant, in steps (R77 to R81). -/
def State.coverSteps (s : State) (r : Session) (g : Grant) : Nat :=
  let t := s.tariffOf g
  coverCap (coverOf g.hold t r.meter) (coverPrice s.clock t) s.settings.fastPeriod

/-- The cover cap figure of a record at a round: none unless it is in DISPENSING; exhausted when the cap lies below the
floor of its pedestal (R75, R76, R82). -/
def State.coverFigure (s : State) (n : Ped) : Option CoverFigure :=
  let r := s.session n
  match r.state, r.grant with
  | .dispensing, some g =>
    let cap := s.coverSteps r g
    some (if cap < (s.entry n).floor then .exhausted else .steps cap)
  | _, _ => none

/-- Stage 1 for one record: an exhausted one enters ENDING with COVER-EXHAUSTED (R82). -/
def coverStage (figure : Option CoverFigure) (n : Ped) (s : State) : State :=
  if figure = some .exhausted then enterEnding n .coverExhausted s else s

end Sys2Proof.Machine
end

