-- ==== Sys2Proof/Machine/Allocation.lean ====
section
/-! DEFINITION. The Power Allocation Unit (chapter 5): one allocation round in the ten stages of R89. -/

namespace Sys2Proof.Machine

def State.setAlloc (n : Ped) (a : Alloc) (s : State) : State := s.setSession n { s.session n with alloc := a }

/-- The record is in DISPENSING and its pedestal is not blocked (R93). -/
def State.drawing (s : State) (n : Ped) : Bool := (s.session n).state == .dispensing && !(s.entry n).blocked

/-! ## Stage 2: the budget (R90, R91) -/

/-- The base load of a round (R91). -/
def State.roundBaseLoad (s : State) : Nat :=
  match s.alloc.baseLoad with
  | some b => if s.timebase - b.takenAt ≤ 1000 * s.settings.staleTime then b.steps else s.settings.fallbackLoad
  | none => s.settings.fallbackLoad

/-- The budget of a round: site cap minus base load minus reserve, floored at 0 (R90). -/
def State.roundBudget (s : State) : Nat :=
  ((s.settings.siteCap : Int) - (s.roundBaseLoad : Nat) - (s.settings.reserve : Nat)).toNat

/-! ## Stages 3 to 5: blocked pedestals, countdown and release of yielders (R93, R99, R100) -/

/-- Grant state NONE with share 0 and the three counters 0; the held request stays (R93). -/
def Alloc.setAside (a : Alloc) : Alloc := { request := a.request }

/-- Stage 3: a DISPENSING record on a blocked pedestal is set aside (R93). -/
def blockedStage (n : Ped) (s : State) : State :=
  if (s.session n).state = .dispensing ∧ (s.entry n).blocked then s.setAlloc n (s.session n).alloc.setAside else s

/-- The record is YIELDING in DISPENSING (R99). -/
def Session.yielding (r : Session) : Bool := r.state == .dispensing && r.alloc.grantState == .yielding

/-- Stage 4: one round less to yield; at 0 the record becomes a candidate with its served and wait rounds at 0 (R99). -/
def countdownStage (n : Ped) (s : State) : State :=
  let r := s.session n
  if r.yielding then
    if r.alloc.yieldLeft ≤ 1 then s.setAlloc n r.alloc.setAside
    else s.setAlloc n { r.alloc with yieldLeft := r.alloc.yieldLeft - 1, share := 0 }
  else s

/-- The sum of the floors of the DISPENSING records on pedestals that are not blocked (R100). -/
def State.floorSum (s : State) : Nat := (Ped.all.map fun n => if s.drawing n then (s.entry n).floor else 0).sum

/-- A yielder released at stage 5 (R100). -/
def releaseYielder (n : Ped) (s : State) : State :=
  if (s.session n).yielding then s.setAlloc n (s.session n).alloc.setAside else s

/-- Stage 5: the yielders are released when the budget covers every floor (R100). -/
def releaseStage (budget : Nat) (s : State) : State :=
  if s.floorSum ≤ budget then forPedestals releaseYielder s else s

/-! ## Stage 6: candidates, demands and order (R93 to R98) -/

/-- A candidate of a round, with what the passes read of it. -/
structure Candidate where
  pedestal : Ped
  floor : Nat
  demand : Nat
  rank : Nat
  deriving DecidableEq, Repr

/-- Headroom: demand minus floor (R94). -/
def Candidate.headroom (c : Candidate) : Nat := c.demand - c.floor

/-- The effective rank (R97). -/
def effectiveRank (baseRank waitRounds aging : Nat) : Nat := baseRank - waitRounds / aging

/-- A cap as a term of the demand: at least the floor; an absent cap does not bind (R95). -/
def capTerm (cap : Option Nat) (floor other : Nat) : Nat :=
  match cap with
  | some c => min (max c floor) other
  | none => other

/-- The demand of a candidate: the least of request, rating, authorization cap, host cap and cover cap (R94, R95). -/
def demandOf (r : Session) (e : PedestalEntry) (g : Grant) (cover : Nat) : Nat :=
  let request := max r.alloc.request e.floor
  capTerm g.authCap e.floor (capTerm r.hostCap e.floor (min request (min e.rating cover)))

/-- The candidate that a record is at stage 6, if it is one (R93); `figure` is its cover cap figure of stage 1. -/
def State.candidate (s : State) (figure : Option CoverFigure) (n : Ped) : Option Candidate :=
  let r := s.session n
  match r.grant, figure with
  | some g, some (.steps cover) =>
    if s.drawing n && r.alloc.grantState != .yielding then
      some ⟨n, (s.entry n).floor, demandOf r (s.entry n) g cover,
        effectiveRank g.baseRank.val r.alloc.waitRounds s.settings.agingRounds⟩
    else none
  | _, _ => none

/-- Candidate order: by effective rank, then by pedestal number (R98). -/
abbrev Candidate.le (a b : Candidate) : Prop := a.rank < b.rank ∨ (a.rank = b.rank ∧ a.pedestal ≤ b.pedestal)

/-- The candidates of a round in candidate order (R98). -/
def State.candidates (figure : Ped → Option CoverFigure) (s : State) : List Candidate :=
  (Ped.all.filterMap fun n => s.candidate (figure n) n).insertionSort Candidate.le

/-! ## Stages 7 and 8: the floor pass and the fill (R101 to R103) -/

/-- The floor pass over the candidates in order with the remaining budget: who is POWERED, who is PARKED, and the budget
that remains (R101). -/
def floorPass : Nat → List Candidate → List Candidate × List Candidate × Nat
  | left, [] => ([], [], left)
  | left, c :: cs =>
    if c.floor ≤ left then
      let rest := floorPass (left - c.floor) cs
      (c :: rest.1, rest.2.1, rest.2.2)
    else
      let rest := floorPass left cs
      (rest.1, c :: rest.2.1, rest.2.2)

/-- What a fill to a level uses (R102). -/
def levelUse (level : Nat) (powered : List Candidate) : Nat := (powered.map fun c => min c.headroom level).sum

/-- The level: the largest whole number of steps whose use is at most `left` (R102). Where a level is needed some headroom
lies above it, so that it is at most `left`. -/
def fillLevel (left : Nat) (powered : List Candidate) : Nat := Nat.findGreatest (fun l => levelUse l powered ≤ left) left

/-- The shares at a level, with one leftover step to each session whose headroom is above the level, in candidate order,
until the leftover is used (R102, R103). -/
def sharesAtLevel (level : Nat) : (leftover : Nat) → List Candidate → List (Ped × Nat)
  | _, [] => []
  | leftover, c :: cs =>
    if c.headroom > level ∧ leftover > 0 then
      (c.pedestal, c.floor + level + 1) :: sharesAtLevel level (leftover - 1) cs
    else (c.pedestal, c.floor + min c.headroom level) :: sharesAtLevel level leftover cs

/-- The fill pass: the share of every POWERED session, given the budget left by the floor pass (R102, R103). -/
def fillPass (left : Nat) (powered : List Candidate) : List (Ped × Nat) :=
  if (powered.map Candidate.headroom).sum ≤ left then powered.map fun c => (c.pedestal, c.demand)
  else
    let level := fillLevel left powered
    sharesAtLevel level (left - levelUse level powered) powered

/-! ## Stage 9: counters and yielding (R105, R106) -/

/-- A session PARKED in this round (R101, R105). -/
def Alloc.park (a : Alloc) : Alloc :=
  { a with grantState := .parked, share := 0, waitRounds := satAdd Config.max16 a.waitRounds 1, yieldLeft := 0 }

/-- A session POWERED in this round with a share, counted by the outcome of the whole round, which may make it yield
(R105, R106). -/
def Alloc.power (share : Nat) (someParked : Bool) (yieldOn yieldOff : Nat) (a : Alloc) : Alloc :=
  let served := if someParked then satAdd Config.max16 a.servedRounds 1 else 0
  if served ≥ yieldOn then
    { a with grantState := .yielding, share := 0, waitRounds := 0, servedRounds := 0, yieldLeft := yieldOff }
  else { a with grantState := .powered, share := share, waitRounds := 0, servedRounds := served, yieldLeft := 0 }

def applyPowered (someParked : Bool) (shares : List (Ped × Nat)) (s : State) : State :=
  shares.foldl (fun s x =>
    s.setAlloc x.1 ((s.session x.1).alloc.power x.2 someParked s.settings.yieldOn s.settings.yieldOff)) s

def applyParked (parked : List Candidate) (s : State) : State :=
  parked.foldl (fun s c => s.setAlloc c.pedestal (s.session c.pedestal).alloc.park) s

/-! ## Stage 10: figures and BUDGET-SHORT (R87, R109) -/

/-- The short mark and the last-round figures; BUDGET-SHORT is latched at the first round of a shortage (R109). -/
def reportRound (budget nCandidates nParked : Nat) (s : State) : State :=
  let first := decide (nParked > 0) && !s.alloc.shortMark
  let s := { s with alloc := { s.alloc with
    shortMark := decide (nParked > 0), lastBudget := budget, lastCandidates := nCandidates, lastParked := nParked } }
  if first then latchPark .budgetShort .none s else s

/-! ## The round -/

/-- Stages 1 to 5. The cover figures are those of the state at the round's start (R76). -/
def prepareRound (s : State) : State :=
  let figure := s.coverFigure
  let s := forPedestals (fun n => coverStage (figure n) n) s
  let s := forPedestals blockedStage s
  let s := forPedestals countdownStage s
  releaseStage s.roundBudget s

/-- Stages 6 to 10, with the cover figures of stage 1. -/
def divideBudget (figure : Ped → Option CoverFigure) (s : State) : State :=
  let budget := s.roundBudget
  let candidates := s.candidates figure
  let pass := floorPass budget candidates
  let shares := fillPass pass.2.2 pass.1
  let s := applyPowered (!pass.2.1.isEmpty) shares s
  let s := applyParked pass.2.1 s
  reportRound budget candidates.length pass.2.1.length s

/-- One allocation round (R88, R89). -/
def allocationRound (s : State) : State := divideBudget s.coverFigure (prepareRound s)

end Sys2Proof.Machine
end

