-- ==== Sys2Proof/Machine/Bus.lean ====
section
/-! DEFINITION. The Pedestal Bus Controller (chapters 8 and 9): command frames, the places of a scan cycle, a good reply
with the reactions of the Session Table (R5, R6), a miss, the alert slot and STOP-ALL. -/

namespace Sys2Proof.Machine

def State.withBus (b : Bus) (s : State) : State := { s with bus := b }

/-! ## Command frames (R3, R4, R152, R164) -/

/-- The reason byte shown with FINISHED. -/
def Session.endReasonByte (r : Session) : Byte := (r.endReason.map EndReason.code).getD noReason

/-- The display code of a record with its reason byte, before the overrides (R3). -/
def Session.display (r : Session) : DisplayCode × Byte :=
  match r.state with
  | .free => (.idle, noReason)
  | .plugged => (.presentToken, noReason)
  | .authorizing => (.authorizing, noReason)
  | .authorized => (.connectVehicle, noReason)
  | .probing => (.checkingCable, noReason)
  | .dispensing =>
    match r.alloc.grantState with
    | .powered => (.charging, noReason)
    | .none | .parked => (.waitingForPower, reasonParked)
    | .yielding => (.waitingForPower, reasonYielding)
  | .suspended => (.paused, noReason)
  | .occupying => (.complete, noReason)
  | .ending | .released => (.finished, r.endReasonByte)

/-- The display code with the two overrides of R3: OUT-OF-SERVICE first, then a refusal display. -/
def displayOf (r : Session) (e : PedestalEntry) : DisplayCode × Byte :=
  if e.blocked || e.estop then (.outOfService, noReason)
  else match r.refusal with
    | some d => (.refused, d.reason)
    | none => r.display

/-- The command field of a frame (R4, R164). -/
def commandOf (r : Session) : BusCommand :=
  match r.state with
  | .free | .plugged | .authorizing | .authorized => .none
  | .probing => if r.probeSend then .probe else .none
  | .dispensing | .suspended | .occupying => .energize
  | .ending | .released => .stop

/-- The setpoint of a frame: the share of a POWERED DISPENSING record on a pedestal that is not blocked, otherwise 0 (R4,
R108). -/
def setpointOf (r : Session) (e : PedestalEntry) : Nat :=
  if r.state = .dispensing ∧ r.alloc.grantState = .powered ∧ !e.blocked then r.alloc.share else 0

/-- The command frame to a pedestal, formed from the state as it stands (R152). -/
def formCommand (n : Ped) (s : State) : CommandFrame :=
  let r := s.session n
  let e := s.entry n
  let d := displayOf r e
  { address := n.number, command := commandOf r, setpoint := setpointOf r e, display := d.1, reason := d.2,
    extension := e.extension }

/-- A command is formed and sent, and its reply is awaited; the probe-send mark is cleared as a frame with PROBE is formed
(R152, R164). -/
def sendCommand (n : Ped) (outOfTurn : Bool) (s : State) : State :=
  let frame := formCommand n s
  let s := s.withBus { s.bus with lastFrame := some frame, phase := .exchange ⟨n, outOfTurn, false⟩ }
  if frame.command = .probe then s.setSession n { s.session n with probeSend := false } else s

/-- The next turn among the pedestals still to come: the first enrolled one receives its command, and after the last turn
comes the alert slot (R150). -/
def nextTurn (toCome : List Ped) (s : State) : State :=
  match toCome.find? fun n => (s.entry n).enrolled with
  | some n => sendCommand n false s
  | none => s.withBus { s.bus with phase := .alertSlot }

/-- The STOP-ALL frame (section 12.4). -/
def stopAllFrame : CommandFrame :=
  { address := 31, command := .stop, setpoint := 0, display := .outOfService, reason := 0x0C#8, extension := 0 }

/-- STOP-ALL is sent, the cycle is abandoned, and no further frame is sent until the next start (R160). -/
def sendStopAll (s : State) : State :=
  s.withBus { s.bus with lastFrame := some stopAllFrame, phase := .stopped, stopAllOwed := false }

/-- The Pedestal Bus Controller is asked for STOP-ALL: at once, or when the exchange under way ends; not a second time
(R160, R189). -/
def requestStopAll (s : State) : State :=
  match s.bus.phase with
  | .exchange _ => s.withBus { s.bus with stopAllOwed := true }
  | .stopped => s
  | .idle | .alertSlot => sendStopAll s

/-- The cycle's exchanges are over; the next thing on the bus is the next cycle start (R150). -/
def endCycle (s : State) : State := s.withBus { s.bus with phase := .idle }

/-- What follows the end of an exchange (R150, R159, R160). -/
def endExchange (e : Exchange) (s : State) : State :=
  if s.bus.stopAllOwed then sendStopAll s
  else if e.outOfTurn then endCycle s
  else nextTurn (Ped.all.filter fun m => decide (e.pedestal < m)) s

/-! ## The faults of a reply (R168 to R172) -/

/-- The entry's blocked and e-stop fields after the fault set and the released flag (R169, R171). -/
def PedestalEntry.applyFaults (r : StatusReply) (e : PedestalEntry) : PedestalEntry :=
  { e with blocked := e.blocked || r.isolation, estop := r.estop || (e.estop && !r.released) }

/-- The Pedestal Bus Controller applies the fault set and the released flag to the table, latching PROBE-FAULT and ESTOP
where the field was clear (R168, R169, R171). -/
def tableFaults (n : Ped) (r : StatusReply) (s : State) : State :=
  let e := s.entry n
  let s := s.setEntry n (e.applyFaults r)
  let s := if r.isolation && !e.blocked then latchPed n .probeFault .none s else s
  if r.estop && !e.estop then latchPed n .estop .none s else s

/-- A fault as a stop cause: closed at once in PROBING, ENDING from DISPENSING, SUSPENDED and OCCUPYING; no effect elsewhere,
AUTHORIZED included (R14, R17, R19, R172). -/
def faultStop (n : Ped) (why : EndReason) (s : State) : State :=
  if (s.session n).state = .authorized then s else stopSession n why s

/-- The Session Table takes the fault set (R5). Which of ESTOP and the other two gives the end reason when both are present
is open (notes/assumptions/10.md). -/
def sessionFaults (n : Ped) (r : StatusReply) (s : State) : State :=
  let fault := r.overtemp || r.converter
  if r.estop && (!fault || Config.estopTakenFirst r.faults) then faultStop n .estop s
  else if fault then faultStop n .pedestalFault s
  else s

/-! ## The plug state of a reply (R6) -/

/-- The plug state against which a reply is tested: the last one, or the record's has-plug while none is held (R6). -/
def State.plugBefore (s : State) (n : Ped) : Bool := (s.entry n).lastPlug.getD ((s.session n).hasPlug == .yes)

/-- The state's reaction to a plug-in, with has-plug already yes (R7, R14). -/
def reactPlugIn (n : Ped) (s : State) : State :=
  match (s.session n).state with
  | .free => putSession n ((s.session n).enter .plugged) s
  | .authorized =>
    if (s.entry n).estop then closeSession n .estop s
    else if (s.entry n).blocked then closeSession n .pedestalFault s
    else enterProbing n s
  | .plugged | .authorizing | .probing | .dispensing | .suspended | .occupying | .ending | .released => s

/-- The state's reaction to a plug-out, with has-plug already no (R8, R17, R19 to R21, R24, R27). -/
def reactPlugOut (n : Ped) (s : State) : State :=
  match (s.session n).state with
  | .plugged | .released => putSession n (s.session n).toFree s
  | .probing | .dispensing | .suspended | .occupying => stopSession n .vehicleUnplug s
  | .free | .authorizing | .authorized | .ending => s

/-- The Session Table takes the plug state (R6, R10, R27, R151). -/
def takePlug (n : Ped) (plug : Bool) (s : State) : State :=
  let before := s.plugBefore n
  if plug && !before then
    let s := quietActivity (latchPed n .plugIn .none s)
    reactPlugIn n (s.setSession n { s.session n with hasPlug := .yes, refusal := none })
  else if !plug && before then
    let s := latchPed n .plugOut .none s
    reactPlugOut n (s.setSession n { s.session n with hasPlug := .no, refusal := none })
  else if (s.session n).state = .released then
    if plug then s.setSession n { s.session n with hasPlug := .yes } else putSession n (s.session n).toFree s
  else s

/-! ## The token of a reply (R154) -/

/-- A presentation is stored, and handed on once if it is new and a number was held before (R154). -/
def takePresentation (n : Ped) (p : Presentation) (s : State) : State :=
  let e := s.entry n
  let s := s.setEntry n { e with lastPresentation := some p.number }
  match e.lastPresentation with
  | some last => if last = p.number then s else takeToken n p.token p.source (quietActivity s)
  | none => s

/-! ## The probe result of a reply (R165, R170) -/

/-- The length of a MATCH is acceptable (R165). -/
def cableFits (length maximum : Nat) : Bool := maximum == 0 || decide (length ≤ maximum)

/-- The result of the attempt under way (R17, R165, R170). -/
def takeProbe (n : Ped) (probe : ProbeResult) (count : Nat) (s : State) : State :=
  if (s.session n).state = .probing then
    match probe with
    | .none => s
    | .openCircuit => attemptFailed n s
    | .short =>
      let s := s.setEntry n { s.entry n with blocked := true }
      closeSession n .cableShort (latchPed n .probeFault .none s)
    | .matched length =>
      if cableFits length (s.entry n).maxCable then energize n count s else closeSession n .cableLong s
  else s

/-! ## The vehicle's fields and the present power (R19 to R21, R24) -/

/-- The vehicle complete flag (R19, R20). -/
def takeComplete (n : Ped) (complete : Bool) (s : State) : State :=
  match (s.session n).state with
  | .dispensing | .suspended => if complete then enterOccupying n s else s
  | .free | .plugged | .authorizing | .authorized | .probing | .occupying | .ending | .released => s

/-- The vehicle request (R19 to R21, R94). -/
def takeVehicleRequest (n : Ped) (request : Nat) (complete : Bool) (s : State) : State :=
  match (s.session n).state with
  | .dispensing =>
    if request = 0 then (if complete then s else enterSuspended n s)
    else s.setAlloc n { (s.session n).alloc with request := request }
  | .suspended | .occupying => if request > 0 ∧ !complete then returnToDispensing n request s else s
  | .free | .plugged | .authorizing | .authorized | .probing | .ending | .released => s

/-- The present power: below the ending threshold it closes a session that was in ENDING when the reply came (R24). The end
reason was set on entry to ENDING. DESIGN CHOICE, unsafe: a session stopped by a request while the exchange was under way
is closed by its reply as well, although the frame carried ENERGIZE (notes/assumptions/33.md). -/
def takePower (n : Ped) (wasEnding : Bool) (power : Nat) (s : State) : State :=
  if wasEnding && (s.session n).state == .ending && decide (power < Config.endingThreshold) then
    closeSession n .userStop s
  else s

/-! ## A good reply (R5, R153) -/

/-- Steps 1 and 2 of R153: the miss counter and the meter count, and the Metering Unit. -/
def meterSteps (n : Ped) (count : Nat) (s : State) : State :=
  meterReply n count (s.setEntry n { s.entry n with misses := 0, lastMeter := count })

/-- Step 3 of R153, in the order of R5. `wasEnding`: the record was in ENDING when the reply came. -/
def sessionSteps (n : Ped) (wasEnding : Bool) (r : StatusReply) (s : State) : State :=
  let s := sessionFaults n r (tableFaults n r s)
  let s := takePlug n r.plug s
  let s := match r.presentation with
    | some p => takePresentation n p s
    | none => s
  let s := takeProbe n r.probe r.meter s
  let s := takeComplete n r.complete s
  let s := takeVehicleRequest n r.request r.complete s
  takePower n wasEnding r.power s

/-- Steps 4 and 5 of R153: the last plug state, and a LOST pedestal made ONLINE with PEDESTAL-BACK (R157). -/
def linkSteps (n : Ped) (plug : Bool) (s : State) : State :=
  let e := s.entry n
  let s := s.setEntry n { e with lastPlug := some plug, link := .online }
  if e.link = .lost then latchPed n .pedestalBack .none s else s

/-- A good reply taken by the five steps of R153. -/
def takeReply (n : Ped) (r : StatusReply) (s : State) : State :=
  linkSteps n r.plug (sessionSteps n ((s.session n).state == .ending) r (meterSteps n r.meter s))

/-! ## A miss (R155, R157) -/

/-- The two counters after a miss (R155). -/
def PedestalEntry.countMiss (e : PedestalEntry) : PedestalEntry :=
  { e with misses := satAdd 255 e.misses 1
           frameErrors := if e.missMark then e.frameErrors else satAdd 255 e.frameErrors 1
           missMark := true }

/-- A miss of a pedestal: it is counted, and the fifth consecutive one makes an ONLINE pedestal LOST (R155, R157). -/
def takeMiss (n : Ped) (s : State) : State :=
  let e := (s.entry n).countMiss
  if e.link = .online ∧ e.misses ≥ Config.lostMisses then
    loseSession n (latchPed n .pedestalLost .none (s.setEntry n { e with link := .lost, lastPlug := none }))
  else s.setEntry n e

/-- The end of an exchange with what came of it: discarded for a withdrawn pedestal (R148), taken in part once STOP-ALL is
owed (R160), and otherwise a good reply or a miss. -/
def takeExchange (e : Exchange) (reply : Option StatusReply) (s : State) : State :=
  if e.void then s
  else match reply with
    | some r => if s.bus.stopAllOwed then meterSteps e.pedestal r.meter s else takeReply e.pedestal r s
    | none => takeMiss e.pedestal s

/-! ## The alert slot (R158) -/

/-- The contention field over the lowest `bits` bits: at each bit the bus is dominant (0) if some node still contending
drives it, and the nodes that left it recessive then withdraw (R158). -/
def contention : (bits : Nat) → List BusAddress → Nat
  | 0, _ => 0
  | k + 1, nodes =>
    if nodes.all fun a => a.getLsbD k then 2 ^ k + contention k nodes
    else contention k (nodes.filter fun a => !a.getLsbD k)

/-- The field that the device reads; 31 when nobody contends (R158). -/
def contentionField (nodes : List BusAddress) : Nat := contention 5 nodes

/-- The alert slot with its reading: an empty slot ends the cycle, another is an alert for the quiet timer and gives an
enrolled winner an out-of-turn exchange (R158, R159). -/
def takeAlert (reading : Nat) (s : State) : State :=
  if reading = 31 then endCycle s
  else
    let s := quietActivity s
    match pedestalOf reading with
    | some n => if (s.entry n).enrolled then sendCommand n true s else endCycle s
    | none => endCycle s

/-! ## The cycle start (R150) -/

/-- The period of a cycle that begins with the present pace (R150). -/
def State.scanPeriod (s : State) : Nat :=
  match s.bus.pace with
  | .fast => s.settings.fastPeriod
  | .slow => Config.slowPeriodMs

/-- A cycle start: the round at FAST pace, the next start placed, the miss marks cleared, and the first turn (R150, R155).
DESIGN CHOICE, unsafe: the round is tied to the pace alone, so that it also runs, over no candidate, at a pace that a
refused token or an alert made FAST while all records are FREE (notes/assumptions/35.md). -/
def startCycle (s : State) : State :=
  let s := s.reach s.bus.nextCycle
  let s := s.withBus { s.bus with cyclePace := s.bus.pace, nextCycle := s.timebase + s.scanPeriod }
  let s := if s.bus.pace = .fast then allocationRound s else s
  let s := forPedestals (fun n s => s.setEntry n { s.entry n with missMark := false }) s
  nextTurn Ped.all s

/-! ## The commands -/

/-- CYCLE_START: taken while RUNNING with no cycle under way (R150, R188). -/
def execCycleStart (s : State) : Host.Outcome State Fault Refusal :=
  .next (if s.supply.runState = .running ∧ s.bus.phase = .idle then startCycle s else s)

/-- STATUS_REPLY: the bytes received end the exchange under way, as a good reply or, if R194 refuses them, as a miss (R153). -/
def execStatusReply (bytes : List Byte) (s : State) : Host.Outcome State Fault Refusal :=
  .next (match s.bus.phase with
    | .exchange e => endExchange e (takeExchange e (decodeReply e.pedestal bytes) s)
    | .idle | .alertSlot | .stopped => s)

/-- EXCHANGE_MISS: the exchange under way ends in a miss (R153, R155). The causes have one effect. -/
def execExchangeMiss (_cause : MissCause) (s : State) : Host.Outcome State Fault Refusal :=
  .next (match s.bus.phase with
    | .exchange e => endExchange e (takeExchange e none s)
    | .idle | .alertSlot | .stopped => s)

/-- ALERT_SLOT: the contention of the nodes in the open slot (R158). -/
def execAlertSlot (contenders : List BusAddress) (s : State) : Host.Outcome State Fault Refusal :=
  .next (match s.bus.phase with
    | .alertSlot => takeAlert (contentionField contenders) s
    | .idle | .exchange _ | .stopped => s)

/-- QUIET_TIMER_EXPIRY (R151). -/
def execQuietTimerExpiry (s : State) : Host.Outcome State Fault Refusal :=
  .next (match s.bus.quietTimer with
    | some p =>
      if s.active then
        let s := s.reach p
        s.withBus { s.bus with pace := .slow, quietTimer := none }
      else s
    | none => s)

end Sys2Proof.Machine
end

