-- ==== Sys2Proof/Machine/PedestalRequests.lean ====
section
/-! DEFINITION. The requests of the Pedestal Bus Controller: enrolment, withdrawal, unblocking and the readings of the
pedestal table (R147 to R149, R156, R173). -/

namespace Sys2Proof.Machine

/-- The four fields that an ENROL writes beside `enrolled` (R147). -/
def PedestalEntry.enrol (rating floor extension maxCable : Nat) (e : PedestalEntry) : PedestalEntry :=
  { e with enrolled := true, rating := rating, floor := floor, extension := extension, maxCable := maxCable }

/-- A session POWERED in DISPENSING loses its share at a re-enrolment; its counters keep their values (R108). -/
def dropShare (n : Ped) (s : State) : State :=
  let r := s.session n
  if r.state = .dispensing ∧ r.alloc.grantState = .powered then
    s.setAlloc n { r.alloc with grantState := .none, share := 0 }
  else s

/-- ENROL (R147): a new enrolment starts from the not-enrolled values; a re-enrolment keeps the entry's other fields. -/
def enrol : Request where
  lengths := [7]
  act body s :=
    let rating := fieldAt body 1 2
    let floor := fieldAt body 3 2
    let extension := fieldAt body 5 1
    match pedestalOf (fieldAt body 0 1) with
    | none => outOfRange s
    | some n =>
      if rating < 10 ∨ rating > 5000 ∨ floor < 10 ∨ floor > rating ∨ extension > 7 then outOfRange s
      else
        let e := if (s.entry n).enrolled then s.entry n else {}
        let s := if (s.entry n).enrolled then dropShare n s else s
        done (s.setEntry n (e.enrol rating floor extension (fieldAt body 6 1)))

/-- An exchange under way with a pedestal that is withdrawn will be discarded (R148). -/
def voidExchange (n : Ped) (s : State) : State :=
  match s.bus.phase with
  | .exchange e => if e.pedestal = n then s.withBus { s.bus with phase := .exchange { e with void := true } } else s
  | .idle | .alertSlot | .stopped => s

/-- WITHDRAW (R148). -/
def withdraw : Request where
  lengths := [1]
  act body s := match pedestalOf (fieldAt body 0 1) with
    | none => outOfRange s
    | some n =>
      if !(s.entry n).enrolled then (⟨.notFound, []⟩, s)
      else if (s.session n).state ≠ .free then (⟨.inUse, []⟩, s)
      else done (voidExchange n (s.setEntry n {}))

/-- UNBLOCK (R173). -/
def unblock : Request where
  lengths := [1]
  act body s := match pedestalOf (fieldAt body 0 1) with
    | none => outOfRange s
    | some n =>
      if !(s.entry n).enrolled then (⟨.notFound, []⟩, s)
      else if (s.session n).state ≠ .free ∧ (s.session n).state ≠ .released then (⟨.inUse, []⟩, s)
      else done (s.setEntry n { s.entry n with blocked := false })

/-- The fields of an entry as PEDESTAL-READ gives them (R149, section 12.2). The number byte of an absent presentation
number is open (notes/assumptions/9.md). -/
def PedestalEntry.bytes (e : PedestalEntry) : List Byte :=
  yesNoByte e.enrolled ++ bytesOf 2 e.rating ++ bytesOf 2 e.floor ++ bytesOf 1 e.extension ++ bytesOf 1 e.maxCable
    ++ bytesOf 1 e.link.code ++ yesNoByte e.blocked ++ yesNoByte e.estop ++ bytesOf 3 e.lastMeter
    ++ bytesOf 1 (match e.lastPlug with | some false => 0 | some true => 1 | none => 0xFF)
    ++ (match e.lastPresentation with | some p => bytesOf 1 1 ++ [p] | none => bytesOf 1 0 ++ bytesOf 1 Config.absentPresentation)
    ++ bytesOf 1 e.misses ++ bytesOf 1 e.frameErrors

/-- PEDESTAL-READ (R149). -/
def pedestalRead : Request where
  lengths := [1]
  act body s := match pedestalOf (fieldAt body 0 1) with
    | none => outOfRange s
    | some n => (⟨.done, (s.entry n).bytes⟩, s)

/-- COUNTERS-READ (R156). -/
def countersRead : Request where
  lengths := [0]
  act _ s :=
    (⟨.done, Ped.all.flatMap fun n => bytesOf 1 (s.entry n).frameErrors⟩,
     forPedestals (fun n s => s.setEntry n { s.entry n with frameErrors := 0, missMark := false }) s)

/-! ## The commands -/

def execEnrol (tag : Byte) (body : List Byte) (s : State) : Host.Outcome State Fault Refusal :=
  .next (takeFrame 0x0E#8 tag body (some enrol) s)

def execWithdraw (tag : Byte) (body : List Byte) (s : State) : Host.Outcome State Fault Refusal :=
  .next (takeFrame 0x0F#8 tag body (some withdraw) s)

def execUnblock (tag : Byte) (body : List Byte) (s : State) : Host.Outcome State Fault Refusal :=
  .next (takeFrame 0x10#8 tag body (some unblock) s)

def execPedestalRead (tag : Byte) (body : List Byte) (s : State) : Host.Outcome State Fault Refusal :=
  .next (takeFrame 0x11#8 tag body (some pedestalRead) s)

def execCountersRead (tag : Byte) (body : List Byte) (s : State) : Host.Outcome State Fault Refusal :=
  .next (takeFrame 0x12#8 tag body (some countersRead) s)

end Sys2Proof.Machine
end

