-- ==== Sys2Proof/Machine/SessionRequests.lean ====
section
/-! DEFINITION. The requests that name a session record (R30, R31, R96) and those of the settlement queue (R122 to R125). -/

namespace Sys2Proof.Machine

/-- The session number that a record holds: in the open states alone (R1). -/
def Session.number (r : Session) : Option Nat := if r.state.isOpen then r.opening.map (·.number) else none

/-! ## SESSION-STOP (R30) -/

/-- The effect of SESSION-STOP on an open record (R30). -/
def hostStop (n : Ped) (s : State) : State :=
  if (s.session n).state = .authorizing then cancelSession n EndReason.hostStop.code s else stopSession n .hostStop s

/-- The rows of SESSION-STOP and SESSION-CAP that test the session number: the reply of the failing row, if one fails. -/
def numberCheck (given : Option Nat) (r : Session) : Option ReplyCode :=
  match given with
  | some k => if r.number = some k then none else some .notFound
  | none => if r.state.isOpen then none else some .wrongState

/-- SESSION-STOP: one byte, or three with a session number (R30). -/
def sessionStop : Request where
  lengths := [1, 3]
  act body s :=
    let given := if body.length = 3 then some (fieldAt body 1 2) else none
    match pedestalOf (fieldAt body 0 1) with
    | none => outOfRange s
    | some n =>
      if given = some 0 then outOfRange s
      else match numberCheck given (s.session n) with
        | some code => (⟨code, []⟩, s)
        | none => done (hostStop n s)

/-! ## SESSION-CAP (R96) -/

def State.setHostCap (n : Ped) (cap : Option Nat) (s : State) : State :=
  s.setSession n { s.session n with hostCap := cap }

/-- SESSION-CAP (R96). A presence bit beyond the two has no meaning (R193). -/
def sessionCap : Request where
  lengths := [6]
  act body s :=
    let presence := fieldAt body 1 1
    let given := presentField presence 0 body 2 2
    let cap := presentField presence 1 body 4 2
    match pedestalOf (fieldAt body 0 1) with
    | none => outOfRange s
    | some n =>
      if presence > 3 ∨ cap = some 0 ∨ given = some 0 then outOfRange s
      else match numberCheck given (s.session n) with
        | some code => (⟨code, []⟩, s)
        | none =>
          let floor := (s.entry n).floor
          match cap with
          | none => done (s.setHostCap n none)
          | some c =>
            if c < floor then (⟨.clamped, clampedData [(0, floor)]⟩, s.setHostCap n (some floor))
            else done (s.setHostCap n (some c))

/-! ## SESSION-READ (R31, section 12.2) -/

/-- The whole seconds left to a point, rounded up; 0xFFFF for an absent one. -/
def secondsLeft (now : Point) : Option Point → Nat
  | some p => (p - now + 999) / 1000
  | none => 0xFFFF

/-- The whole seconds since a point, truncated; 0xFFFF for an absent one. -/
def secondsSince (now : Point) : Option Point → Nat
  | some p => (now - p) / 1000
  | none => 0xFFFF

/-- The fields of the opening: their absent forms are session number 0 and window index 0xFF. -/
def openingBytes : Option Opening → List Byte
  | some o => bytesOf 2 o.number ++ bytesOf 8 o.token.toNat ++ bytesOf 1 o.source.code ++ windowIndexByte o.window
      ++ bytesOf 8 o.account.toNat
  | none => bytesOf 2 0 ++ bytesOf 8 0 ++ bytesOf 1 0 ++ windowIndexByte none ++ bytesOf 8 0

/-- The fields of the grant: their absent forms are grant kind 0xFF and a cap of 0. -/
def grantBytes : Option Grant → List Byte
  | some g => bytesOf 1 g.kind.code ++ bytesOf 1 g.tariff.val ++ bytesOf 4 g.hold ++ bytesOf 1 g.route.val
      ++ bytesOf 1 g.baseRank.val ++ bytesOf 2 (g.authCap.getD 0)
  | none => bytesOf 1 0xFF ++ bytesOf 1 0 ++ bytesOf 4 0 ++ bytesOf 1 0 ++ bytesOf 1 0 ++ bytesOf 2 0

/-- The allocation fields that SESSION-READ reports (R87). -/
def Alloc.bytes (a : Alloc) : List Byte :=
  bytesOf 1 a.grantState.code ++ bytesOf 2 a.share ++ bytesOf 2 a.waitRounds ++ bytesOf 2 a.servedRounds
    ++ bytesOf 2 a.yieldLeft

def Meter.bytes (m : Meter) : List Byte :=
  bytesOf 4 m.energyTotal ++ m.bandEnergy.toList.flatMap (bytesOf 4) ++ bytesOf 4 m.costWhole
    ++ bytesOf 4 m.costRemainder ++ yesNoByte m.startFeeCharged ++ bytesOf 4 m.occupyingSeconds
    ++ bytesOf 4 m.idleMinutes ++ bytesOf 4 m.idleFee

/-- The refusal display: reason and seconds left, or 0x00 with 0. -/
def refusalBytes (now : Point) : Option RefusalDisplay → List Byte
  | some d => [d.reason] ++ bytesOf 1 ((d.until_ - now + 999) / 1000)
  | none => bytesOf 1 0 ++ bytesOf 1 0

/-- The SESSION-READ reply of a record, 121 bytes (section 12.2). -/
def sessionBytes (n : Ped) (now : Point) (r : Session) : List Byte :=
  bytesOf 1 n.number ++ bytesOf 1 r.state.code ++ bytesOf 1 r.hasPlug.code ++ openingBytes r.opening
    ++ grantBytes r.grant ++ bytesOf 2 (r.hostCap.getD 0) ++ r.alloc.bytes ++ bytesOf 3 r.baseline ++ r.meter.bytes
    ++ bytesOf 1 r.flags.bits ++ stampBytes (r.opening.map (·.opened)) ++ stampBytes r.energized
    ++ [(r.endReason.map EndReason.code).getD noReason] ++ bytesOf 1 r.probeAttempts
    ++ bytesOf 2 (secondsLeft now r.authDeadline) ++ bytesOf 2 (secondsLeft now r.plugDeadline)
    ++ bytesOf 2 (secondsLeft now r.probeDeadline) ++ bytesOf 2 (secondsLeft now r.endingDeadline)
    ++ bytesOf 2 (secondsSince now r.suspendStart) ++ refusalBytes now r.refusal

/-- SESSION-READ (R31). -/
def sessionRead : Request where
  lengths := [1]
  act body s := match pedestalOf (fieldAt body 0 1) with
    | none => outOfRange s
    | some n => (⟨.done, sessionBytes n s.timebase (s.session n)⟩, s)

/-! ## The settlement queue (R122 to R125) -/

/-- The data of a fetch reply: the PENDING records left, then the record (section 12.2). -/
def fetchData (left : Nat) (r : SettlementRecord) : List Byte := bytesOf 1 left ++ r.bytes

/-- SETTLE-FETCH without a session number (R122, R124). -/
def fetchUnnamed (s : State) : Answer × State :=
  match fetchOldest s.settlement.queue with
  | some (r, queue) =>
    (⟨.done, fetchData (pendingCount queue) r⟩, s.withSettlement { s.settlement with queue := queue })
  | none => (⟨.empty, []⟩, s)

/-- SETTLE-FETCH with a session number (R123). -/
def fetchNamed (number : Nat) (s : State) : Answer × State :=
  if number = 0 then outOfRange s
  else match recordNumbered number s.settlement.queue with
    | none => (⟨.notFound, []⟩, s)
    | some r =>
      if r.delivery = .pending then (⟨.notDelivered, []⟩, s)
      else (⟨.done, fetchData (pendingCount s.settlement.queue) r⟩, s)

/-- SETTLE-FETCH: no body, or two bytes with a session number (R122, R123). -/
def settleFetch : Request where
  lengths := [0, 2]
  act body s := if body.isEmpty then fetchUnnamed s else fetchNamed (fieldAt body 0 2) s

/-- SETTLE-CONFIRM (R125). -/
def settleConfirm : Request where
  lengths := [2]
  act body s :=
    let number := fieldAt body 0 2
    if number = 0 then outOfRange s
    else match recordNumbered number s.settlement.queue with
      | none => (⟨.notFound, []⟩, s)
      | some r =>
        if r.delivery = .pending then (⟨.notDelivered, []⟩, s)
        else done (s.withSettlement { s.settlement with queue := removeNumbered number s.settlement.queue })

/-! ## The commands -/

def execSessionRead (tag : Byte) (body : List Byte) (s : State) : Host.Outcome State Fault Refusal :=
  .next (takeFrame 0x13#8 tag body (some sessionRead) s)

def execSessionStop (tag : Byte) (body : List Byte) (s : State) : Host.Outcome State Fault Refusal :=
  .next (takeFrame 0x14#8 tag body (some sessionStop) s)

def execSessionCap (tag : Byte) (body : List Byte) (s : State) : Host.Outcome State Fault Refusal :=
  .next (takeFrame 0x15#8 tag body (some sessionCap) s)

/-- SETTLE_FETCH: the frame of kind 0x18 without a session number. -/
def execSettleFetch (tag : Byte) (body : List Byte) (s : State) : Host.Outcome State Fault Refusal :=
  .next (takeFrame 0x18#8 tag body (some settleFetch) s)

/-- SETTLE_FETCH_NAMED: the frame of kind 0x18 with a session number. -/
def execSettleFetchNamed (tag : Byte) (body : List Byte) (s : State) : Host.Outcome State Fault Refusal :=
  .next (takeFrame 0x18#8 tag body (some settleFetch) s)

def execSettleConfirm (tag : Byte) (body : List Byte) (s : State) : Host.Outcome State Fault Refusal :=
  .next (takeFrame 0x19#8 tag body (some settleConfirm) s)

end Sys2Proof.Machine
end

