-- ==== Sys2Proof/Machine/Supply.lean ====
section
/-! DEFINITION. The Supply Monitor (chapter 11): stop causes, HALTED, retention, the four starts, and the restarts that the
site computer asks for. -/

namespace Sys2Proof.Machine

def State.withSupply (u : Supply) (s : State) : State := { s with supply := u }

/-! ## Stop causes (R189) -/

/-- The Host Line Interface stops sending at once, and a partial incoming frame is dropped (R189, step 3). -/
def cutHostLine (s : State) : State :=
  s.withLine { s.line with sending := none, replyWaiting := none, busyList := [], parser := .hunt false }

/-- A stop cause acted on (R189): every session closed or cancelled, STOP-ALL asked for, the host line cut, and the run state
HALTED. A pending restart is replaced by the start of R190. DESIGN CHOICE, unsafe: with an exchange under way the run state
is HALTED at once, and the exchange's end and STOP-ALL come in HALTED (notes/assumptions/39.md). -/
def haltDevice (s : State) : State :=
  let s := cutHostLine (requestStopAll (forPedestals (haltSession .supplyLoss) s))
  s.withSupply { s.supply with runState := .halted, pendingRestart := none, resetSeen := false }

/-- A stop cause taken: it changes nothing in HALTED (R189). -/
def stopCause (s : State) : State := if s.supply.runState = .halted then s else haltDevice s

/-! ## Starts (R32, R36, R111, R128, R129, R135, R138, R140, R145, R161, R187, R191, R192) -/

/-- The queue at a start that keeps it: every DELIVERED record PENDING in its place, and no slot reserved (R129). -/
def Settlement.kept (q : Settlement) : Settlement := { q with queue := undeliver q.queue, reserved := 0 }

/-- The conditions after a start: PARK-START latched, and CLOCK-UNSET where the clock is unset (R187). -/
def latchStart (kind : StartKind) (cause : StartCause) (s : State) : State :=
  let s := latchPark .parkStart (.start kind cause) { s with conds := {} }
  if s.clock.isNone then latchPark .clockUnset .none s else s

/-- A start that keeps no configuration: every block at its values after a cold or warm start, with the Settlement Queue as
given. The timebase runs on, and the strap is read (R174, R191; notes/assumptions/27.md). DESIGN CHOICE, unsafe: an exchange
under way and a STOP-ALL still owed are dropped (notes/assumptions/38.md). -/
def freshStart (kind : StartKind) (cause : StartCause) (q : Settlement) (s : State) : State :=
  latchStart kind cause
    { timebase := s.timebase, tickDue := s.tickDue, pending := s.pending, settlement := q,
      bus := { nextCycle := s.timebase }, line := { strap := s.line.strap, baud := s.line.strap },
      supply := { startKind := kind, startCause := cause } }

/-- A start from the retention marker: WARM if it is valid, COLD if not (R128, R129, R191). -/
def markerStart (cause : StartCause) (s : State) : State :=
  if s.settlement.markerValid then freshStart .warm cause s.settlement.kept s else freshStart .cold cause {} s

/-- A table entry after a soft restart (R161). -/
def PedestalEntry.afterSoft (e : PedestalEntry) : PedestalEntry :=
  { e with lastPlug := none, lastPresentation := none, missMark := false }

/-- A soft restart: configuration, enrolment, clock and queue are kept (R192). DESIGN CHOICE, unsafe: an exchange under way and
a STOP-ALL still owed are dropped (notes/assumptions/38.md); what an exchange that ended in RESTARTING left in the table is
kept with the entry (notes/assumptions/40.md). -/
def softStart (s : State) : State :=
  latchStart .warm .restartSoft
    { timebase := s.timebase, tickDue := s.tickDue, pending := s.pending, settlement := s.settlement.kept,
      windows := s.windows, tariffs := s.tariffs, clock := s.clock, settings := s.settings,
      pedestals := s.pedestals.map PedestalEntry.afterSoft,
      bus := { nextCycle := s.timebase }, line := { strap := s.line.strap, baud := s.line.strap },
      supply := { startKind := .warm, startCause := .restartSoft } }

/-! ## RESTART (R192) -/

/-- The device enters RESTARTING: STOP-ALL is asked for, BUSY replies are dropped, and the restart is made when DONE has
gone (R192). -/
def enterRestarting (kind : RestartKind) (s : State) : State :=
  let s := requestStopAll s
  let s := s.withLine { s.line with busyList := [] }
  s.withSupply { s.supply with runState := .restarting, pendingRestart := some kind }

/-- RESTART (R192). -/
def restart : Request where
  lengths := [1]
  act body s :=
    match fieldAt body 0 1 with
    | 0 => done (enterRestarting .soft (forPedestals (haltSession .hostRestart) s))
    | 1 => if s.anyOpen then (⟨.wrongState, []⟩, s) else done (enterRestarting .hard s)
    | _ => outOfRange s

/-- The DONE of a RESTART of this kind has gone, and its restart is to be made (R192). DESIGN CHOICE, unsafe: it does not wait
for an exchange under way or a STOP-ALL still owed (notes/assumptions/38.md). -/
def State.restartDue (s : State) (kind : RestartKind) : Bool :=
  s.supply.runState == .restarting && s.supply.pendingRestart == some kind
    && s.line.sending.isNone && s.line.replyWaiting.isNone

/-! ## The commands -/

/-- RESTART_SOFT: a RESTART frame; its body names the kind (notes/assumptions/19.md). -/
def execRestartSoft (tag : Byte) (body : List Byte) (s : State) : Host.Outcome State Fault Refusal :=
  .next (takeFrame 0x1D#8 tag body (some restart) s)

/-- RESTART_HARD: a RESTART frame; its body names the kind (notes/assumptions/19.md). -/
def execRestartHard (tag : Byte) (body : List Byte) (s : State) : Host.Outcome State Fault Refusal :=
  .next (takeFrame 0x1D#8 tag body (some restart) s)

/-- SOFT_RESTART (R192). -/
def execSoftRestart (s : State) : Host.Outcome State Fault Refusal :=
  .next (if s.restartDue .soft then softStart s else s)

/-- HARD_RESTART: a warm start for which the marker is not read (R192). -/
def execHardRestart (s : State) : Host.Outcome State Fault Refusal :=
  .next (if s.restartDue .hard then freshStart .warm .restartHard s.settlement.kept s else s)

/-- SUPPLY_WARNING: the supply-warning input becomes asserted (R188, R189). -/
def execSupplyWarning (s : State) : Host.Outcome State Fault Refusal :=
  let s := stopCause s
  .next (s.withSupply { s.supply with warningInput := true })

/-- RESET: the reset input becomes asserted; its assertion in HALTED is remembered for the start cause (R189, R190). -/
def execReset (s : State) : Host.Outcome State Fault Refusal :=
  let s := stopCause s
  .next (s.withSupply { s.supply with resetInput := true, resetSeen := true })

/-- The main supply fails while the device is HALTED: it is without power, and nothing more goes out on the bus (R190). -/
def losePower (s : State) : State :=
  let s := s.withSupply { s.supply with mainSupply := .absent }
  s.withBus { s.bus with phase := .stopped, stopAllOwed := false }

/-- SUPPLY_FAIL: the main supply falls below the operating threshold (R188 to R190; notes/assumptions/13.md). -/
def execSupplyFail (s : State) : Host.Outcome State Fault Refusal :=
  .next (if s.supply.runState = .halted then losePower s
    else
      let s := haltDevice s
      s.withSupply { s.supply with mainSupply := .below })

/-- RETENTION_LOSS: the backup alone feeds the retained memory and falls below the retention threshold (R127;
notes/assumptions/21.md). -/
def execRetentionLoss (s : State) : Host.Outcome State Fault Refusal :=
  .next (if s.supply.runState = .halted then
      let s := losePower s
      s.withSettlement { s.settlement with markerValid := false }
    else s)

/-- POWER_ON: power has returned, both inputs are released and the supply is good (R190, R191). -/
def execPowerOn (s : State) : Host.Outcome State Fault Refusal :=
  .next (if s.supply.runState = .halted then markerStart .powerOn s else s)

/-- HALTED_START: in HALTED both inputs are released and the supply is good, which never failed (R190). -/
def execHaltedStart (s : State) : Host.Outcome State Fault Refusal :=
  .next (if s.supply.runState = .halted ∧ s.supply.mainSupply ≠ .absent then
      markerStart (if s.supply.resetSeen then .resetInput else .supplyRelease) s
    else s)

end Sys2Proof.Machine
end

