-- ==== Sys2Proof/Machine/Parser.lean ====
section
/-! DEFINITION. The catalogue of requests (section 12.1) and the frame parser (R175, R176): what each arriving character
does, the gap, and the commands that carry characters. -/

namespace Sys2Proof.Machine

/-- The request kinds (section 12.1). -/
def catalogue (kind : Byte) : Option Request :=
  match kind.toNat with
  | 0x01 => some statusRead
  | 0x02 => some parkSet
  | 0x03 => some parkRead
  | 0x04 => some parkOpen
  | 0x05 => some parkClose
  | 0x06 => some clockSet
  | 0x07 => some siteLoad
  | 0x08 => some tariffWrite
  | 0x09 => some tariffRead
  | 0x0A => some tariffClear
  | 0x0B => some windowWrite
  | 0x0C => some windowRead
  | 0x0D => some windowClear
  | 0x0E => some enrol
  | 0x0F => some withdraw
  | 0x10 => some unblock
  | 0x11 => some pedestalRead
  | 0x12 => some countersRead
  | 0x13 => some sessionRead
  | 0x14 => some sessionStop
  | 0x15 => some sessionCap
  | 0x16 => some authDecision
  | 0x17 => some queryList
  | 0x18 => some settleFetch
  | 0x19 => some settleConfirm
  | 0x1A => some conditionsRead
  | 0x1B => some conditionsClear
  | 0x1C => some conditionsMask
  | 0x1D => some restart
  | _ => none

def State.withParser (p : Parser) (s : State) : State := s.withLine { s.line with parser := p }

/-- A frame is discarded: one line error, and the parser is in HUNT (R175, R176). -/
def discardFrame (s : State) : State := (countLineError s).withParser (.hunt false)

/-- A byte of a bad-sync run in HUNT: the first one of a run counts one line error (R176). -/
def badSyncByte (badRun : Bool) (s : State) : State :=
  (if badRun then s else countLineError s).withParser (.hunt true)

/-- After the tag, the body, or the CRC if the body length is 0 (R175). -/
def afterTag (length : Nat) (kind tag : Byte) : Parser :=
  if length = 0 then .crc kind tag [] none else .body length kind tag []

/-- After a body byte, the next one, or the CRC after the last (R175). -/
def afterBody (length : Nat) (kind tag : Byte) (body : List Byte) : Parser :=
  if body.length ≥ length then .crc kind tag body none else .body length kind tag body

/-- The second CRC byte: a frame whose CRC agrees is taken as one event, another is discarded (R175, R177). -/
def endFrame (kind tag : Byte) (body : List Byte) (first second : Byte) (s : State) : State :=
  if [first, second] = crcBytes (hostFrameCore kind tag body) then takeFrame kind tag body (catalogue kind) s
  else discardFrame s

/-- A byte with a good stop bit, taken in the state that the parser holds (R175). -/
def parseByte (b : Byte) (s : State) : State :=
  match s.line.parser with
  | .hunt badRun => if b = Config.syncByte then s.withParser .length else badSyncByte badRun s
  | .length => if b.toNat ≤ Config.maxBody then s.withParser (.header b.toNat none) else discardFrame s
  | .header length none => s.withParser (.header length (some b))
  | .header length (some kind) => s.withParser (afterTag length kind b)
  | .body length kind tag taken => s.withParser (afterBody length kind tag (taken ++ [b]))
  | .crc kind tag body none => s.withParser (.crc kind tag body (some b))
  | .crc kind tag body (some first) => endFrame kind tag body first b s

/-- The parser is in HUNT. -/
def Parser.hunting : Parser → Bool
  | .hunt _ => true
  | .length | .header _ _ | .body _ _ _ _ | .crc _ _ _ _ => false

/-- A character with a bad stop bit: part of a bad-sync run in HUNT, the end of the partial frame elsewhere (R175). -/
def badStop (s : State) : State :=
  match s.line.parser with
  | .hunt badRun => badSyncByte badRun s
  | .length | .header _ _ | .body _ _ _ _ | .crc _ _ _ _ => discardFrame s

/-- A character arrives. Only a RUNNING device takes it (R174). -/
def receiveChar (c : RxChar) (s : State) : State :=
  if s.supply.runState = .running then (if c.stopGood then parseByte c.value s else badStop s) else s

/-- Characters arrive one after the other. -/
def receive (received : List RxChar) (s : State) : State := received.foldl (fun s c => receiveChar c s) s

/-- The 10 ms gap has expired: a partial frame is discarded (R175). -/
def gapExpired (s : State) : State :=
  if s.supply.runState = .running ∧ !s.line.parser.hunting then discardFrame s else s

/-! ## The commands -/

/-- BAD_KIND: a valid frame of a kind that the catalogue does not hold (R177). -/
def execBadKind (kind tag : Byte) (body : List Byte) (s : State) : Host.Outcome State Fault Refusal :=
  .next (takeFrame kind tag body (catalogue kind) s)

/-- FRAME_DISCARDED: the characters of a frame with a bad CRC, a length over 240 or a bad stop bit (R175, R176). -/
def execFrameDiscarded (received : List RxChar) (s : State) : Host.Outcome State Fault Refusal :=
  .next (receive received s)

/-- BAD_SYNC_RUN: the characters of a bad-sync run (R176). -/
def execBadSyncRun (received : List RxChar) (s : State) : Host.Outcome State Fault Refusal :=
  .next (receive received s)

/-- FRAME_GAP_TIMEOUT: the characters of a partial frame, and then the expiry of the gap (R175, R176). -/
def execFrameGapTimeout (received : List RxChar) (s : State) : Host.Outcome State Fault Refusal :=
  .next (gapExpired (receive received s))

end Sys2Proof.Machine
end

