-- ==== Sys2Proof/Machine/Timers.lean ====
section
/-! DEFINITION. The timers of the session records and the one-second tick (R10, R15, R25, R48, R66 to R68, R136, R143,
R166). A stopped timer has no expiry, and a HALTED device acts on none (R188): the state is then unchanged
(notes/assumptions/3.md). -/

namespace Sys2Proof.Machine

/-- The running authorization deadline of a pedestal's record (R44). -/
def State.authDeadlineOf (s : State) (n : Ped) : Option Point :=
  if s.active ∧ (s.session n).state = .authorizing then (s.session n).authDeadline else none

/-- The running plug deadline of a pedestal's record (R15). -/
def State.plugDeadlineOf (s : State) (n : Ped) : Option Point :=
  if s.active ∧ (s.session n).state = .authorized then (s.session n).plugDeadline else none

/-- The running probe deadline of a pedestal's record (R163). -/
def State.probeDeadlineOf (s : State) (n : Ped) : Option Point :=
  if s.active ∧ (s.session n).state = .probing then (s.session n).probeDeadline else none

/-- The running ending deadline of a pedestal's record (R23). -/
def State.endingDeadlineOf (s : State) (n : Ped) : Option Point :=
  if s.active ∧ (s.session n).state = .ending then (s.session n).endingDeadline else none

/-! ## The one-second tick (R66, R136, R188) -/

/-- The timebase has reached the point of the tick, and the next tick lies one second on. -/
def reachTick (s : State) : State := { s.reach s.tickDue with tickDue := s.tickDue + 1000 }

/-- A one-second tick: a valid clock advances, the occupying seconds of the records in OCCUPYING grow, and so do the seconds
since the start (R66, R136, R188). The suspend limits and idle minutes of the tick are commands of their own
(notes/assumptions/5.md). DESIGN CHOICE, unsafe: a record that the tick's suspend limit moves to OCCUPYING counts its first
second at the next tick (notes/assumptions/34.md). -/
def tickSecond (s : State) : State :=
  let s := reachTick s
  { s with clock := s.clock.map Clock.tick, records := s.records.map Session.tickOccupying,
           supply := { s.supply with secondsSinceStart := s.supply.secondsSinceStart + 1 } }

/-- The point of the last tick taken. -/
def State.lastTick (s : State) : Point := s.tickDue - 1000

/-- The suspend limit is reached or passed at the last tick taken (R20, R143). DESIGN CHOICE, unsafe: it is tested after that
tick's occupying seconds have been counted (notes/assumptions/34.md). -/
def State.suspendLimitReached (s : State) (n : Ped) : Bool :=
  (s.session n).state == .suspended
    && (s.session n).suspendStart.any fun p => decide (p + 60000 * s.settings.suspendLimit ≤ s.lastTick)

/-- The idle minute of a record, charged or capped, if one falls due (R67, R68). -/
def idleMinuteOf (n : Ped) (s : State) : State :=
  match (s.session n).grant with
  | some g =>
    if (s.session n).idleMinuteDue (s.tariffOf g) then
      s.setSession n ((s.session n).chargeIdleMinute (s.tariffOf g) g.hold)
    else s
  | none => s

/-! ## The commands -/

/-- AUTH_DEADLINE_EXPIRY (R48). -/
def execAuthDeadlineExpiry (n : Ped) (s : State) : Host.Outcome State Fault Refusal :=
  .next (match s.authDeadlineOf n with
    | some p => authExpired n (s.reach p)
    | none => s)

/-- PLUG_DEADLINE_EXPIRY (R15). -/
def execPlugDeadlineExpiry (n : Ped) (s : State) : Host.Outcome State Fault Refusal :=
  .next (match s.plugDeadlineOf n with
    | some p => closeSession n .noVehicle (s.reach p)
    | none => s)

/-- PROBE_DEADLINE_EXPIRY (R166). -/
def execProbeDeadlineExpiry (n : Ped) (s : State) : Host.Outcome State Fault Refusal :=
  .next (match s.probeDeadlineOf n with
    | some p => attemptFailed n (s.reach p)
    | none => s)

/-- ENDING_DEADLINE_EXPIRY: the session closes with its end reason unchanged (R25); the reason named here is one that a record
in ENDING never takes, since its own was set on entry. -/
def execEndingDeadlineExpiry (n : Ped) (s : State) : Host.Outcome State Fault Refusal :=
  .next (match s.endingDeadlineOf n with
    | some p => closeSession n .userStop (s.reach p)
    | none => s)

/-- REFUSAL_DISPLAY_EXPIRY (R10). -/
def execRefusalDisplayExpiry (n : Ped) (s : State) : Host.Outcome State Fault Refusal :=
  .next (match (s.session n).refusal with
    | some d =>
      if s.active then (s.reach d.until_).setSession n { s.session n with refusal := none } else s
    | none => s)

/-- ONE_SECOND_TICK: also in HALTED while the main supply holds (R188; notes/assumptions/14.md). -/
def execOneSecondTick (s : State) : Host.Outcome State Fault Refusal :=
  .next (if s.supply.mainSupply = .absent then s else tickSecond s)

/-- SUSPEND_LIMIT: the record enters OCCUPYING at the tick just taken (R20, R143). -/
def execSuspendLimit (n : Ped) (s : State) : Host.Outcome State Fault Refusal :=
  .next (if s.active ∧ s.suspendLimitReached n then enterOccupying n s else s)

/-- IDLE_MINUTE: the idle minute that falls due at the tick just taken (R67, R68). -/
def execIdleMinute (n : Ped) (s : State) : Host.Outcome State Fault Refusal :=
  .next (if s.active then idleMinuteOf n s else s)

end Sys2Proof.Machine
end

