-- ==== Sys2Proof/Machine/Dispatch.lean ====
section
/-! DEFINITION. One arm per command, each a call of its meaning. -/

namespace Sys2Proof.Machine

/-- The effect of a command on everything but the queue. -/
def exec (i : Instr) (s : State) : Host.Outcome State Fault Refusal :=
  match i with
  | .statusRead tag body => Sys2Proof.Machine.execStatusRead tag body s
  | .parkSet tag body => Sys2Proof.Machine.execParkSet tag body s
  | .parkRead tag body => Sys2Proof.Machine.execParkRead tag body s
  | .parkOpen tag body => Sys2Proof.Machine.execParkOpen tag body s
  | .parkClose tag body => Sys2Proof.Machine.execParkClose tag body s
  | .clockSet tag body => Sys2Proof.Machine.execClockSet tag body s
  | .siteLoad tag body => Sys2Proof.Machine.execSiteLoad tag body s
  | .tariffWrite tag body => Sys2Proof.Machine.execTariffWrite tag body s
  | .tariffRead tag body => Sys2Proof.Machine.execTariffRead tag body s
  | .tariffClear tag body => Sys2Proof.Machine.execTariffClear tag body s
  | .windowWrite tag body => Sys2Proof.Machine.execWindowWrite tag body s
  | .windowRead tag body => Sys2Proof.Machine.execWindowRead tag body s
  | .windowClear tag body => Sys2Proof.Machine.execWindowClear tag body s
  | .enrol tag body => Sys2Proof.Machine.execEnrol tag body s
  | .withdraw tag body => Sys2Proof.Machine.execWithdraw tag body s
  | .unblock tag body => Sys2Proof.Machine.execUnblock tag body s
  | .pedestalRead tag body => Sys2Proof.Machine.execPedestalRead tag body s
  | .countersRead tag body => Sys2Proof.Machine.execCountersRead tag body s
  | .sessionRead tag body => Sys2Proof.Machine.execSessionRead tag body s
  | .sessionStop tag body => Sys2Proof.Machine.execSessionStop tag body s
  | .sessionCap tag body => Sys2Proof.Machine.execSessionCap tag body s
  | .authDecision tag body => Sys2Proof.Machine.execAuthDecision tag body s
  | .queryList tag body => Sys2Proof.Machine.execQueryList tag body s
  | .settleFetch tag body => Sys2Proof.Machine.execSettleFetch tag body s
  | .settleFetchNamed tag body => Sys2Proof.Machine.execSettleFetchNamed tag body s
  | .settleConfirm tag body => Sys2Proof.Machine.execSettleConfirm tag body s
  | .conditionsRead tag body => Sys2Proof.Machine.execConditionsRead tag body s
  | .conditionsClear tag body => Sys2Proof.Machine.execConditionsClear tag body s
  | .conditionsMask tag body => Sys2Proof.Machine.execConditionsMask tag body s
  | .restartSoft tag body => Sys2Proof.Machine.execRestartSoft tag body s
  | .restartHard tag body => Sys2Proof.Machine.execRestartHard tag body s
  | .badKind kind tag body => Sys2Proof.Machine.execBadKind kind tag body s
  | .frameDiscarded received => Sys2Proof.Machine.execFrameDiscarded received s
  | .badSyncRun received => Sys2Proof.Machine.execBadSyncRun received s
  | .frameGapTimeout received => Sys2Proof.Machine.execFrameGapTimeout received s
  | .linkSilenceExpiry => Sys2Proof.Machine.execLinkSilenceExpiry s
  | .replySent => Sys2Proof.Machine.execReplySent s
  | .notice => Sys2Proof.Machine.execNotice s
  | .noticeSent => Sys2Proof.Machine.execNoticeSent s
  | .softRestart => Sys2Proof.Machine.execSoftRestart s
  | .hardRestart => Sys2Proof.Machine.execHardRestart s
  | .cycleStart => Sys2Proof.Machine.execCycleStart s
  | .statusReply received => Sys2Proof.Machine.execStatusReply received s
  | .exchangeMiss cause => Sys2Proof.Machine.execExchangeMiss cause s
  | .alertSlot contenders => Sys2Proof.Machine.execAlertSlot contenders s
  | .quietTimerExpiry => Sys2Proof.Machine.execQuietTimerExpiry s
  | .authDeadlineExpiry pedestal => Sys2Proof.Machine.execAuthDeadlineExpiry pedestal s
  | .plugDeadlineExpiry pedestal => Sys2Proof.Machine.execPlugDeadlineExpiry pedestal s
  | .probeDeadlineExpiry pedestal => Sys2Proof.Machine.execProbeDeadlineExpiry pedestal s
  | .endingDeadlineExpiry pedestal => Sys2Proof.Machine.execEndingDeadlineExpiry pedestal s
  | .refusalDisplayExpiry pedestal => Sys2Proof.Machine.execRefusalDisplayExpiry pedestal s
  | .oneSecondTick => Sys2Proof.Machine.execOneSecondTick s
  | .suspendLimit pedestal => Sys2Proof.Machine.execSuspendLimit pedestal s
  | .idleMinute pedestal => Sys2Proof.Machine.execIdleMinute pedestal s
  | .supplyWarning => Sys2Proof.Machine.execSupplyWarning s
  | .reset => Sys2Proof.Machine.execReset s
  | .supplyFail => Sys2Proof.Machine.execSupplyFail s
  | .retentionLoss => Sys2Proof.Machine.execRetentionLoss s
  | .powerOn => Sys2Proof.Machine.execPowerOn s
  | .haltedStart => Sys2Proof.Machine.execHaltedStart s

end Sys2Proof.Machine
end

