-- ==== Sys2Proof/Machine/Step.lean ====
section
/-! DEFINITION. One step: the command at the front of the queue, or one idle millisecond. -/

namespace Sys2Proof.Machine

/-- An idle step lets one millisecond of the timebase pass while the device is fed (notes/assumptions/2.md). -/
def idle (s : State) : State :=
  if s.supply.mainSupply = .absent then s else { s with timebase := s.timebase + 1 }

/-- A step takes the command at the front of the queue and runs it with the queue's rest (notes/assumptions/4.md). -/
def step (s : State) : Host.Outcome State Fault Refusal :=
  match s.pending with
  | [] => .next (idle s)
  | c :: rest => exec c { s with pending := rest }

/-- The state with the command that a word spells at the front of its queue. -/
def State.withFetchWord (s : State) (nbits w : Nat) : State :=
  match decodeTableWord nbits w with
  | some c => { s with pending := c :: s.pending }
  | none => s

end Sys2Proof.Machine
end

