-- ==== Sys2Proof/Safety.lean ====
section
/-! DEFINITION. What the statements are made of: the laws that every state of a run obeys, the conditions under which a
request is acted on, and the projections that a frame statement compares. -/

namespace Sys2Proof.Machine

/-! ## Laws of a session record -/

/-- What a record holds in each state: the opening in the open states (R11), the captured terms in AUTHORIZING (R42), the
grant from AUTHORIZED to ENDING (R12), and the end reason in ENDING and RELEASED (R22). -/
abbrev Session.HoldsByState (r : Session) : Prop :=
  r.opening.isSome = r.state.isOpen ∧ r.captured.isSome = (r.state == .authorizing) ∧ r.grant.isSome = r.state.granted
    ∧ r.endReason.isSome = (r.state == .ending || r.state == .released)

/-- A deadline runs in its own state alone (R15, R20, R23, R44, R163). -/
abbrev Session.DeadlinesByState (r : Session) : Prop :=
  (r.authDeadline.isSome → r.state = .authorizing) ∧ r.plugDeadline.isSome = (r.state == .authorized)
    ∧ (r.probeDeadline.isSome → r.state = .probing) ∧ r.suspendStart.isSome = (r.state == .suspended)
    ∧ r.endingDeadline.isSome = (r.state == .ending) ∧ (r.probeSend → r.state = .probing)

/-- The values of has-plug in each state (R1, R2). -/
def Session.plugAllowed (r : Session) : Bool :=
  match r.state, r.hasPlug with
  | .free, .no => true
  | .plugged, .yes => true
  | .authorizing, .no | .authorizing, .yes => true
  | .authorized, .no => true
  | .probing, .yes | .dispensing, .yes | .suspended, .yes | .occupying, .yes => true
  | .ending, .no | .ending, .yes => true
  | .released, .yes | .released, .unknown => true
  | _, _ => false

/-- The Power Allocation Unit's fields: a grant state and counters in DISPENSING alone (R107), and a share in POWERED alone
(R88). -/
abbrev Session.AllocByState (r : Session) : Prop :=
  (r.state ≠ .dispensing → r.alloc = {}) ∧ (r.alloc.share ≠ 0 → r.alloc.grantState = .powered)
    ∧ (r.alloc.yieldLeft ≠ 0 → r.alloc.grantState = .yielding)
    ∧ r.alloc.waitRounds ≤ Config.max16 ∧ r.alloc.servedRounds ≤ Config.max16

/-- The metering fields: FREE values until the first entry to DISPENSING (R54, R65), within their ranges (R53), and an idle
fee that never exceeds the hold (R68). -/
abbrev Session.MeteredByState (r : Session) : Prop :=
  (r.state.energyFlow = false → r.meter = {} ∧ r.flags = {} ∧ r.energized = none)
    ∧ r.meter.startFeeCharged = r.state.energyFlow ∧ r.energized.isSome = r.state.energyFlow
    ∧ r.baseline < Config.meterModulus ∧ r.meter.energyTotal ≤ Config.max32 ∧ r.meter.costWhole ≤ Config.max32
    ∧ r.meter.costRemainder < Config.million ∧ r.meter.occupyingSeconds ≤ Config.max32
    ∧ (∀ g, r.grant = some g → r.meter.idleFee ≤ g.hold)

/-- A record is as the life cycle leaves it. -/
abbrev Session.Shaped (r : Session) : Prop :=
  r.HoldsByState ∧ r.DeadlinesByState ∧ r.plugAllowed = true ∧ r.AllocByState

abbrev State.RecordsShaped (s : State) : Prop := ∀ n : Ped, (s.session n).Shaped

/-! ## Laws of the settlement queue -/

/-- The sessions that hold a slot (R116). -/
def State.openCount (s : State) : Nat := s.records.toList.countP fun r => r.state.isOpen

/-- One slot for each open session, and at most 24 slots and records together (R116). -/
abbrev State.SlotLaw (s : State) : Prop :=
  s.settlement.reserved = s.openCount ∧ s.settlement.reserved + s.settlement.queue.length ≤ Config.slotLimit

/-- A session number is in its range (R120). -/
abbrev isNumber (k : Nat) : Prop := 1 ≤ k ∧ k ≤ 65535

/-- No number is held twice, and numbers and counter are in their range (R120, R121). -/
abbrev State.NumbersLaw (s : State) : Prop :=
  s.heldNumbers.Nodup ∧ (∀ k ∈ s.heldNumbers, isNumber k) ∧ isNumber s.settlement.counter

/-- No two open sessions hold one token (R40). -/
abbrev State.TokensLaw (s : State) : Prop :=
  ∀ m n : Ped, m ≠ n → (s.session m).state.isOpen → (s.session n).state.isOpen →
    (s.session m).opening.map (·.token) ≠ (s.session n).opening.map (·.token)

/-- The money of a record: the total is split into what is due, within the hold, and what is absorbed (R71, R119). -/
abbrev SettlementRecord.MoneyLaw (r : SettlementRecord) : Prop :=
  r.due ≤ r.hold ∧ r.total = r.due + r.absorbed ∧ r.total ≤ Config.max32
    ∧ r.total = min Config.max32 (r.startFee + r.energyCost + r.idleFee)
    ∧ (r.absorbed ≠ 0 → r.due = r.hold) ∧ r.flags.holdClamped = decide (r.absorbed > 0)

/-- The band list of a record: ascending, at most six entries, each with energy (R72, R114). -/
abbrev SettlementRecord.BandLaw (r : SettlementRecord) : Prop :=
  r.bandList.Pairwise (fun a b => a.index < b.index) ∧ ∀ e ∈ r.bandList, e.index < 6 ∧ 0 < e.energy

/-- Every queued record obeys the money law and the band law, and a posted one waits for its only fetch (R124). -/
abbrev State.QueueLaw (s : State) : Prop :=
  ∀ r ∈ s.settlement.queue, r.MoneyLaw ∧ r.BandLaw ∧ (r.posted → r.delivery = .pending)

/-! ## Laws of grants and tariffs -/

/-- A tariff is in the cleared state, or its contents are those of a TARIFF-WRITE that was taken (R131, R132). -/
abbrev Tariff.Valid (t : Tariff) : Prop :=
  (t.defined = false → t = {}) ∧ bandsValid t.bands ∧ t.idleGrace ≤ 240

/-- The tariff of every grant is defined, and its start fee lies within the hold: no request can change a tariff in use
(R45, R133). -/
abbrev State.GrantLaw (s : State) : Prop :=
  ∀ (n : Ped) (g : Grant), (s.session n).grant = some g →
    (s.session n).state.granted ∧ (s.tariffOf g).defined ∧ (s.tariffOf g).startFee ≤ g.hold

/-- Every setting lies in the range of R141. -/
abbrev Settings.InRange (t : Settings) : Prop := ∀ row ∈ settingRows, row.low ≤ row.get t ∧ row.get t ≤ row.high

/-! ## Laws of the pedestal table and the bus -/

/-- A table entry: the not-enrolled values, or an enrolment within R147's ranges; counters in their range (R155); an ONLINE
pedestal has missed fewer than five times and a LOST one has no plug state (R157). -/
abbrev PedestalEntry.Valid (e : PedestalEntry) : Prop :=
  (e.enrolled = false → e = {})
    ∧ (e.enrolled → 10 ≤ e.floor ∧ e.floor ≤ e.rating ∧ e.rating ≤ 5000 ∧ e.extension ≤ 7)
    ∧ e.misses ≤ 255 ∧ e.frameErrors ≤ 255 ∧ (e.link = .online → e.misses < Config.lostMisses)
    ∧ (e.link = .lost → e.lastPlug = none)

/-- Entries are valid, an exchange that counts is with an enrolled pedestal, and a pedestal that is not enrolled has a FREE
record (R146 to R148, R150). -/
abbrev State.TableLaw (s : State) : Prop :=
  (∀ n : Ped, (s.entry n).Valid ∧ ((s.entry n).enrolled = false → (s.session n).state = .free))
    ∧ ∀ e : Exchange, s.bus.phase = .exchange e → e.void = false → (s.entry e.pedestal).enrolled

/-- A POWERED session's share lies between the floor and the rating of its pedestal (R108). -/
abbrev State.ShareLaw (s : State) : Prop :=
  ∀ n : Ped, (s.session n).alloc.grantState = .powered →
    (s.entry n).floor ≤ (s.session n).alloc.share ∧ (s.session n).alloc.share ≤ (s.entry n).rating

/-- The sum of the setpoints that commands carry, were one formed for every pedestal now (R4, R108). -/
def State.setpointSum (s : State) : Nat := (Ped.all.map fun n => setpointOf (s.session n) (s.entry n)).sum

/-- The commands of a cycle never add up to more than the budget of the round that formed them (R104). -/
abbrev State.BudgetLaw (s : State) : Prop := s.setpointSum ≤ s.alloc.lastBudget

/-- The scan pace (R151): FAST with the quiet timer stopped while a record is not FREE; with all records FREE the quiet timer
runs exactly while the pace is FAST. -/
abbrev State.PaceLaw (s : State) : Prop :=
  if s.allFree then s.bus.quietTimer.isSome = (s.bus.pace == .fast) else s.bus.pace = .fast ∧ s.bus.quietTimer = none

/-! ## Laws of the host line and the run states -/

/-- The link-silence timer runs exactly while the link is ATTENDED (R181). -/
abbrev State.LinkLaw (s : State) : Prop := s.line.silenceTimer.isSome = (s.line.mode == .attended)

/-- A reply waits for a notice alone, BUSY replies wait while something is being sent, and their list and the line-error
count keep their limits (R176, R178). -/
abbrev State.LineLaw (s : State) : Prop :=
  (s.line.replyWaiting.isSome → ∃ n, s.line.sending = some (.notice n))
    ∧ (s.line.busyList ≠ [] → s.line.sending.isSome) ∧ s.line.busyList.length ≤ Config.busyLimit
    ∧ s.line.lineErrors ≤ Config.max16

/-- STOP-ALL has been sent, or is owed at the end of the exchange under way (R160). -/
def Bus.stopping (b : Bus) : Bool :=
  match b.phase with
  | .stopped => true
  | .exchange _ => b.stopAllOwed
  | .idle | .alertSlot => false

/-- The run states: outside RUNNING no session is open and the bus has stopped or is about to; in HALTED nothing is being sent
or waits; a restart is pending exactly in RESTARTING (R188, R189, R192). -/
abbrev State.RunLaw (s : State) : Prop :=
  (s.supply.runState ≠ .running → s.anyOpen = false ∧ s.bus.stopping ∧ s.line.busyList = [] ∧ s.line.parser.hunting)
    ∧ (s.supply.runState = .running → s.bus.stopAllOwed = false ∧ s.bus.phase ≠ .stopped)
    ∧ (s.supply.runState = .halted → s.line.sending = none ∧ s.line.replyWaiting = none)
    ∧ s.supply.pendingRestart.isSome = (s.supply.runState == .restarting)

/-! ## Taking a request -/

/-- A request with this tag is acted on: the device is RUNNING, the interface is not busy, and the tag is not 0 (R177). -/
abbrev State.Ready (s : State) (tag : Byte) : Prop :=
  s.supply.runState = .running ∧ s.line.busy = false ∧ tag ≠ 0

/-- The state in which a request's owner finds the device: the parser back in HUNT and the link served (R175, R181). -/
def State.served (s : State) : State := linkFrame (s.withLine { s.line with parser := .hunt false })

/-- A reply of `kind` with a tag, a reply code and data, sent or waiting to be sent from a state (R178, R193). -/
def State.answering (kind tag : Byte) (code : ReplyCode) (data : List Byte) (s : State) : State :=
  sendReply ⟨kind, tag, code.value :: data⟩ s

/-! ## Frames -/

/-- The host frame that a request row stands for: its kind, tag and body (section 12.1). -/
def requestFrame : Instr → Option (Byte × Byte × List Byte)
  | .statusRead t b => some (0x01#8, t, b)
  | .parkSet t b => some (0x02#8, t, b)
  | .parkRead t b => some (0x03#8, t, b)
  | .parkOpen t b => some (0x04#8, t, b)
  | .parkClose t b => some (0x05#8, t, b)
  | .clockSet t b => some (0x06#8, t, b)
  | .siteLoad t b => some (0x07#8, t, b)
  | .tariffWrite t b => some (0x08#8, t, b)
  | .tariffRead t b => some (0x09#8, t, b)
  | .tariffClear t b => some (0x0A#8, t, b)
  | .windowWrite t b => some (0x0B#8, t, b)
  | .windowRead t b => some (0x0C#8, t, b)
  | .windowClear t b => some (0x0D#8, t, b)
  | .enrol t b => some (0x0E#8, t, b)
  | .withdraw t b => some (0x0F#8, t, b)
  | .unblock t b => some (0x10#8, t, b)
  | .pedestalRead t b => some (0x11#8, t, b)
  | .countersRead t b => some (0x12#8, t, b)
  | .sessionRead t b => some (0x13#8, t, b)
  | .sessionStop t b => some (0x14#8, t, b)
  | .sessionCap t b => some (0x15#8, t, b)
  | .authDecision t b => some (0x16#8, t, b)
  | .queryList t b => some (0x17#8, t, b)
  | .settleFetch t b => some (0x18#8, t, b)
  | .settleFetchNamed t b => some (0x18#8, t, b)
  | .settleConfirm t b => some (0x19#8, t, b)
  | .conditionsRead t b => some (0x1A#8, t, b)
  | .conditionsClear t b => some (0x1B#8, t, b)
  | .conditionsMask t b => some (0x1C#8, t, b)
  | .restartSoft t b => some (0x1D#8, t, b)
  | .restartHard t b => some (0x1D#8, t, b)
  | .badKind k t b => some (k, t, b)
  | .frameDiscarded _ => none
  | .badSyncRun _ => none
  | .frameGapTimeout _ => none
  | .linkSilenceExpiry => none
  | .replySent => none
  | .notice => none
  | .noticeSent => none
  | .softRestart => none
  | .hardRestart => none
  | .cycleStart => none
  | .statusReply _ => none
  | .exchangeMiss _ => none
  | .alertSlot _ => none
  | .quietTimerExpiry => none
  | .authDeadlineExpiry _ => none
  | .plugDeadlineExpiry _ => none
  | .probeDeadlineExpiry _ => none
  | .endingDeadlineExpiry _ => none
  | .refusalDisplayExpiry _ => none
  | .oneSecondTick => none
  | .suspendLimit _ => none
  | .idleMinute _ => none
  | .supplyWarning => none
  | .reset => none
  | .supplyFail => none
  | .retentionLoss => none
  | .powerOn => none
  | .haltedStart => none

/-- The body lengths that a request kind accepts (section 12.2); none for another kind. -/
def acceptedLengths (kind : Byte) : List Nat :=
  match kind.toNat with
  | 0x02 => [33]
  | 0x06 => [5]
  | 0x07 => [2]
  | 0x08 => [43]
  | 0x0B => [38]
  | 0x0E => [7]
  | 0x14 => [1, 3]
  | 0x15 => [6]
  | 0x16 => [13]
  | 0x18 => [0, 2]
  | 0x19 => [2]
  | 0x1B | 0x1C => [3]
  | 0x09 | 0x0A | 0x0C | 0x0D | 0x0F | 0x10 | 0x11 | 0x13 | 0x1A | 0x1D => [1]
  | 0x01 | 0x03 | 0x04 | 0x05 | 0x12 | 0x17 => [0]
  | _ => []

/-! ## Request bodies -/

/-- One value of a PARK-SET body: its item number, its limits, and its offset and size in the body (R141, section 12.2). -/
structure ParkItem where
  item : Nat
  low : Nat
  high : Nat
  off : Nat
  size : Nat
  deriving DecidableEq, Repr

/-- The first eighteen values of a PARK-SET body. -/
def parkItems : List ParkItem := [
  ⟨1, 50, 250, 3, 2⟩, ⟨2, 10, 600, 5, 2⟩, ⟨3, 1, 60, 7, 1⟩, ⟨4, 5, 60, 8, 1⟩, ⟨5, 30, 600, 9, 2⟩, ⟨6, 0, 3, 11, 1⟩,
  ⟨7, 1, 10, 12, 1⟩, ⟨8, 1, 60, 13, 1⟩, ⟨9, 0, 65535, 14, 2⟩, ⟨10, 0, 65535, 16, 2⟩, ⟨11, 0, 65535, 18, 2⟩,
  ⟨12, 5, 120, 20, 1⟩, ⟨13, 1, 255, 21, 1⟩, ⟨14, 1, 65535, 22, 2⟩, ⟨15, 1, 65535, 24, 2⟩, ⟨16, 1, 999999, 26, 4⟩,
  ⟨17, 1, 24, 30, 1⟩, ⟨18, 1, 255, 31, 1⟩]

/-- A PARK-SET body carries a value for an item (R142, R193). -/
def parkPresent (body : List Byte) (item : Nat) : Bool := (fieldAt body 0 3).testBit (item - 1)

/-- A value of a PARK-SET body at its nearest limit (R142). -/
def ParkItem.nearest (p : ParkItem) (body : List Byte) : Nat := max p.low (min p.high (fieldAt body p.off p.size))

/-- The value of an item after a PARK-SET that found it at `old` (R142). -/
def parkValue (body : List Byte) (item low high off size old : Nat) : Nat :=
  if parkPresent body item then ParkItem.nearest ⟨item, low, high, off, size⟩ body else old

/-- The items that a PARK-SET moved to a limit, with the values they took (R142). -/
def parkMoved (body : List Byte) : List (Nat × Nat) :=
  parkItems.filterMap fun p =>
    if parkPresent body p.item ∧ p.nearest body ≠ fieldAt body p.off p.size then some (p.item, p.nearest body) else none

/-- Start minute and price of a band entry of a TARIFF-WRITE body (section 12.2). -/
def bandStart (body : List Byte) (j : Nat) : Nat := fieldAt body (2 + 6 * j) 2
def bandPrice (body : List Byte) (j : Nat) : Nat := fieldAt body (4 + 6 * j) 4

/-- The structure that R132 asks of a TARIFF-WRITE body. -/
abbrev TariffBodyGood (body : List Byte) : Prop :=
  (1 ≤ fieldAt body 1 1 ∧ fieldAt body 1 1 ≤ 6) ∧ bandStart body 0 = 0
    ∧ (∀ j < fieldAt body 1 1, bandStart body j ≤ 1439 ∧ bandPrice body j ≤ 9999999)
    ∧ (∀ j < fieldAt body 1 1 - 1, bandStart body j < bandStart body (j + 1)) ∧ fieldAt body 42 1 ≤ 240

/-- The tariff that a TARIFF-WRITE body carries (R131, R132). -/
def tariffOfBody (body : List Byte) : Tariff :=
  { defined := true, bands := (List.range (fieldAt body 1 1)).map fun j => ⟨bandStart body j, bandPrice body j⟩,
    startFee := fieldAt body 38 2, idleFeePerMinute := fieldAt body 40 2, idleGrace := fieldAt body 42 1 }

/-- Some session in a state with a grant is under a tariff (R133). -/
abbrev State.UsesTariff (s : State) (i : Fin 8) : Prop :=
  ∃ (n : Ped) (g : Grant), (s.session n).state.granted ∧ (s.session n).grant = some g ∧ g.tariff = i

/-- The ranges that R34 and R193 ask of a WINDOW-WRITE body beside its index. -/
abbrev WindowBodyGood (body : List Byte) : Prop :=
  fieldAt body 1 1 ≤ 1 ∧ fieldAt body 18 1 ≤ 1 ∧ fieldAt body 27 1 ≤ 3 ∧ (1 ≤ fieldAt body 28 4 ∧ fieldAt body 28 4 ≤ 999999)
    ∧ fieldAt body 32 1 ≤ 7 ∧ fieldAt body 33 1 ≤ 3 ∧ fieldAt body 34 1 ≤ 15 ∧ fieldAt body 35 1 ≤ 1
    ∧ (fieldAt body 35 1 = 1 → fieldAt body 36 2 ≠ 0)

/-- The window that a WINDOW-WRITE body carries (R34, section 12.2). -/
def windowOfBody (body : List Byte) : Window :=
  { enabled := fieldAt body 1 1 == 1, base := tokenAt body 2, mask := tokenAt body 10,
    translateEnabled := fieldAt body 18 1 == 1, translate := tokenAt body 19,
    mode := if fieldAt body 27 1 = 0 then .localMode else if fieldAt body 27 1 = 1 then .refer
      else if fieldAt body 27 1 = 2 then .referFallback else .deny,
    localHold := fieldAt body 28 4, tariff := Fin.ofNat 8 (fieldAt body 32 1), route := Fin.ofNat 4 (fieldAt body 33 1),
    baseRank := Fin.ofNat 16 (fieldAt body 34 1),
    powerCap := if fieldAt body 35 1 = 1 then some (fieldAt body 36 2) else none }

/-- The ranges that R147 asks of an ENROL body beside its pedestal number. -/
abbrev EnrolBodyGood (body : List Byte) : Prop :=
  10 ≤ fieldAt body 3 2 ∧ fieldAt body 3 2 ≤ fieldAt body 1 2 ∧ fieldAt body 1 2 ≤ 5000 ∧ fieldAt body 5 1 ≤ 7

/-- A record waits in AUTHORIZING under a session number (R47). -/
abbrev State.WaitsUnder (s : State) (n : Ped) (number : Nat) : Prop :=
  (s.session n).state = .authorizing ∧ (s.session n).opening.map (·.number) = some number

/-- An optional field of an AUTH-DECISION body, by its presence bit (section 12.2). -/
def decisionField (body : List Byte) (bit off size : Nat) : Option Nat :=
  if (fieldAt body 3 1).testBit bit then some (fieldAt body off size) else none

/-- The conditions on a grant of R47: hold, overrides and cap in range, and an overriding tariff defined. -/
abbrev State.DecisionGood (s : State) (body : List Byte) : Prop :=
  (1 ≤ fieldAt body 4 4 ∧ fieldAt body 4 4 ≤ 999999)
    ∧ (∀ t, decisionField body 0 8 1 = some t → t ≤ 7 ∧ (s.tariffs.get (Fin.ofNat 8 t)).defined)
    ∧ (∀ c, decisionField body 1 9 2 = some c → c ≠ 0) ∧ (∀ k, decisionField body 2 11 1 = some k → k ≤ 15)

/-! ## What a session event leaves -/

/-- The record of a session that enters ENDING for a reason (R23). -/
def Session.ended (r : Session) (why : EndReason) (deadline : Point) : Session :=
  { r with state := .ending, endReason := some why, endingDeadline := some deadline, refusal := none, alloc := {},
           suspendStart := none }

/-- The records that the close of every granted session adds to the queue, in ascending pedestal order (R118, R189). -/
def State.closingRecords (why : EndReason) (s : State) : List SettlementRecord :=
  Ped.all.filterMap fun n =>
    match (s.session n).opening, (s.session n).grant with
    | some o, some g => some (buildRecord n (s.session n) o g ((s.session n).endReason.getD why) s)
    | _, _ => none

/-- The quiet timer's effect when the last record has become FREE (R151). -/
def State.quietBus (s : State) : Bus := { s.bus with quietTimer := some (s.timebase + 1000 * s.settings.quietTime) }

/-- The conditions with one pedestal flag latched (R182). -/
def Conditions.withPed (c : Conditions) (n : Ped) (i : Fin 11) (d : CondData) : Conditions :=
  { c with ped := c.ped.set n ((c.ped.get n).set i (some ⟨false, d⟩)) }

/-- The conditions with one park flag latched (R182). -/
def Conditions.withPark (c : Conditions) (i : Fin 5) (d : CondData) : Conditions :=
  { c with park := c.park.set i (some ⟨false, d⟩) }

/-- No pedestal before `n` is enrolled among those from `first` on, and `n` is (R150). -/
abbrev State.NextTurn (s : State) (first : Nat) (n : Ped) : Prop :=
  first ≤ n.val ∧ (s.entry n).enrolled ∧ ∀ m : Ped, first ≤ m.val → m < n → (s.entry m).enrolled = false

/-- The command to a pedestal formed and sent: the frame goes out, its reply is awaited, and a PROBE owed is taken off
(R152, R164). -/
def State.commanded (n : Ped) (outOfTurn : Bool) (s : State) : State :=
  { s with
    bus := { s.bus with lastFrame := some (formCommand n s), phase := .exchange ⟨n, outOfTurn, false⟩ }
    records := if (s.session n).state = .probing then s.records.set n { s.session n with probeSend := false }
      else s.records }

/-! ## Listed condition flags (section 12.2, "Notice") -/

/-- The data that a flag adds where it is listed. -/
def CondData.layout (d : CondData) : List Byte :=
  match d with
  | .none => []
  | .reason b => [b]
  | .query q =>
    bytesOf 2 q.number ++ bytesOf 1 (q.pedestal.val + 1) ++ bytesOf 8 q.token.toNat
      ++ bytesOf 1 (if q.source = .vehicle then 1 else 0) ++ bytesOf 1 (q.window.elim 0xFF (·.val))
  | .start kind cause =>
    bytesOf 1 (match kind with | .cold => 0 | .warm => 1)
      ++ bytesOf 1 (match cause with
        | .powerOn => 0 | .resetInput => 1 | .supplyRelease => 2 | .restartHard => 3 | .restartSoft => 4)

/-- A number whose bits are exactly those of the set flags that pass a test. -/
abbrev Listed (flags : List (Option Latched)) (test : Nat → Latched → Bool) (bits : Nat) : Prop :=
  ∀ i : Nat, bits.testBit i = true ↔ ∃ l, flags[i]? = some (some l) ∧ test i l = true

/-- The data of the set flags that pass a test, in bit order. -/
def listedData (flags : List (Option Latched)) (test : Nat → Latched → Bool) : List Byte :=
  flags.zipIdx.flatMap fun f => f.1.elim [] fun l => if test f.2 l then l.data.layout else []

/-! ## What a bus event leaves -/

/-- The bus once STOP-ALL has been asked for: sent at once, or owed at the end of the exchange under way (R160). -/
def Bus.askedToStop (b : Bus) : Bus :=
  match b.phase with
  | .exchange _ => { b with stopAllOwed := true }
  | .stopped => b
  | .idle | .alertSlot => { b with lastFrame := some stopAllFrame, phase := .stopped, stopAllOwed := false }

/-- An exchange with a pedestal is under way and counts: the pedestal was not withdrawn, and no STOP-ALL is owed. -/
abbrev State.Exchanging (s : State) (n : Ped) (outOfTurn : Bool) : Prop :=
  s.bus.phase = .exchange ⟨n, outOfTurn, false⟩ ∧ s.bus.stopAllOwed = false

/-- The table entry of a pedestal says that it is ONLINE with its e-stop clear and its plug as `plug` says. -/
abbrev PedestalEntry.Steady (e : PedestalEntry) (plug : Bool) : Prop :=
  e.link = .online ∧ e.estop = false ∧ e.lastPlug = some plug

/-- A reply hands no token on: it carries no presentation, one whose number the entry holds, or one while the entry holds no
number (R154). -/
abbrev StatusReply.NoNewToken (x : StatusReply) (e : PedestalEntry) : Prop :=
  x.presentation = none ∨ e.lastPresentation = none ∨ e.lastPresentation = x.presentation.map (·.number)

/-- A reply without faults that hands no token on. -/
abbrev StatusReply.Quiet (x : StatusReply) (e : PedestalEntry) : Prop := x.fits = true ∧ x.faults = 0 ∧ x.NoNewToken e

/-- The table entry after a reply that only moved the miss counter and the meter count (R153). -/
def PedestalEntry.metered (e : PedestalEntry) (count : Nat) : PedestalEntry := { e with misses := 0, lastMeter := count }

/-- The band and the price at which a tariff values energy now: with a valid clock, the highest-numbered band that has
started; with the clock unset, the lowest-numbered band of the highest price (R59, R60). -/
abbrev State.PricedAt (s : State) (t : Tariff) (band price : Nat) : Prop :=
  ∃ b : Band, t.bands[band]? = some b ∧ b.price = price
    ∧ (∀ c, s.clock = some c → b.start ≤ c.second / 60
        ∧ ∀ (j : Nat) (x : Band), band < j → t.bands[j]? = some x → c.second / 60 < x.start)
    ∧ (s.clock = none → ∀ (j : Nat) (x : Band), t.bands[j]? = some x → x.price ≤ price ∧ (j < band → x.price < price))

/-- The bus when a record has left FREE: the pace is FAST, brought forward where the cycle began SLOW, and the quiet timer is
stopped (R151). -/
def State.wokenBus (s : State) : Bus :=
  { s.bus with
    pace := .fast
    nextCycle := if s.bus.pace = .slow ∧ s.bus.cyclePace = .slow then s.timebase else s.bus.nextCycle
    quietTimer := none }

/-! ## What a good reply leaves -/

/-- The plug state with which a reply's is compared: that of the last good reply, and while none is held whether the record's
has-plug is yes (R6). -/
def State.plugWas (s : State) (n : Ped) : Bool :=
  match (s.entry n).lastPlug with
  | some plug => plug
  | none => decide ((s.session n).hasPlug = .yes)

/-- The table entry after a good reply: counters, meter count, plug, presentation number, link and the two fault fields
(R153, R154, R157, R169, R171). -/
def PedestalEntry.replied (e : PedestalEntry) (x : StatusReply) : PedestalEntry :=
  { e with
    misses := 0
    lastMeter := x.meter
    lastPlug := some x.plug
    lastPresentation := match x.presentation with
      | some p => some p.number
      | none => e.lastPresentation
    link := .online
    blocked := e.blocked || x.faults.getLsbD 2
    estop := x.faults.getLsbD 0 || (e.estop && !x.released) }

/-- What a good reply has done in the end: the entry as the reply leaves it, and PEDESTAL-BACK for a pedestal that was LOST
(R153, R157). -/
def State.answered (n : Ped) (x : StatusReply) (e : PedestalEntry) (s : State) : State :=
  { s with
    pedestals := s.pedestals.set n (e.replied x)
    conds := if e.link = .lost then s.conds.withPed n 9 .none else s.conds }

/-- A record after the vehicle complete flag and the vehicle request of a reply (R19, R20, R21, R94, R107). -/
def Session.driven (r : Session) (x : StatusReply) (now : Point) : Session :=
  let moved := fun (st : SessionState) => { r with state := st, refusal := none, alloc := {}, suspendStart := none }
  match r.state with
  | .dispensing =>
    if x.complete then moved .occupying
    else if x.request = 0 then { moved .suspended with suspendStart := some now }
    else { r with alloc := { r.alloc with request := x.request } }
  | .suspended =>
    if x.complete then moved .occupying
    else if x.request = 0 then r
    else { moved .dispensing with alloc := { request := x.request } }
  | .occupying =>
    if x.complete ∨ x.request = 0 then r else { moved .dispensing with alloc := { request := x.request } }
  | .free | .plugged | .authorizing | .authorized | .probing | .ending | .released => r

/-- The present power and the probe result of a reply have no say in the record's state (R24, R165). -/
abbrev Session.Undecided (r : Session) (x : StatusReply) : Prop :=
  (r.state = .probing → x.probe = .none) ∧ (r.state = .ending → 10 ≤ x.power)

/-- A reply as it is read of a record that was not in ENDING when it came: its present power has no say (R24). -/
def StatusReply.withoutEndingPower (x : StatusReply) (r : Session) : StatusReply :=
  { x with power := if r.state = .ending then x.power else max 10 x.power }

/-- The bus after a plug-in, a token or an alert that leaves every record FREE or not: while all sixteen are FREE the pace
becomes FAST and the quiet timer is started anew (R151; notes/assumptions/30.md, 37.md). -/
def State.activityBus (s : State) : Bus :=
  if ∀ n, (s.session n).state = .free then
    { s.wokenBus with quietTimer := some (s.timebase + 1000 * s.settings.quietTime) }
  else s.bus

/-- The bus after a record that was not FREE has become FREE: the quiet timer is started if it was the last one (R151). -/
def State.freedBus (s : State) (n : Ped) : Bus :=
  if ∀ m, m ≠ n → (s.session m).state = .free then s.quietBus else s.bus

/-! ## Rounds -/

/-- The budget of a round: site cap less base load and reserve, floored at 0, the base load being the last one while it is not
stale, and the fallback otherwise (R90, R91). -/
def State.ruleBudget (s : State) : Nat :=
  let load := match s.alloc.baseLoad with
    | some l => if s.timebase ≤ l.takenAt + 1000 * s.settings.staleTime then l.steps else s.settings.fallbackLoad
    | none => s.settings.fallbackLoad
  s.settings.siteCap - (load + s.settings.reserve)

/-- The cover cap of a session, in steps, at a price (R77, R78, R80, R81). -/
def State.capAtPrice (s : State) (r : Session) (g : Grant) (price : Nat) : Nat :=
  let fee := if r.meter.startFeeCharged then (s.tariffs.get g.tariff).startFee else 0
  let committed := (fee + r.meter.idleFee + r.meter.costWhole) * 1000000 + r.meter.costRemainder
  if price = 0 then 65535
  else if g.hold * 1000000 ≤ committed then 0
  else min 65535 ((g.hold * 1000000 - committed) / price * 18000 / s.settings.fastPeriod)

/-- Bytes as characters with good stop bits. -/
def goodChars (bytes : List Byte) : List RxChar := bytes.map fun b => ⟨b, true⟩

end Sys2Proof.Machine
end

