-- ==== Sys2Proof/WellFormed.lean ====
section
/-! DEFINITION. The check that a command's operands are ones the outside world can send for its row. The meanings are
total: they also say what an ill-formed command does. -/

namespace Sys2Proof

/-- The request kinds of section 12.1: 0x01 to 0x1D. -/
def isRequestKind (kind : Byte) : Bool := decide (1 ≤ kind.toNat) && decide (kind.toNat ≤ 0x1D)

/-- A body that a frame can carry (R175). -/
def bodyFits (body : List Byte) : Bool := decide (body.length ≤ 240)

/-- A run of characters holds no sync character (R176). -/
def noSync (received : List RxChar) : Bool := received.all fun c => !(c.stopGood && c.value == 0xC3#8)

/-- The operands of a command are ones its row can have. -/
def Instr.wellFormed : Instr → Bool
  | .statusRead _ b => bodyFits b
  | .parkSet _ b => bodyFits b
  | .parkRead _ b => bodyFits b
  | .parkOpen _ b => bodyFits b
  | .parkClose _ b => bodyFits b
  | .clockSet _ b => bodyFits b
  | .siteLoad _ b => bodyFits b
  | .tariffWrite _ b => bodyFits b
  | .tariffRead _ b => bodyFits b
  | .tariffClear _ b => bodyFits b
  | .windowWrite _ b => bodyFits b
  | .windowRead _ b => bodyFits b
  | .windowClear _ b => bodyFits b
  | .enrol _ b => bodyFits b
  | .withdraw _ b => bodyFits b
  | .unblock _ b => bodyFits b
  | .pedestalRead _ b => bodyFits b
  | .countersRead _ b => bodyFits b
  | .sessionRead _ b => bodyFits b
  | .sessionStop _ b => bodyFits b
  | .sessionCap _ b => bodyFits b
  | .authDecision _ b => bodyFits b
  | .queryList _ b => bodyFits b
  -- SETTLE-FETCH has one kind and two forms: the form without a session number is this row
  | .settleFetch _ b => bodyFits b && b.length != 2
  | .settleFetchNamed _ b => bodyFits b && !b.isEmpty
  | .settleConfirm _ b => bodyFits b
  | .conditionsRead _ b => bodyFits b
  | .conditionsClear _ b => bodyFits b
  | .conditionsMask _ b => bodyFits b
  -- RESTART has one kind, and its body byte names SOFT (0) or HARD (1)
  | .restartSoft _ b => bodyFits b && b != [1#8]
  | .restartHard _ b => bodyFits b && b != [0#8]
  | .badKind k _ b => bodyFits b && !isRequestKind k
  | .frameDiscarded rx => !rx.isEmpty
  | .badSyncRun rx => !rx.isEmpty && noSync rx
  | .frameGapTimeout _ => true
  | .linkSilenceExpiry => true
  | .replySent => true
  | .notice => true
  | .noticeSent => true
  | .softRestart => true
  | .hardRestart => true
  | .cycleStart => true
  -- a status reply frame has 26 bytes (section 12.4)
  | .statusReply bytes => bytes.length == 26
  | .exchangeMiss _ => true
  -- the broadcast address drives no bit, so a node with it does not contend (R158)
  | .alertSlot cs => cs.all (· != 31#5) && decide cs.Nodup
  | .quietTimerExpiry => true
  | .authDeadlineExpiry _ => true
  | .plugDeadlineExpiry _ => true
  | .probeDeadlineExpiry _ => true
  | .endingDeadlineExpiry _ => true
  | .refusalDisplayExpiry _ => true
  | .oneSecondTick => true
  | .suspendLimit _ => true
  | .idleMinute _ => true
  | .supplyWarning => true
  | .reset => true
  | .supplyFail => true
  | .retentionLoss => true
  | .powerOn => true
  | .haltedStart => true

end Sys2Proof
end

