-- ==== Sys2Proof/Certificates/Slice0/Obligations.lean ====
section
/-! DEFINITION. The statements for the provers. A request's statement names the next state in full, so that it is the
request's frame as well: `State.served` and `State.answering` are spelt out by ServedAndAnsweringTouchTheLine. -/

open Sys2Proof Sys2Proof.Machine

/-! ## Steps -/

/-- A step runs the command at the front of the queue with the queue's rest (notes/assumptions/4.md). -/
def Obligations.StepRunsTheFrontCommand : Prop :=
  ∀ (c : Instr) (rest : List Instr) (s : State), s.pending = c :: rest → step s = exec c { s with pending := rest }

/-- The model's choice (notes/assumptions/2.md): with no command waiting, a step lets one millisecond of the timebase pass
while the device is fed, and changes nothing else; no table word spells a command, so none is put into the queue. -/
def Obligations.IdleStepPassesOneMillisecond : Prop :=
  ∀ s : State, s.pending = [] →
    (s.supply.mainSupply ≠ .absent → step s = .next { s with timebase := s.timebase + 1 })
    ∧ (s.supply.mainSupply = .absent → step s = .next s)
    ∧ ∀ nbits w, step (s.withFetchWord nbits w) = step s

/-- No command touches the queue of the commands that wait (notes/assumptions/4.md). -/
def Obligations.CommandsKeepTheQueue : Prop :=
  ∀ (c : Instr) (s t : State), exec c s = .next t → t.pending = s.pending

/-- The state after reset obeys every law that the invariants below keep, and holds the values that the rules give after a
cold start: every window disabled, every tariff cleared, no pedestal enrolled, every record FREE, the clock unset, the park
CLOSED, the queue empty with counter 1, the link STANDALONE, the pace SLOW, PARK-START and CLOCK-UNSET latched. It is what
POWER_ON makes of a HALTED device without a valid marker, so that StartsBringEveryBlockToItsValues spells its every value. The
model's choices: that reset is this start (notes/assumptions/1.md), timebase 0 with the first tick at 1,000
(notes/assumptions/2.md), the strap's rate (notes/assumptions/11.md), and POWER_ON from HALTED (notes/assumptions/13.md). -/
def Obligations.ResetObeysEveryLaw : Prop :=
  let s := State.reset
  s.RecordsShaped ∧ (∀ n, (s.session n).MeteredByState) ∧ s.SlotLaw ∧ s.NumbersLaw ∧ s.TokensLaw ∧ s.QueueLaw
    ∧ (∀ i, (s.tariffs.get i).Valid) ∧ s.GrantLaw ∧ s.settings.InRange ∧ s.TableLaw ∧ s.ShareLaw ∧ s.BudgetLaw
    ∧ s.PaceLaw ∧ s.LinkLaw ∧ s.LineLaw ∧ s.RunLaw
    ∧ (∀ i, (s.windows.get i).enabled = false) ∧ (∀ i, (s.tariffs.get i).defined = false)
    ∧ (∀ n, (s.entry n).enrolled = false ∧ (s.session n).state = .free) ∧ s.clock = none ∧ s.park = .closed
    ∧ s.settlement.queue = [] ∧ s.settlement.counter = 1 ∧ s.line.mode = .standalone ∧ s.bus.pace = .slow
    ∧ s.supply.runState = .running ∧ s.supply.secondsSinceStart = 0
    ∧ condFlags s.conds 0 = [some ⟨false, .start .cold .powerOn⟩, none, none, some ⟨false, .none⟩, none]
    ∧ ∀ h : State, h.supply.runState = .halted → h.settlement.markerValid = false → h.timebase = 0 → h.tickDue = 1000 →
      h.pending = [] → h.line.strap = .baud115200 → exec .powerOn h = .next s

/-! ## Taking a frame (R175, R177, R178, R181) -/

/-- What `State.served` and `State.answering` are: a valid frame puts the parser back in HUNT, makes the link ATTENDED,
restarts the silence timer and latches LINK-RETURNED on a return (R181); a reply is sent, or waits for the frame under
way (R178). -/
def Obligations.ServedAndAnsweringTouchTheLine : Prop :=
  ∀ (s : State) (kind tag : Byte) (code : ReplyCode) (data : List Byte),
    s.served = { s with
      line := { s.line with
        parser := .hunt false
        mode := .attended
        silenceTimer := some (s.timebase + 1000 * s.settings.linkSilence) }
      conds := if s.line.mode = .attended then s.conds else s.conds.withPark 4 .none }
    ∧ State.answering kind tag code data s = { s with
      line := if s.line.sending = none then { s.line with sending := some (.reply ⟨kind, tag, code.value :: data⟩) }
        else { s.line with replyWaiting := some ⟨kind, tag, code.value :: data⟩ } }

/-- While the interface is busy, a valid request frame is answered BUSY: the BUSY reply joins the list, or a line error is
counted when the list holds eight; nothing else happens beside the link's service (R177, R178, R181). Busy is the model's
reading of R177: a reply is being sent, a BUSY one too with the list empty, or waits (notes/assumptions/22.md). -/
def Obligations.BusyRequestsAreRefused : Prop :=
  ∀ (i : Instr) (kind tag : Byte) (body : List Byte) (s : State), requestFrame i = some (kind, tag, body) →
    kind.toNat < 0x80 → s.supply.runState = .running → s.line.busy = true →
    exec i s = .next { s.served with
      line := if s.line.busyList.length < 8 then
          { s.served.line with busyList := s.line.busyList ++ [⟨kind + 0x80#8, tag, [0x02#8]⟩] }
        else { s.served.line with lineErrors := min 65535 (s.line.lineErrors + 1) } }

/-- A frame with tag 0 is answered BAD-TAG, a request whose body has another length than its kind's is answered BAD-LENGTH,
and a frame of a kind that the catalogue does not hold (BAD_KIND) is answered BAD-KIND with that kind; none has another
effect (R177, section 12.2). -/
def Obligations.BadTagKindAndLengthAreRefused : Prop :=
  (∀ (i : Instr) (kind tag : Byte) (body : List Byte) (s : State), requestFrame i = some (kind, tag, body) →
    s.supply.runState = .running → s.line.busy = false →
    (tag = 0 → kind.toNat < 0x80 → exec i s = .next (State.answering (kind + 0x80#8) 0 .badTag [] s.served))
    ∧ (tag ≠ 0 → isRequestKind kind = true → body.length ∉ acceptedLengths kind →
        exec i s = .next (State.answering (kind + 0x80#8) tag .badLength [] s.served)))
  ∧ ∀ (kind tag : Byte) (body : List Byte) (s : State), s.Ready tag → isRequestKind kind = false →
    exec (.badKind kind tag body) s =
      .next (State.answering (if kind.toNat < 0x80 then kind + 0x80#8 else 0xFF#8) tag .badKind [kind] s.served)

/-- Outside RUNNING no host frame and no character has an effect (R174). -/
def Obligations.OnlyARunningDeviceTakesTheHostLine : Prop :=
  ∀ s : State, s.supply.runState ≠ .running →
    (∀ (i : Instr) (f : Byte × Byte × List Byte), requestFrame i = some f → exec i s = .next s)
    ∧ ∀ received : List RxChar, exec (.frameDiscarded received) s = .next s
      ∧ exec (.badSyncRun received) s = .next s ∧ exec (.frameGapTimeout received) s = .next s

/-- FRAME_DISCARDED, BAD_SYNC_RUN and FRAME_GAP_TIMEOUT: a frame with a wrong CRC, with a length above 240 or cut by a bad
stop bit, a run of characters without a sync byte, and a partial frame followed by the gap each count one line error and
change nothing else but the parser (R175, R176). -/
def Obligations.DiscardedFramesCountOneLineError : Prop :=
  ∀ (s : State) (b : Bool), s.supply.runState = .running → s.line.parser = .hunt b →
    let errors := min 65535 (s.line.lineErrors + 1)
    let discarded : State := { s with line := { s.line with parser := .hunt false, lineErrors := errors } }
    (∀ (kind tag c d : Byte) (body : List Byte), body.length ≤ 240 → [c, d] ≠ crcBytes (hostFrameCore kind tag body) →
      exec (.frameDiscarded (goodChars (0xC3#8 :: hostFrameCore kind tag body ++ [c, d]))) s = .next discarded)
    ∧ (∀ length : Byte, 240 < length.toNat → exec (.frameDiscarded (goodChars [0xC3#8, length])) s = .next discarded)
    ∧ (∀ (kind tag v : Byte) (body : List Byte) (k : Nat), body.length ≤ 240 → 0 < k →
      k < (hostFrameBytes kind tag body).length →
      exec (.frameDiscarded (goodChars ((hostFrameBytes kind tag body).take k) ++ [⟨v, false⟩])) s = .next discarded
      ∧ exec (.frameGapTimeout (goodChars ((hostFrameBytes kind tag body).take k))) s = .next discarded)
    ∧ ∀ received : List RxChar, received ≠ [] → noSync received = true →
      exec (.badSyncRun received) s = .next { s with line := { s.line with
        parser := .hunt true, lineErrors := if b then s.line.lineErrors else errors } }

/-- The characters of a request's frame, arriving in HUNT at a running device, do exactly what the request's command does
(R175, R177, section 12.1). -/
def Obligations.ReceivedFramesAreTheirCommands : Prop :=
  ∀ (i : Instr) (kind tag : Byte) (body : List Byte) (s : State) (b : Bool), requestFrame i = some (kind, tag, body) →
    body.length ≤ 240 → s.supply.runState = .running → s.line.parser = .hunt b →
    exec i s = .next (receive (goodChars (hostFrameBytes kind tag body)) s)

/-! ## Requests on the park (chapters 5, 7 and 10) -/

/-- STATUS-READ reports the ten figures of R180 and clears the line-error count. -/
def Obligations.StatusReadReportsAndClearsErrors : Prop :=
  ∀ (tag : Byte) (s : State), s.Ready tag →
    exec (.statusRead tag []) s = .next (State.answering 0x81#8 tag .done
      (bytesOf 1 (if s.park = .opened then 1 else 0) ++ [1#8] ++ bytesOf 1 (if s.bus.pace = .fast then 1 else 0)
        ++ bytesOf 1 (if s.clock = none then 0 else 1) ++ bytesOf 1 s.settlement.queue.length
        ++ bytesOf 1 s.settlement.reserved ++ bytesOf 1 s.supply.startKind.code ++ bytesOf 1 s.supply.startCause.code
        ++ bytesOf 2 s.line.lineErrors)
      { s.served with line := { s.served.line with lineErrors := 0 } })

/-- PARK-SET gives each setting whose presence bit is set its value at the nearest limit, leaves the others, and is answered
DONE, or CLAMPED with the items moved and the values they took (R141, R142). A presence bit beyond the nineteen settings
is answered OUT-OF-RANGE (notes/assumptions/16.md). The model's reading: bit k of the three-byte presence field is of weight
2 to the k of the big-endian number (notes/assumptions/26.md); the entries of CLAMPED stand in ascending item number
(notes/assumptions/36.md). -/
def Obligations.ParkSetTakesEachValueAtItsNearestLimit : Prop :=
  ∀ (tag : Byte) (body : List Byte) (s : State), s.Ready tag → body.length = 33 →
    let v := parkValue body
    let t := s.settings
    (2 ^ 19 ≤ fieldAt body 0 3 → exec (.parkSet tag body) s = .next (State.answering 0x82#8 tag .outOfRange [] s.served))
    ∧ (fieldAt body 0 3 < 2 ^ 19 →
      exec (.parkSet tag body) s = .next (State.answering 0x82#8 tag (if parkMoved body = [] then .done else .clamped)
        (if parkMoved body = [] then []
          else bytesOf 1 (parkMoved body).length ++ (parkMoved body).flatMap fun m => bytesOf 1 m.1 ++ bytesOf 4 m.2)
        { s.served with settings :=
          { fastPeriod := v 1 50 250 3 2 t.fastPeriod, quietTime := v 2 10 600 5 2 t.quietTime,
            linkSilence := v 3 1 60 7 1 t.linkSilence, authWait := v 4 5 60 8 1 t.authWait,
            plugWait := v 5 30 600 9 2 t.plugWait, probeRetries := v 6 0 3 11 1 t.probeRetries,
            endingTimeout := v 7 1 10 12 1 t.endingTimeout, suspendLimit := v 8 1 60 13 1 t.suspendLimit,
            siteCap := v 9 0 65535 14 2 t.siteCap, reserve := v 10 0 65535 16 2 t.reserve,
            fallbackLoad := v 11 0 65535 18 2 t.fallbackLoad, staleTime := v 12 5 120 20 1 t.staleTime,
            agingRounds := v 13 1 255 21 1 t.agingRounds, yieldOn := v 14 1 65535 22 2 t.yieldOn,
            yieldOff := v 15 1 65535 24 2 t.yieldOff, maxHold := v 16 1 999999 26 4 t.maxHold,
            highMark := v 17 1 24 30 1 t.highMark, plausibility := v 18 1 255 31 1 t.plausibility,
            routePosted := if parkPresent body 19 then BitVec.ofNat 4 (fieldAt body 32 1) else t.routePosted } }))

/-- PARK-READ is answered DONE with every setting of R141 as it stands, the park state, and the clock: its valid flag and,
when valid, its day and second; reading changes nothing (R144, section 12.2). -/
def Obligations.ParkReadReportsEverySetting : Prop :=
  ∀ (tag : Byte) (s : State), s.Ready tag →
    let t := s.settings
    exec (.parkRead tag []) s = .next (State.answering 0x83#8 tag .done
      (bytesOf 2 t.fastPeriod ++ bytesOf 2 t.quietTime ++ bytesOf 1 t.linkSilence ++ bytesOf 1 t.authWait
        ++ bytesOf 2 t.plugWait ++ bytesOf 1 t.probeRetries ++ bytesOf 1 t.endingTimeout ++ bytesOf 1 t.suspendLimit
        ++ bytesOf 2 t.siteCap ++ bytesOf 2 t.reserve ++ bytesOf 2 t.fallbackLoad ++ bytesOf 1 t.staleTime
        ++ bytesOf 1 t.agingRounds ++ bytesOf 2 t.yieldOn ++ bytesOf 2 t.yieldOff ++ bytesOf 4 t.maxHold
        ++ bytesOf 1 t.highMark ++ bytesOf 1 t.plausibility ++ bytesOf 1 t.routePosted.toNat
        ++ bytesOf 1 (if s.park = .opened then 1 else 0)
        ++ s.clock.elim (bytesOf 1 0 ++ bytesOf 2 0xFFFF ++ bytesOf 3 0xFFFFFF)
            (fun c => bytesOf 1 1 ++ bytesOf 2 c.day ++ bytesOf 3 c.second)) s.served)

/-- PARK-OPEN opens the park if some window is enabled and is answered WRONG-STATE if none is; PARK-CLOSE closes it; CLOCK-SET
sets day and second within their ranges; SITE-LOAD takes a base load at the present timebase and reports the last round
(R139, R140, R137, R92). -/
def Obligations.ParkStateClockAndLoadAreSet : Prop :=
  ∀ (tag : Byte) (s : State), s.Ready tag →
    ((∃ i, (s.windows.get i).enabled) →
      exec (.parkOpen tag []) s = .next (State.answering 0x84#8 tag .done [] { s.served with park := .opened }))
    ∧ ((∀ i, (s.windows.get i).enabled = false) →
      exec (.parkOpen tag []) s = .next (State.answering 0x84#8 tag .wrongState [] s.served))
    ∧ exec (.parkClose tag []) s = .next (State.answering 0x85#8 tag .done [] { s.served with park := .closed })
    ∧ (∀ body : List Byte, body.length = 5 →
      (fieldAt body 0 2 ≤ 65534 → fieldAt body 2 3 ≤ 86399 →
        exec (.clockSet tag body) s = .next (State.answering 0x86#8 tag .done []
          { s.served with clock := some ⟨fieldAt body 0 2, fieldAt body 2 3⟩ }))
      ∧ ((65534 < fieldAt body 0 2 ∨ 86399 < fieldAt body 2 3) →
        exec (.clockSet tag body) s = .next (State.answering 0x86#8 tag .outOfRange [] s.served)))
    ∧ ∀ body : List Byte, body.length = 2 →
      exec (.siteLoad tag body) s = .next (State.answering 0x87#8 tag .done
        (bytesOf 2 s.alloc.lastBudget ++ bytesOf 1 s.alloc.lastCandidates ++ bytesOf 1 s.alloc.lastParked)
        { s.served with alloc := { s.alloc with baseLoad := some ⟨fieldAt body 0 2, s.timebase⟩ } })

/-- TARIFF-WRITE: an index above 7 is OUT-OF-RANGE, a tariff in use is IN-USE, a body that breaks R132 is OUT-OF-RANGE, and
otherwise the tariff becomes defined with the contents carried (R131 to R133). TARIFF-CLEAR gives a tariff that is not in use
its cleared values; TARIFF-READ reports a tariff and the number of sessions under it, and changes nothing; an index above 7
is OUT-OF-RANGE (R133, R134). -/
def Obligations.TariffsAreWrittenReadAndCleared : Prop :=
  (∀ (tag : Byte) (body : List Byte) (s : State), s.Ready tag → body.length = 43 →
      (7 < fieldAt body 0 1 → exec (.tariffWrite tag body) s = .next (State.answering 0x88#8 tag .outOfRange [] s.served))
      ∧ ∀ i : Fin 8, fieldAt body 0 1 = i.val →
        (s.UsesTariff i → exec (.tariffWrite tag body) s = .next (State.answering 0x88#8 tag .inUse [] s.served))
        ∧ (¬ s.UsesTariff i → ¬ TariffBodyGood body →
          exec (.tariffWrite tag body) s = .next (State.answering 0x88#8 tag .outOfRange [] s.served))
        ∧ (¬ s.UsesTariff i → TariffBodyGood body →
          exec (.tariffWrite tag body) s = .next (State.answering 0x88#8 tag .done []
            { s.served with tariffs := s.tariffs.set i (tariffOfBody body) })))
  ∧ ∀ (tag : Byte) (body : List Byte) (s : State), s.Ready tag → body.length = 1 →
      (7 < fieldAt body 0 1 → exec (.tariffRead tag body) s = .next (State.answering 0x89#8 tag .outOfRange [] s.served)
        ∧ exec (.tariffClear tag body) s = .next (State.answering 0x8A#8 tag .outOfRange [] s.served))
      ∧ ∀ i : Fin 8, fieldAt body 0 1 = i.val →
        (s.UsesTariff i → exec (.tariffClear tag body) s = .next (State.answering 0x8A#8 tag .inUse [] s.served))
        ∧ (¬ s.UsesTariff i →
          exec (.tariffClear tag body) s = .next (State.answering 0x8A#8 tag .done [] { s.served with
            tariffs := s.tariffs.set i { defined := false, bands := [⟨0, 0⟩], startFee := 0, idleFeePerMinute := 0, idleGrace := 0 } }))
        ∧ exec (.tariffRead tag body) s = .next (State.answering 0x89#8 tag .done
          (bytesOf 1 (if (s.tariffs.get i).defined then 1 else 0) ++ bytesOf 1 (s.tariffs.get i).bands.length
            ++ ((List.range 6).flatMap fun j =>
                bytesOf 2 (((s.tariffs.get i).bands[j]?).elim 0 Band.start)
                  ++ bytesOf 4 (((s.tariffs.get i).bands[j]?).elim 0 Band.price))
            ++ bytesOf 2 (s.tariffs.get i).startFee ++ bytesOf 2 (s.tariffs.get i).idleFeePerMinute
            ++ bytesOf 1 (s.tariffs.get i).idleGrace
            ++ bytesOf 1 (Ped.all.countP fun n =>
                (s.session n).state.granted && decide ((s.session n).grant.map (·.tariff) = some i))) s.served)

/-! ## Requests on the acceptance windows (chapter 2) -/

/-- WINDOW-WRITE replaces every field of the window named by the values carried, or is answered OUT-OF-RANGE and leaves the
window as it was (R34). WINDOW-READ reports a window, the value bytes of an absent power cap being open
(notes/assumptions/8.md); WINDOW-CLEAR gives it its cleared values; an index above 11 is OUT-OF-RANGE (R35, section 12.2). -/
def Obligations.WindowsAreWrittenReadAndCleared : Prop :=
  (∀ (tag : Byte) (body : List Byte) (s : State), s.Ready tag → body.length = 38 →
      (∀ i : Fin 12, fieldAt body 0 1 = i.val → WindowBodyGood body →
        exec (.windowWrite tag body) s = .next (State.answering 0x8B#8 tag .done []
          { s.served with windows := s.windows.set i (windowOfBody body) }))
      ∧ ((11 < fieldAt body 0 1 ∨ ¬ WindowBodyGood body) →
        exec (.windowWrite tag body) s = .next (State.answering 0x8B#8 tag .outOfRange [] s.served)))
  ∧ ∀ (tag : Byte) (body : List Byte) (s : State), s.Ready tag → body.length = 1 →
      (11 < fieldAt body 0 1 → exec (.windowRead tag body) s = .next (State.answering 0x8C#8 tag .outOfRange [] s.served)
        ∧ exec (.windowClear tag body) s = .next (State.answering 0x8D#8 tag .outOfRange [] s.served))
      ∧ ∀ i : Fin 12, fieldAt body 0 1 = i.val →
        exec (.windowClear tag body) s = .next (State.answering 0x8D#8 tag .done [] { s.served with
          windows := s.windows.set i
            { enabled := false, base := 0, mask := 0, translateEnabled := false, translate := 0, mode := .deny,
              localHold := 1, tariff := 0, route := 0, baseRank := 15, powerCap := none } })
        ∧ ∃ cap : List Byte, cap.length = 2 ∧ (∀ c, (s.windows.get i).powerCap = some c → cap = bytesOf 2 c)
          ∧ exec (.windowRead tag body) s = .next (State.answering 0x8C#8 tag .done
            (let w := s.windows.get i
             bytesOf 1 i.val ++ bytesOf 1 (if w.enabled then 1 else 0) ++ bytesOf 8 w.base.toNat ++ bytesOf 8 w.mask.toNat
              ++ bytesOf 1 (if w.translateEnabled then 1 else 0) ++ bytesOf 8 w.translate.toNat ++ bytesOf 1 w.mode.code
              ++ bytesOf 4 w.localHold ++ bytesOf 1 w.tariff.val ++ bytesOf 1 w.route.val ++ bytesOf 1 w.baseRank.val
              ++ bytesOf 1 (if w.powerCap = none then 0 else 1) ++ cap) s.served)

/-- The match result is the lowest-numbered enabled window that agrees with the token in every position where its mask has a
1; no hit leaves the window index absent. A mask of all ones hits one token value and a mask of 0 every token. The match of
an accepted token is made against the window table as it stands (R37). -/
def Obligations.LowestEnabledHittingWindowMatches : Prop :=
  ∀ (s : State) (token : Token),
    let agrees := fun (w : Window) => ∀ b < 64, w.mask.getLsbD b = true → token.getLsbD b = w.base.getLsbD b
    let hit := fun (i : Fin 12) => (s.windows.get i).enabled = true ∧ agrees (s.windows.get i)
    (∀ i, s.matchWindow token = some i ↔ hit i ∧ ∀ j < i, ¬ hit j)
    ∧ (s.matchWindow token = none ↔ ∀ i, ¬ hit i)
    ∧ (∀ i, (s.windows.get i).mask = BitVec.allOnes 64 → (hit i ↔ (s.windows.get i).enabled ∧ token = (s.windows.get i).base))
    ∧ (∀ i, (s.windows.get i).mask = 0 → (hit i ↔ (s.windows.get i).enabled))
    ∧ ∀ (n : Ped) (source : TokenSource) (o : Opening), ((acceptToken n token source s).session n).opening = some o →
      o.window = s.matchWindow token

/-- AUTH-DECISION: LATE for a number that no record waits under; a deny cancels with its reason byte; a grant in range is
offered with the terms of R46; another grant is OUT-OF-RANGE (R46, R47). An undefined verdict or presence byte is answered
OUT-OF-RANGE after the LATE row (notes/assumptions/15.md). -/
def Obligations.AuthDecisionGrantsOrDenies : Prop :=
  ∀ (tag : Byte) (body : List Byte) (s : State), s.Ready tag → body.length = 13 →
    ((∀ n, ¬ s.WaitsUnder n (fieldAt body 0 2)) →
      exec (.authDecision tag body) s = .next (State.answering 0x96#8 tag .late [] s.served))
    ∧ ∀ n : Ped, s.WaitsUnder n (fieldAt body 0 2) → (∀ m, m ≠ n → ¬ s.WaitsUnder m (fieldAt body 0 2)) →
      ((fieldAt body 2 1 > 1 ∨ fieldAt body 3 1 > 7) →
        exec (.authDecision tag body) s = .next (State.answering 0x96#8 tag .outOfRange [] s.served))
      ∧ (fieldAt body 2 1 = 0 → fieldAt body 3 1 ≤ 7 →
        exec (.authDecision tag body) s = .next (State.answering 0x96#8 tag .done []
          (cancelSession n (BitVec.ofNat 8 (fieldAt body 12 1)) s.served)))
      ∧ (fieldAt body 2 1 = 1 → fieldAt body 3 1 ≤ 7 → ¬ s.DecisionGood body →
        exec (.authDecision tag body) s = .next (State.answering 0x96#8 tag .outOfRange [] s.served))
      ∧ ∀ c : CapturedTerms, (s.session n).captured = some c → fieldAt body 2 1 = 1 → fieldAt body 3 1 ≤ 7 →
        s.DecisionGood body →
        exec (.authDecision tag body) s = .next (State.answering 0x96#8 tag .done []
          (offerGrant n
            { kind := .referred, hold := fieldAt body 4 4,
              tariff := (decisionField body 0 8 1).elim c.tariff (Fin.ofNat 8), route := c.route,
              baseRank := (decisionField body 2 11 1).elim c.baseRank (Fin.ofNat 16),
              cap := (decisionField body 1 9 2).elim c.powerCap some } s.served))

/-! ## Requests on the pedestal table (chapter 8) -/

/-- ENROL writes the four fields within R147's ranges: a first enrolment starts from the not-enrolled values, a re-enrolment
keeps the entry's other fields and takes a POWERED session's share away (R108, R147). WITHDRAW of an enrolled pedestal with a
FREE record gives its entry the not-enrolled values and voids its exchange under way; UNBLOCK clears the blocked field of an
enrolled pedestal whose record is FREE or RELEASED; the other rows of R148 and R173 change nothing. -/
def Obligations.PedestalsAreEnrolledWithdrawnAndUnblocked : Prop :=
  (∀ (tag : Byte) (body : List Byte) (s : State), s.Ready tag → body.length = 7 →
      ((fieldAt body 0 1 = 0 ∨ 16 < fieldAt body 0 1 ∨ ¬ EnrolBodyGood body) →
        exec (.enrol tag body) s = .next (State.answering 0x8E#8 tag .outOfRange [] s.served))
      ∧ ∀ n : Ped, fieldAt body 0 1 = n.number → EnrolBodyGood body →
        let e := s.entry n
        let r := s.session n
        exec (.enrol tag body) s = .next (State.answering 0x8E#8 tag .done [] { s.served with
          pedestals := s.pedestals.set n
            (if e.enrolled then
              { e with rating := fieldAt body 1 2, floor := fieldAt body 3 2, extension := fieldAt body 5 1,
                       maxCable := fieldAt body 6 1 }
            else
              { enrolled := true, rating := fieldAt body 1 2, floor := fieldAt body 3 2, extension := fieldAt body 5 1,
                maxCable := fieldAt body 6 1 })
          records := if e.enrolled ∧ r.state = .dispensing ∧ r.alloc.grantState = .powered then
              s.records.set n { r with alloc := { r.alloc with grantState := .none, share := 0 } }
            else s.records }))
  ∧ ∀ (tag : Byte) (body : List Byte) (s : State), s.Ready tag → body.length = 1 →
      ((fieldAt body 0 1 = 0 ∨ 16 < fieldAt body 0 1) →
        exec (.withdraw tag body) s = .next (State.answering 0x8F#8 tag .outOfRange [] s.served)
        ∧ exec (.unblock tag body) s = .next (State.answering 0x90#8 tag .outOfRange [] s.served))
      ∧ ∀ n : Ped, fieldAt body 0 1 = n.number →
        let e := s.entry n
        let st := (s.session n).state
        (e.enrolled = false →
          exec (.withdraw tag body) s = .next (State.answering 0x8F#8 tag .notFound [] s.served)
          ∧ exec (.unblock tag body) s = .next (State.answering 0x90#8 tag .notFound [] s.served))
        ∧ (e.enrolled → st ≠ .free →
          exec (.withdraw tag body) s = .next (State.answering 0x8F#8 tag .inUse [] s.served))
        ∧ (e.enrolled → st = .free →
          exec (.withdraw tag body) s = .next (State.answering 0x8F#8 tag .done [] { s.served with
            pedestals := s.pedestals.set n {}
            bus := match s.bus.phase with
              | .exchange x =>
                if x.pedestal = n then { s.bus with phase := .exchange ⟨n, x.outOfTurn, true⟩ } else s.bus
              | .idle | .alertSlot | .stopped => s.bus }))
        ∧ (e.enrolled → st ≠ .free → st ≠ .released →
          exec (.unblock tag body) s = .next (State.answering 0x90#8 tag .inUse [] s.served))
        ∧ (e.enrolled → (st = .free ∨ st = .released) →
          exec (.unblock tag body) s = .next (State.answering 0x90#8 tag .done []
            { s.served with pedestals := s.pedestals.set n { e with blocked := false } }))

/-- PEDESTAL-READ is answered DONE with every field of the entry but the cycle miss mark, as the entry stands, a pedestal that
is not enrolled reading with its not-enrolled values; it changes nothing, and a number outside 1 to 16 is OUT-OF-RANGE
(R149). The byte of a presentation number that is not held is open (notes/assumptions/9.md). -/
def Obligations.PedestalReadReportsTheEntry : Prop :=
  ∀ (tag : Byte) (body : List Byte) (s : State), s.Ready tag → body.length = 1 →
    ((fieldAt body 0 1 = 0 ∨ 16 < fieldAt body 0 1) →
      exec (.pedestalRead tag body) s = .next (State.answering 0x91#8 tag .outOfRange [] s.served))
    ∧ ∀ n : Ped, fieldAt body 0 1 = n.number → (s.entry n).Valid →
      let e := s.entry n
      (e.enrolled = false → e = {})
      ∧ ∃ number : Byte, (∀ p, e.lastPresentation = some p → number = p)
        ∧ exec (.pedestalRead tag body) s = .next (State.answering 0x91#8 tag .done
          (bytesOf 1 (if e.enrolled then 1 else 0) ++ bytesOf 2 e.rating ++ bytesOf 2 e.floor ++ bytesOf 1 e.extension
            ++ bytesOf 1 e.maxCable ++ bytesOf 1 (if e.link = .online then 1 else 0)
            ++ bytesOf 1 (if e.blocked then 1 else 0) ++ bytesOf 1 (if e.estop then 1 else 0) ++ bytesOf 3 e.lastMeter
            ++ bytesOf 1 (if e.lastPlug = some true then 1 else if e.lastPlug = some false then 0 else 0xFF)
            ++ bytesOf 1 (if e.lastPresentation = none then 0 else 1) ++ [number]
            ++ bytesOf 1 e.misses ++ bytesOf 1 e.frameErrors) s.served)

/-- COUNTERS-READ reports the sixteen frame-error counters and clears them with the miss marks (R156); QUERY-LIST reports the
waiting sessions and SESSION-READ every field of a record in the 121 bytes of section 12.2, absent ones in their absent
forms, and both change nothing (R31, R52). -/
def Obligations.CountersQueriesAndSessionsAreRead : Prop :=
  ∀ (tag : Byte) (s : State), s.Ready tag →
    exec (.countersRead tag []) s = .next (State.answering 0x92#8 tag .done
      (Ped.all.flatMap fun n => bytesOf 1 (s.entry n).frameErrors)
      { s.served with pedestals := s.pedestals.map fun e => { e with frameErrors := 0, missMark := false } })
    ∧ (∀ queries : List (Ped × Opening), queries = (Ped.all.filterMap fun n =>
          if (s.session n).state = .authorizing ∧ (s.session n).authDeadline ≠ none then
            (s.session n).opening.map fun o => (n, o) else none) →
      exec (.queryList tag []) s = .next (State.answering 0x97#8 tag .done
        (bytesOf 1 queries.length ++ queries.flatMap fun q =>
          bytesOf 2 q.2.number ++ bytesOf 1 q.1.number ++ bytesOf 8 q.2.token.toNat
            ++ bytesOf 1 (if q.2.source = .vehicle then 1 else 0) ++ bytesOf 1 (q.2.window.elim 0xFF (·.val))) s.served))
    ∧ ∀ body : List Byte, body.length = 1 →
      ((fieldAt body 0 1 = 0 ∨ 16 < fieldAt body 0 1) →
        exec (.sessionRead tag body) s = .next (State.answering 0x93#8 tag .outOfRange [] s.served))
      ∧ ∀ n : Ped, fieldAt body 0 1 = n.number →
        let r := s.session n
        let m := r.meter
        let stamp := fun (x : Option Stamp) =>
          x.elim (bytesOf 2 0xFFFF ++ bytesOf 3 0xFFFFFF) fun p => bytesOf 2 p.day ++ bytesOf 3 p.second
        let left := fun (x : Option Point) => bytesOf 2 (x.elim 0xFFFF fun p => (p - s.timebase + 999) / 1000)
        let data :=
          bytesOf 1 (n.val + 1) ++ bytesOf 1 r.state.code ++ bytesOf 1 r.hasPlug.code
          ++ bytesOf 2 (r.opening.elim 0 (·.number)) ++ bytesOf 8 (r.opening.elim 0 (·.token.toNat))
          ++ bytesOf 1 (r.opening.elim 0 fun o => if o.source = .vehicle then 1 else 0)
          ++ bytesOf 1 ((r.opening.bind (·.window)).elim 0xFF (·.val)) ++ bytesOf 8 (r.opening.elim 0 (·.account.toNat))
          ++ bytesOf 1 (r.grant.elim 0xFF (·.kind.code)) ++ bytesOf 1 (r.grant.elim 0 (·.tariff.val))
          ++ bytesOf 4 (r.grant.elim 0 (·.hold)) ++ bytesOf 1 (r.grant.elim 0 (·.route.val))
          ++ bytesOf 1 (r.grant.elim 0 (·.baseRank.val)) ++ bytesOf 2 ((r.grant.bind (·.authCap)).elim 0 id)
          ++ bytesOf 2 (r.hostCap.elim 0 id) ++ bytesOf 1 r.alloc.grantState.code ++ bytesOf 2 r.alloc.share
          ++ bytesOf 2 r.alloc.waitRounds ++ bytesOf 2 r.alloc.servedRounds ++ bytesOf 2 r.alloc.yieldLeft
          ++ bytesOf 3 r.baseline ++ bytesOf 4 m.energyTotal ++ (m.bandEnergy.toList.flatMap fun e => bytesOf 4 e)
          ++ bytesOf 4 m.costWhole ++ bytesOf 4 m.costRemainder ++ bytesOf 1 (if m.startFeeCharged then 1 else 0)
          ++ bytesOf 4 m.occupyingSeconds ++ bytesOf 4 m.idleMinutes ++ bytesOf 4 m.idleFee
          ++ bytesOf 1 ((if r.flags.clockUnset then 1 else 0) + (if r.flags.idleCapped then 2 else 0)
            + (if r.flags.meterJump then 4 else 0) + (if r.flags.meterGap then 8 else 0))
          ++ stamp (r.opening.map (·.opened)) ++ stamp r.energized ++ [r.endReason.elim 0 (·.code)]
          ++ bytesOf 1 r.probeAttempts ++ left r.authDeadline ++ left r.plugDeadline ++ left r.probeDeadline
          ++ left r.endingDeadline ++ bytesOf 2 (r.suspendStart.elim 0xFFFF fun p => (s.timebase - p) / 1000)
          ++ [r.refusal.elim 0 (·.reason)] ++ bytesOf 1 (r.refusal.elim 0 fun d => (d.until_ - s.timebase + 999) / 1000)
        data.length = 121 ∧ exec (.sessionRead tag body) s = .next (State.answering 0x93#8 tag .done data s.served)

/-! ## Requests on sessions (chapters 1 and 5) -/

/-- SESSION-STOP by the rows of R30: refusals that change nothing, a cancel, a close at once, an ENDING phase, or nothing for
a session that is ending already. -/
def Obligations.SessionStopEndsTheSession : Prop :=
  ∀ (tag : Byte) (body : List Byte) (s : State), s.Ready tag → (body.length = 1 ∨ body.length = 3) →
    let named := body.length = 3
    let number := fieldAt body 1 2
    ((fieldAt body 0 1 = 0 ∨ 16 < fieldAt body 0 1 ∨ (named ∧ number = 0)) →
      exec (.sessionStop tag body) s = .next (State.answering 0x94#8 tag .outOfRange [] s.served))
    ∧ ∀ n : Ped, fieldAt body 0 1 = n.number →
      let r := s.session n
      let holds := r.state.isOpen = true ∧ r.opening.map (·.number) = some number
      (named → number ≠ 0 → ¬ holds →
        exec (.sessionStop tag body) s = .next (State.answering 0x94#8 tag .notFound [] s.served))
      ∧ (¬ named → r.state.isOpen = false →
        exec (.sessionStop tag body) s = .next (State.answering 0x94#8 tag .wrongState [] s.served))
      ∧ ((¬ named ∨ (number ≠ 0 ∧ holds)) →
        (r.state = .authorizing →
          exec (.sessionStop tag body) s = .next (State.answering 0x94#8 tag .done [] (cancelSession n 0x02#8 s.served)))
        ∧ ((r.state = .authorized ∨ r.state = .probing) →
          exec (.sessionStop tag body) s = .next (State.answering 0x94#8 tag .done [] (closeSession n .hostStop s.served)))
        ∧ ((r.state = .dispensing ∨ r.state = .suspended ∨ r.state = .occupying) →
          exec (.sessionStop tag body) s = .next (State.answering 0x94#8 tag .done [] { s.served with
            records := s.records.set n (r.ended .hostStop (s.timebase + 1000 * s.settings.endingTimeout)) }))
        ∧ (r.state = .ending →
          exec (.sessionStop tag body) s = .next (State.answering 0x94#8 tag .done [] s.served)))

/-- SESSION-CAP by the rows of R96: the host cap of an open session becomes absent, the cap carried, or the floor of its
pedestal, and the refusals change nothing. -/
def Obligations.SessionCapSetsTheHostCap : Prop :=
  ∀ (tag : Byte) (body : List Byte) (s : State), s.Ready tag → body.length = 6 →
    let presence := fieldAt body 1 1
    let number := fieldAt body 2 2
    let cap := fieldAt body 4 2
    let named := presence.testBit 0 = true
    let capped := presence.testBit 1 = true
    ((fieldAt body 0 1 = 0 ∨ 16 < fieldAt body 0 1 ∨ presence > 3 ∨ (capped ∧ cap = 0) ∨ (named ∧ number = 0)) →
      exec (.sessionCap tag body) s = .next (State.answering 0x95#8 tag .outOfRange [] s.served))
    ∧ ∀ n : Ped, fieldAt body 0 1 = n.number → presence ≤ 3 → (capped → cap ≠ 0) → (named → number ≠ 0) →
      let r := s.session n
      let holds := r.state.isOpen = true ∧ r.opening.map (·.number) = some number
      let put := fun (h : Option Nat) => { s.served with records := s.records.set n { r with hostCap := h } }
      (named → ¬ holds → exec (.sessionCap tag body) s = .next (State.answering 0x95#8 tag .notFound [] s.served))
      ∧ (¬ named → r.state.isOpen = false →
        exec (.sessionCap tag body) s = .next (State.answering 0x95#8 tag .wrongState [] s.served))
      ∧ ((named → holds) → r.state.isOpen = true →
        (¬ capped → exec (.sessionCap tag body) s = .next (State.answering 0x95#8 tag .done [] (put none)))
        ∧ (capped → (s.entry n).floor ≤ cap →
          exec (.sessionCap tag body) s = .next (State.answering 0x95#8 tag .done [] (put (some cap))))
        ∧ (capped → cap < (s.entry n).floor →
          exec (.sessionCap tag body) s = .next (State.answering 0x95#8 tag .clamped
            (bytesOf 1 1 ++ bytesOf 1 0 ++ bytesOf 4 (s.entry n).floor) (put (some (s.entry n).floor)))))

/-! ## Requests on the settlement queue (chapter 6) -/

/-- SETTLE-FETCH without a number, whichever row carries it, returns the oldest PENDING record with the number of PENDING ones
left, and marks it DELIVERED in its place, or removes it if it is posted; with none PENDING the reply is EMPTY (R122, R124).
SETTLE-FETCH with a session number returns a DELIVERED record again and changes nothing, and SETTLE-CONFIRM removes it;
number 0, a number that no record carries and a PENDING record are refused (R123, R125). A record with m band entries travels in
77 + 5m bytes, every field at the place that section 12.2 gives it. -/
def Obligations.SettlementRecordsAreFetchedAndConfirmed : Prop :=
  let stamp := fun (x : Option Stamp) =>
    x.elim (bytesOf 2 0xFFFF ++ bytesOf 3 0xFFFFFF) fun p => bytesOf 2 p.day ++ bytesOf 3 p.second
  let bit := fun (b : Bool) (weight : Nat) => if b then weight else 0
  let layout := fun (r : SettlementRecord) =>
    bytesOf 2 r.number ++ bytesOf 1 (r.pedestal.val + 1) ++ bytesOf 8 r.token.toNat
      ++ bytesOf 1 (if r.source = .vehicle then 1 else 0) ++ bytesOf 8 r.account.toNat
      ++ bytesOf 1 (r.window.elim 0xFF (·.val))
      ++ bytesOf 1 (match r.grantKind with | .localGrant => 0 | .referred => 1 | .fallback => 2)
      ++ bytesOf 1 r.route.val ++ bytesOf 1 (if r.posted then 1 else 0) ++ bytesOf 1 r.tariff.val ++ bytesOf 4 r.hold
      ++ stamp (some r.opened) ++ stamp r.energized ++ stamp (some r.closed) ++ bytesOf 4 r.energyTotal
      ++ bytesOf 2 r.startFee ++ bytesOf 4 r.energyCost ++ bytesOf 4 r.idleMinutes ++ bytesOf 4 r.idleFee
      ++ bytesOf 4 r.total ++ bytesOf 4 r.due ++ bytesOf 4 r.absorbed
      ++ bytesOf 1 (match r.endReason with
          | .userStop => 0x01 | .hostStop => 0x02 | .vehicleUnplug => 0x03 | .noVehicle => 0x04 | .cableOpen => 0x05
          | .cableShort => 0x06 | .cableLong => 0x07 | .estop => 0x08 | .pedestalFault => 0x09 | .coverExhausted => 0x0A
          | .pedestalLost => 0x0B | .supplyLoss => 0x0C | .hostRestart => 0x0D)
      ++ bytesOf 1 (bit r.flags.localGrant 1 + bit r.flags.fallbackGrant 2 + bit r.flags.clockUnset 4
          + bit r.flags.idleCapped 8 + bit r.flags.meterJump 16 + bit r.flags.meterGap 32 + bit r.flags.holdClamped 64)
      ++ bytesOf 1 r.bandList.length ++ r.bandList.flatMap fun e => bytesOf 1 e.index ++ bytesOf 4 e.energy
  (∀ r : SettlementRecord, (layout r).length = 77 + 5 * r.bandList.length)
  ∧ (∀ (tag : Byte) (s : State) (i : Instr), s.Ready tag → (i = .settleFetch tag [] ∨ i = .settleFetchNamed tag []) →
      ((∀ r ∈ s.settlement.queue, r.delivery = .delivered) →
        exec i s = .next (State.answering 0x98#8 tag .empty [] s.served))
      ∧ ∀ (older newer : List SettlementRecord) (r : SettlementRecord), s.settlement.queue = older ++ r :: newer →
        (∀ q ∈ older, q.delivery = .delivered) → r.delivery = .pending →
        exec i s = .next (State.answering 0x98#8 tag .done
          (bytesOf 1 (newer.countP fun q => decide (q.delivery = .pending)) ++ layout r)
          { s.served with settlement := { s.settlement with queue :=
            older ++ (if r.posted then newer else { r with delivery := .delivered } :: newer) } }))
  ∧ ∀ (tag : Byte) (body : List Byte) (s : State) (i : Instr), s.Ready tag → body.length = 2 →
      (i = .settleFetch tag body ∨ i = .settleFetchNamed tag body) →
      let number := fieldAt body 0 2
      (number = 0 → exec i s = .next (State.answering 0x98#8 tag .outOfRange [] s.served)
        ∧ exec (.settleConfirm tag body) s = .next (State.answering 0x99#8 tag .outOfRange [] s.served))
      ∧ (number ≠ 0 → (∀ r ∈ s.settlement.queue, r.number ≠ number) →
        exec i s = .next (State.answering 0x98#8 tag .notFound [] s.served)
        ∧ exec (.settleConfirm tag body) s = .next (State.answering 0x99#8 tag .notFound [] s.served))
      ∧ ∀ (older newer : List SettlementRecord) (r : SettlementRecord), number ≠ 0 →
        s.settlement.queue = older ++ r :: newer → (∀ q ∈ older, q.number ≠ number) → r.number = number →
        (r.delivery = .pending →
          exec i s = .next (State.answering 0x98#8 tag .notDelivered [] s.served)
          ∧ exec (.settleConfirm tag body) s = .next (State.answering 0x99#8 tag .notDelivered [] s.served))
        ∧ (r.delivery = .delivered →
          exec i s = .next (State.answering 0x98#8 tag .done
            (bytesOf 1 (s.settlement.queue.countP fun q => decide (q.delivery = .pending)) ++ layout r) s.served)
          ∧ exec (.settleConfirm tag body) s = .next (State.answering 0x99#8 tag .done []
            { s.served with settlement := { s.settlement with queue := older ++ newer } }))

/-! ## Requests on the conditions (chapter 10) -/

/-- CONDITIONS-READ reports a set and marks every set flag of it reported; CONDITIONS-CLEAR clears the named flags that are
reported and no other; CONDITIONS-MASK replaces the mask; a set above 16, a kind of another type and no kind at all are
OUT-OF-RANGE (R183, R185, R186, R193). The data of the set flags follow in bit order (section 12.2). The model's reading: the
bits of a two-byte kind field by their weight in the big-endian number (notes/assumptions/26.md). -/
def Obligations.ConditionsAreReadClearedAndMasked : Prop :=
  ∀ (tag : Byte) (body : List Byte) (s : State), s.Ready tag →
    let c := s.served.conds
    let mark := fun (f : Option Latched) => f.map fun l => { l with reported := true }
    let cleared := fun (named i : Nat) (f : Option Latched) =>
      if named.testBit i ∧ f.map (·.reported) = some true then none else f
    (body.length = 1 →
      (16 < fieldAt body 0 1 →
        exec (.conditionsRead tag body) s = .next (State.answering 0x9A#8 tag .outOfRange [] s.served))
      ∧ (fieldAt body 0 1 = 0 →
        ∃ flags marks : Nat, Listed c.park.toList (fun _ _ => true) flags ∧ Listed c.park.toList (fun _ l => l.reported) marks
        ∧ exec (.conditionsRead tag body) s = .next (State.answering 0x9A#8 tag .done
          (bytesOf 1 0 ++ bytesOf 2 flags ++ bytesOf 2 marks ++ listedData c.park.toList fun _ _ => true)
          { s.served with conds := { c with park := c.park.map mark } }))
      ∧ ∀ n : Ped, fieldAt body 0 1 = n.number →
        let set := (c.ped.get n).toList
        ∃ flags marks : Nat, Listed set (fun _ _ => true) flags ∧ Listed set (fun _ l => l.reported) marks
        ∧ exec (.conditionsRead tag body) s = .next (State.answering 0x9A#8 tag .done
          (bytesOf 1 n.number ++ bytesOf 2 flags ++ bytesOf 2 marks ++ listedData set fun _ _ => true)
          { s.served with conds := { c with ped := c.ped.set n ((c.ped.get n).map mark) } }))
    ∧ (body.length = 3 →
      let named := fieldAt body 1 2
      ((16 < fieldAt body 0 1 ∨ named = 0 ∨ (fieldAt body 0 1 = 0 ∧ 2 ^ 5 ≤ named) ∨ 2 ^ 11 ≤ named) →
        exec (.conditionsClear tag body) s = .next (State.answering 0x9B#8 tag .outOfRange [] s.served))
      ∧ (fieldAt body 0 1 = 0 → 0 < named → named < 2 ^ 5 →
        ∃ (set : ParkSet) (left : Nat), (∀ i : Fin 5, set.get i = cleared named i (c.park.get i))
          ∧ Listed set.toList (fun _ _ => true) left
          ∧ exec (.conditionsClear tag body) s = .next (State.answering 0x9B#8 tag .done
            (bytesOf 2 left) { s.served with conds := { c with park := set } }))
      ∧ ∀ n : Ped, fieldAt body 0 1 = n.number → 0 < named → named < 2 ^ 11 →
        ∃ (set : PedSet) (left : Nat), (∀ i : Fin 11, set.get i = cleared named i ((c.ped.get n).get i))
          ∧ Listed set.toList (fun _ _ => true) left
          ∧ exec (.conditionsClear tag body) s = .next (State.answering 0x9B#8 tag .done
            (bytesOf 2 left)
            { s.served with conds := { c with ped := c.ped.set n set } }))
    ∧ (body.length = 3 →
      ((2 ^ 11 ≤ fieldAt body 0 2 ∨ 2 ^ 5 ≤ fieldAt body 2 1) →
        exec (.conditionsMask tag body) s = .next (State.answering 0x9C#8 tag .outOfRange [] s.served))
      ∧ (fieldAt body 0 2 < 2 ^ 11 → fieldAt body 2 1 < 2 ^ 5 →
        exec (.conditionsMask tag body) s = .next (State.answering 0x9C#8 tag .done [] { s.served with
          conds := { c with pedMask := BitVec.ofNat 11 (fieldAt body 0 2), parkMask := BitVec.ofNat 5 (fieldAt body 2 1) } })))

/-! ## Sessions: grant, cancel and close (chapters 1, 2, 3 and 6) -/

/-- The three steps of R45 on a session in AUTHORIZING: an undefined tariff and a clamped hold below the start fee become a
deny; otherwise the terms are written, and the record enters PROBING with its first attempt started if the plug is in, and
AUTHORIZED with the plug deadline started if not (R12, R15, R16, R45, R163). -/
def Obligations.GrantsAreCheckedAndTaken : Prop :=
  ∀ (n : Ped) (o : GrantOffer) (s : State), (s.session n).state = .authorizing →
    let r := s.session n
    let t := s.tariffs.get o.tariff
    let hold := if s.settings.maxHold < o.hold then s.settings.maxHold else o.hold
    let g : Grant := ⟨o.kind, o.tariff, hold, o.route, o.baseRank, o.cap.map fun c => max c (s.entry n).floor⟩
    (t.defined = false → offerGrant n o s = cancelSession n 0x26#8 s)
    ∧ (t.defined → hold < t.startFee → offerGrant n o s = cancelSession n 0x27#8 s)
    ∧ (t.defined → t.startFee ≤ hold → r.hasPlug = .yes → offerGrant n o s = { s with
      records := s.records.set n
        { r with state := .probing, grant := some g, captured := none, authDeadline := none, plugDeadline := none,
                 refusal := none, alloc := {}, suspendStart := none, probeAttempts := 1, probeSend := true,
                 probeDeadline := some (s.timebase + 5000) } })
    ∧ (t.defined → t.startFee ≤ hold → r.hasPlug ≠ .yes → offerGrant n o s = { s with
      records := s.records.set n
        { r with state := .authorized, grant := some g, captured := none, authDeadline := none, alloc := {},
                 suspendStart := none, plugDeadline := some (s.timebase + 1000 * s.settings.plugWait) } })

/-- A cancel releases the slot, latches TOKEN-REFUSED with the reason, sets the refusal display and leaves the record PLUGGED
or FREE with its FREE values (R13); a close turns the slot into a PENDING record at the newest end of the queue, tests the
high mark, latches SESSION-CLOSED and leaves the record RELEASED or FREE (R26, R118, R126). -/
def Obligations.CancelAndCloseFreeTheRecord : Prop :=
  ∀ (n : Ped) (s : State), (s.session n).state ≠ .free →
    let r := s.session n
    let othersFree := ∀ m, m ≠ n → (s.session m).state = .free
    (∀ reason : Byte,
      let refused : Session := { baseline := r.baseline, refusal := some ⟨reason, s.timebase + 5000⟩ }
      let base : State := { s with
        settlement := { s.settlement with reserved := s.settlement.reserved - 1 }
        conds := s.conds.withPed n 2 (.reason reason) }
      (r.hasPlug = .yes → cancelSession n reason s =
        { base with records := s.records.set n { refused with state := .plugged, hasPlug := .yes } })
      ∧ (r.hasPlug ≠ .yes → ¬ othersFree → cancelSession n reason s = { base with records := s.records.set n refused })
      ∧ (r.hasPlug ≠ .yes → othersFree → cancelSession n reason s =
        { base with records := s.records.set n refused, bus := s.quietBus }))
    ∧ ∀ (why : EndReason) (o : Opening) (g : Grant), r.opening = some o → r.grant = some g →
      let reason := r.endReason.getD why
      let queue := s.settlement.queue ++ [buildRecord n r o g reason s]
      let base : State := { s with
        settlement := { s.settlement with queue := queue, reserved := s.settlement.reserved - 1 }
        conds := (if s.settings.highMark ≤ queue.length then s.conds.withPark 1 .none else s.conds).withPed n 5 .none }
      (r.hasPlug ≠ .no → closeSession n why s = { base with
      records := s.records.set n
        { state := .released, hasPlug := r.hasPlug, endReason := some reason, baseline := r.baseline } })
      ∧ (r.hasPlug = .no → ¬ othersFree →
        closeSession n why s = { base with records := s.records.set n { baseline := r.baseline } })
      ∧ (r.hasPlug = .no → othersFree →
        closeSession n why s = { base with records := s.records.set n { baseline := r.baseline }, bus := s.quietBus })

/-- The record of a close carries the session's fields, its stamps, the close figures of R71 and the flags of R119, and is
PENDING (R114, R118). -/
def Obligations.SettlementRecordCarriesTheSession : Prop :=
  ∀ (n : Ped) (r : Session) (o : Opening) (g : Grant) (why : EndReason) (s : State),
    r.meter.startFeeCharged = r.state.energyFlow → r.meter.costWhole < 4294967295 →
    let q := buildRecord n r o g why s
    let fee := if r.state.energyFlow then (s.tariffs.get g.tariff).startFee else 0
    let cost := r.meter.costWhole + (if 500000 ≤ r.meter.costRemainder then 1 else 0)
    let total := if fee + cost + r.meter.idleFee ≤ 4294967295 then fee + cost + r.meter.idleFee else 4294967295
    (q.number = o.number ∧ q.pedestal = n ∧ q.token = o.token ∧ q.source = o.source ∧ q.account = o.account
      ∧ q.window = o.window ∧ q.opened = o.opened)
    ∧ (q.grantKind = g.kind ∧ q.route = g.route ∧ q.tariff = g.tariff ∧ q.hold = g.hold
      ∧ q.posted = s.settings.routePosted.getLsbD g.route.val)
    ∧ (q.energized = r.energized ∧ q.energyTotal = r.meter.energyTotal ∧ q.idleMinutes = r.meter.idleMinutes
      ∧ q.idleFee = r.meter.idleFee ∧ q.endReason = why ∧ q.delivery = .pending)
    ∧ (q.closed = match s.clock with
        | some c => ⟨c.day, c.second⟩
        | none => ⟨65535, s.supply.secondsSinceStart % 86400⟩)
    ∧ (q.startFee = fee ∧ q.energyCost = cost ∧ q.total = total ∧ q.due = (if total ≤ g.hold then total else g.hold)
      ∧ q.absorbed = total - g.hold)
    ∧ (∀ i e : Nat, ⟨i, e⟩ ∈ q.bandList ↔ 0 < e ∧ r.meter.bandEnergy[i]? = some e)
    ∧ q.flags = { localGrant := g.kind == .localGrant, fallbackGrant := g.kind == .fallback,
                  clockUnset := r.flags.clockUnset, idleCapped := r.flags.idleCapped, meterJump := r.flags.meterJump,
                  meterGap := r.flags.meterGap, holdClamped := decide (g.hold < total) }

/-- The energy cost of a closing session is its cost whole, plus 1 for a remainder of at least 500,000; a cost whole that has
saturated stays at 4,294,967,295 (R70). -/
def Obligations.EnergyCostRoundsHalfUp : Prop :=
  ∀ (m : Meter) (n : Ped) (r : Session) (o : Opening) (g : Grant) (why : EndReason) (s : State), r.meter = m →
    m.costWhole ≤ 4294967295 →
    (m.costWhole < 4294967295 → 500000 ≤ m.costRemainder → (buildRecord n r o g why s).energyCost = m.costWhole + 1)
    ∧ (m.costWhole < 4294967295 → m.costRemainder < 500000 → (buildRecord n r o g why s).energyCost = m.costWhole)
    ∧ (m.costWhole = 4294967295 → (buildRecord n r o g why s).energyCost = 4294967295)
    ∧ (buildRecord n r o g why s).idleFee = m.idleFee

/-- A stop of every session: those in AUTHORIZING are cancelled and the granted ones closed, their records joining the queue
in ascending pedestal order, every slot is given up, TOKEN-REFUSED is latched for each cancelled session, SESSION-CLOSED for
each closed one and QUEUE-HIGH when a record brings the queue to its mark, the quiet timer is started when the last record
becomes FREE, and nothing else is touched (R10, R13, R26, R29, R32, R118, R126, R151, R182, R189). -/
def Obligations.HaltClosesOrCancelsEverySession : Prop :=
  ∀ (why : EndReason) (s : State), s.RecordsShaped →
    let t := forPedestals (haltSession why) s
    t = { s with
      records := t.records
      conds := t.conds
      bus := { s.bus with quietTimer := t.bus.quietTimer }
      settlement := { s.settlement with
        queue := s.settlement.queue ++ s.closingRecords why
        reserved := s.settlement.reserved - s.openCount } }
    ∧ (t.conds = { s.conds with ped := t.conds.ped, park := t.conds.park }
      ∧ t.conds.park = (if s.closingRecords why ≠ []
            ∧ s.settings.highMark ≤ (s.settlement.queue ++ s.closingRecords why).length then
          s.conds.withPark 1 .none else s.conds).park)
    ∧ t.bus.quietTimer = (if (∃ n, (s.session n).state ≠ .free) ∧ ∀ n, (t.session n).state = .free then
        some (s.timebase + 1000 * s.settings.quietTime) else s.bus.quietTimer)
    ∧ ∀ n : Ped,
      let r := s.session n
      t.conds.ped.get n = (if r.state = .authorizing then s.conds.withPed n 2 (.reason why.code)
        else if r.state.granted then s.conds.withPed n 5 .none else s.conds).ped.get n
      ∧ (r.state.isOpen = false → t.session n = r)
      ∧ (r.state = .authorizing → t.session n =
        { state := if r.hasPlug = .yes then .plugged else .free, hasPlug := r.hasPlug, baseline := r.baseline,
          refusal := some ⟨why.code, s.timebase + 5000⟩ })
      ∧ (r.state.granted → r.hasPlug = .no → t.session n = { baseline := r.baseline })
      ∧ (r.state.granted → r.hasPlug ≠ .no → t.session n =
        { state := .released, hasPlug := r.hasPlug, endReason := some (r.endReason.getD why), baseline := r.baseline })

/-! ## The host line's own events (chapter 10) -/

/-- REPLY_SENT and NOTICE_SENT: the waiting reply follows, then the oldest BUSY reply, then a notice. NOTICE: on a free line of
a running device the first set with news, from the set after the last notice's on and wrapping from 16 to 0, is reported;
its listed flags are marked reported and nothing else changes; the notice carries their bits and, in bit order, their data
(R178, R184, section 12.2). -/
def Obligations.FramesFollowEachOther : Prop :=
  ∀ s : State,
    (∀ i : Instr, ((i = .replySent ∧ ∃ r, s.line.sending = some (.reply r))
        ∨ (i = .noticeSent ∧ ∃ x, s.line.sending = some (.notice x))) →
      (∀ r, s.line.replyWaiting = some r →
        exec i s = .next { s with line := { s.line with sending := some (.reply r), replyWaiting := none } })
      ∧ (∀ b bs, s.line.replyWaiting = none → s.line.busyList = b :: bs →
        exec i s = .next { s with line := { s.line with sending := some (.reply b), busyList := bs } })
      ∧ (s.line.replyWaiting = none → s.line.busyList = [] →
        exec i s = exec .notice { s with line := { s.line with sending := none } }))
    ∧ (s.line.sending = none → s.line.replyWaiting = none → s.line.busyList = [] → s.supply.runState = .running →
      let first : Fin 17 := s.conds.lastNotice.elim 0 fun k => k + 1
      let flags := fun (k : Fin 17) => if k = 0 then s.conds.park.toList else (s.conds.ped.get (setPedestal k)).toList
      let masked := fun (k : Fin 17) (i : Nat) => if k = 0 then s.conds.parkMask.getLsbD i else s.conds.pedMask.getLsbD i
      let fresh := fun (k : Fin 17) (i : Nat) (l : Latched) => !l.reported && !masked k i
      let news := fun (k : Fin 17) => ∃ i l, (flags k)[i]? = some (some l) ∧ fresh k i l = true
      ((∀ k, ¬ news k) → exec .notice s = .next s)
      ∧ ∀ k : Fin 17, news k → (∀ m, (m - first).val < (k - first).val → ¬ news m) →
        ∃ (c : Conditions) (bits : Nat), Listed (flags k) (fresh k) bits ∧
          exec .notice s = .next { s with
            conds := c
            line := { s.line with sending := some (.notice
              ⟨k.val, bits, listedData (flags k) (fresh k)⟩) } }
          ∧ c.lastNotice = some k ∧ c.pedMask = s.conds.pedMask ∧ c.parkMask = s.conds.parkMask
          ∧ (∀ j, j ≠ k → condFlags c j = condFlags s.conds j)
          ∧ ∀ i : Nat, (condFlags c k)[i]? = ((condFlags s.conds k)[i]?).map fun f =>
              f.map fun l => if l.reported = false ∧ (maskOf s.conds k).testBit i = false then { l with reported := true } else l)

/-! ## Timers (R10, R15, R20, R25, R48, R66 to R68, R136, R143, R151, R166, R181) -/

/-- LINK_SILENCE_EXPIRY, QUIET_TIMER_EXPIRY and REFUSAL_DISPLAY_EXPIRY: the timebase has reached the point, the link becomes
STANDALONE, the pace SLOW, the display is removed, and the timer is stopped; a timer that does not run, and a HALTED device,
leave the state as it was (R10, R151, R181, R188; notes/assumptions/3.md). The model's choice: an expiry brings the timebase
to its point (notes/assumptions/2.md). -/
def Obligations.LineBusAndDisplayTimersExpire : Prop :=
  ∀ (s : State) (n : Ped),
    (∀ p, s.supply.runState ≠ .halted → s.line.silenceTimer = some p →
      exec .linkSilenceExpiry s = .next { s with
        timebase := max s.timebase p
        line := { s.line with mode := .standalone, silenceTimer := none } })
    ∧ (∀ p, s.supply.runState ≠ .halted → s.bus.quietTimer = some p →
      exec .quietTimerExpiry s = .next { s with
        timebase := max s.timebase p
        bus := { s.bus with pace := .slow, quietTimer := none } })
    ∧ (∀ d, s.supply.runState ≠ .halted → (s.session n).refusal = some d →
      exec (.refusalDisplayExpiry n) s = .next { s with
        timebase := max s.timebase d.until_
        records := s.records.set n { s.session n with refusal := none } })
    ∧ ((s.supply.runState = .halted ∨ s.line.silenceTimer = none) → exec .linkSilenceExpiry s = .next s)
    ∧ ((s.supply.runState = .halted ∨ s.bus.quietTimer = none) → exec .quietTimerExpiry s = .next s)
    ∧ ((s.supply.runState = .halted ∨ (s.session n).refusal = none) → exec (.refusalDisplayExpiry n) s = .next s)

/-- AUTH_DEADLINE_EXPIRY: a FALLBACK grant of the captured terms where the captured mode is REFER-FALLBACK, and otherwise a
cancel with AUTH-TIMEOUT (R46, R48). PLUG_DEADLINE_EXPIRY closes with NO-VEHICLE; ENDING_DEADLINE_EXPIRY closes with the end
reason held; PROBE_DEADLINE_EXPIRY starts the next attempt while one is left, and otherwise closes with CABLE-OPEN (R15, R17,
R25, R163, R166). The model's choice: an expiry brings the timebase to its point (notes/assumptions/2.md). -/
def Obligations.SessionDeadlinesDecideCloseOrProbeAgain : Prop :=
  (∀ (s : State) (n : Ped) (p : Point) (c : CapturedTerms), s.supply.runState ≠ .halted →
      (s.session n).state = .authorizing → (s.session n).authDeadline = some p → (s.session n).captured = some c →
      let u : State := { s with timebase := max s.timebase p }
      (c.mode ≠ .referFallback → exec (.authDeadlineExpiry n) s = .next (cancelSession n 0x28#8 u))
      ∧ (∀ hold, c.mode = .referFallback → c.localHold = some hold →
        exec (.authDeadlineExpiry n) s =
          .next (offerGrant n ⟨.fallback, hold, c.tariff, c.route, c.baseRank, c.powerCap⟩ u)))
  ∧ ∀ (s : State) (n : Ped) (p : Point), s.supply.runState ≠ .halted →
      let r := s.session n
      let u : State := { s with timebase := max s.timebase p }
      (r.state = .authorized → r.plugDeadline = some p →
        exec (.plugDeadlineExpiry n) s = .next (closeSession n .noVehicle u))
      ∧ (∀ why, r.state = .ending → r.endingDeadline = some p → r.endReason = some why →
        exec (.endingDeadlineExpiry n) s = .next (closeSession n why u))
      ∧ (r.state = .probing → r.probeDeadline = some p →
        (r.probeAttempts < 1 + s.settings.probeRetries →
          exec (.probeDeadlineExpiry n) s = .next { u with
          records := s.records.set n
            { r with probeAttempts := r.probeAttempts + 1, probeSend := true, probeDeadline := some (u.timebase + 5000) } })
        ∧ (1 + s.settings.probeRetries ≤ r.probeAttempts →
          exec (.probeDeadlineExpiry n) s = .next (closeSession n .cableOpen
            { u with records := s.records.set n { r with probeDeadline := none } })))

/-- ONE_SECOND_TICK: the timebase has reached the tick, the next one lies a second on, a valid clock advances and wraps at
midnight and at day 65,534, each record in OCCUPYING counts one second, and so does the start (R66, R136, R188). The model's
reading: the tick moves no SUSPENDED record and charges no minute (notes/assumptions/5.md, 34.md), its point in the timebase
is a choice (notes/assumptions/2.md), and it is taken in HALTED while the device is fed (notes/assumptions/14.md). -/
def Obligations.OneSecondTickAdvancesTheClock : Prop :=
  ∀ s : State, s.supply.mainSupply ≠ .absent →
    ∃ t : State, exec .oneSecondTick s = .next t
      ∧ t = { s with
          timebase := max s.timebase s.tickDue
          tickDue := s.tickDue + 1000
          clock := t.clock
          records := t.records
          supply := { s.supply with secondsSinceStart := s.supply.secondsSinceStart + 1 } }
      ∧ (s.clock = none → t.clock = none)
      ∧ (∀ c, s.clock = some c →
        (c.second < 86399 → t.clock = some ⟨c.day, c.second + 1⟩)
        ∧ (86399 ≤ c.second → c.day < 65534 → t.clock = some ⟨c.day + 1, 0⟩)
        ∧ (86399 ≤ c.second → 65534 ≤ c.day → t.clock = some ⟨0, 0⟩))
      ∧ ∀ n : Ped, ((s.session n).state ≠ .occupying → t.session n = s.session n)
        ∧ ((s.session n).state = .occupying → t.session n = { s.session n with
            meter := { (s.session n).meter with
              occupyingSeconds := min 4294967295 ((s.session n).meter.occupyingSeconds + 1) } })

/-- SUSPEND_LIMIT moves a record that was suspended for the limit at the last tick to OCCUPYING; IDLE_MINUTE charges a due
minute, or caps it where the committed money would pass the hold (R20, R67, R68, R143). The model's reading: both are commands
of their own after the tick, whose point is tickDue less one second (notes/assumptions/5.md, 34.md). -/
def Obligations.SuspendLimitAndIdleMinuteAct : Prop :=
  ∀ (s : State) (n : Ped), s.supply.runState ≠ .halted →
    let r := s.session n
    let m := r.meter
    (∀ p, r.state = .suspended → r.suspendStart = some p → p + 60000 * s.settings.suspendLimit ≤ s.tickDue - 1000 →
      exec (.suspendLimit n) s = .next { s with
      records := s.records.set n
        { r with state := .occupying, suspendStart := none, refusal := none, alloc := {} } })
    ∧ ∀ g : Grant, r.state = .occupying → r.grant = some g → m.startFeeCharged = true → r.flags.idleCapped = false →
      let t := s.tariffs.get g.tariff
      let spent := t.startFee + m.costWhole + (if 500000 ≤ m.costRemainder then 1 else 0) + m.idleFee + t.idleFeePerMinute
      60 * (t.idleGrace + m.idleMinutes) < m.occupyingSeconds →
      (spent ≤ g.hold → exec (.idleMinute n) s = .next { s with
      records := s.records.set n
        { r with meter := { m with idleFee := m.idleFee + t.idleFeePerMinute, idleMinutes := m.idleMinutes + 1 } } })
      ∧ (g.hold < spent → exec (.idleMinute n) s = .next { s with
      records := s.records.set n
        { r with flags := { r.flags with idleCapped := true } } })

/-! ## The pedestal bus (chapters 8 and 9) -/

/-- A command frame by the record and the table entry: address, extension, setpoint, command and display (R3, R4, R108, R152,
R164). -/
def Obligations.CommandFrameFollowsTheRecord : Prop :=
  ∀ (n : Ped) (s : State),
    let f := formCommand n s
    let r := s.session n
    let e := s.entry n
    let st := r.state
    let shown := fun (d : DisplayCode) (reason : Byte) => f.display = d ∧ f.reason = reason
    (f.address = n.val + 1 ∧ f.extension = e.extension)
    ∧ (st = .dispensing → r.alloc.grantState = .powered → e.blocked = false → f.setpoint = r.alloc.share)
    ∧ ((st ≠ .dispensing ∨ r.alloc.grantState ≠ .powered ∨ e.blocked = true) → f.setpoint = 0)
    ∧ (f.command = .probe ↔ st = .probing ∧ r.probeSend = true)
    ∧ (f.command = .energize ↔ st = .dispensing ∨ st = .suspended ∨ st = .occupying)
    ∧ (f.command = .stop ↔ st = .ending ∨ st = .released)
    ∧ ((e.blocked = true ∨ e.estop = true) → shown .outOfService 0)
    ∧ (e.blocked = false → e.estop = false →
      (∀ d, r.refusal = some d → shown .refused d.reason)
      ∧ (r.refusal = none →
        (st = .free → shown .idle 0) ∧ (st = .plugged → shown .presentToken 0)
        ∧ (st = .authorizing → shown .authorizing 0) ∧ (st = .authorized → shown .connectVehicle 0)
        ∧ (st = .probing → shown .checkingCable 0) ∧ (st = .suspended → shown .paused 0)
        ∧ (st = .occupying → shown .complete 0)
        ∧ (st = .dispensing → (r.alloc.grantState = .powered → shown .charging 0)
          ∧ ((r.alloc.grantState = .none ∨ r.alloc.grantState = .parked) → shown .waitingForPower 0x30#8)
          ∧ (r.alloc.grantState = .yielding → shown .waitingForPower 0x31#8))
        ∧ ∀ why, (st = .ending ∨ st = .released) → r.endReason = some why → shown .finished why.code))

/-- CYCLE_START: the timebase has reached the start, the next start lies one period of the pace on, a round runs at FAST pace,
the miss marks are cleared, and the lowest enrolled pedestal receives its command, or the alert slot opens (R88, R150,
R152, R155). The model's choices: the start brings the timebase to its point (notes/assumptions/2.md), and the round runs at
FAST pace also with all records FREE (notes/assumptions/35.md). -/
def Obligations.CycleStartsWithTheLowestPedestal : Prop :=
  ∀ s : State, s.supply.runState = .running → s.bus.phase = .idle →
    let now := max s.timebase s.bus.nextCycle
    let u : State := { s with
      timebase := now
      bus := { s.bus with
        cyclePace := s.bus.pace
        nextCycle := now + (if s.bus.pace = .fast then s.settings.fastPeriod else 1000) } }
    let v : State := if s.bus.pace = .fast then allocationRound u else u
    let w : State := { v with pedestals := v.pedestals.map fun e => { e with missMark := false } }
    (∀ n, s.NextTurn 0 n → exec .cycleStart s = .next (w.commanded n false))
    ∧ ((∀ n, (s.entry n).enrolled = false) →
      exec .cycleStart s = .next { w with bus := { w.bus with phase := .alertSlot } })

/-- EXCHANGE_MISS and what follows an exchange. A miss moves the two counters, the frame-error count once in a cycle, also
when STOP-ALL is owed; the fifth in a row of an ONLINE pedestal makes it LOST, latches PEDESTAL-LOST and does to its session
what R28 says. The end of a void exchange, by reply or miss, is discarded. After an exchange the next enrolled pedestal of the
cycle receives its command, or the alert slot opens; after an out-of-turn exchange the cycle is over; an owed STOP-ALL goes
out at once (R28, R148, R150, R155, R157, R159, R160). -/
def Obligations.MissesAreCountedAndTheTurnGoesOn : Prop :=
  (∀ (s : State) (x : Exchange),
    (s.bus.stopAllOwed = true → endExchange x s = { s with
      bus := { s.bus with lastFrame := some stopAllFrame, phase := .stopped, stopAllOwed := false } })
    ∧ (s.bus.stopAllOwed = false →
      (x.outOfTurn = true → endExchange x s = { s with bus := { s.bus with phase := .idle } })
      ∧ (x.outOfTurn = false →
        (∀ m, s.NextTurn (x.pedestal.val + 1) m → endExchange x s = s.commanded m false)
        ∧ ((∀ m, x.pedestal < m → (s.entry m).enrolled = false) →
          endExchange x s = { s with bus := { s.bus with phase := .alertSlot } }))))
  ∧ (∀ (s : State) (n : Ped) (b : Bool) (cause : MissCause) (bytes : List Byte),
    s.bus.phase = .exchange ⟨n, b, true⟩ →
    exec (.exchangeMiss cause) s = .next (endExchange ⟨n, b, true⟩ s)
    ∧ exec (.statusReply bytes) s = .next (endExchange ⟨n, b, true⟩ s))
  ∧ ∀ (s : State) (n : Ped) (b : Bool) (cause : MissCause), s.bus.phase = .exchange ⟨n, b, false⟩ →
    let e := s.entry n
    let r := s.session n
    let st := r.state
    let leaves := fun (z : State) => exec (.exchangeMiss cause) s = .next (endExchange ⟨n, b, false⟩ z)
    let missed : PedestalEntry := { e with
      misses := min 255 (e.misses + 1)
      frameErrors := if e.missMark then e.frameErrors else min 255 (e.frameErrors + 1)
      missMark := true }
    let lost : State := { s with
      pedestals := s.pedestals.set n { missed with link := .lost, lastPlug := none }
      conds := s.conds.withPed n 8 .none }
    ((e.link = .lost ∨ e.misses < 4) → leaves { s with pedestals := s.pedestals.set n missed })
    ∧ (e.link = .online → 4 ≤ e.misses →
      ((st = .free ∨ st = .plugged ∨ st = .released) → leaves lost)
      ∧ (st = .authorizing → leaves (cancelSession n 0x0B#8 lost))
      ∧ (st = .authorized → leaves (closeSession n .pedestalLost lost))
      ∧ (st = .probing → leaves (closeSession n .pedestalLost
          { lost with records := s.records.set n { r with hasPlug := .unknown } }))
      ∧ ((st = .dispensing ∨ st = .suspended ∨ st = .occupying ∨ st = .ending) → leaves (closeSession n .pedestalLost
          { lost with
            records := s.records.set n
              { r with hasPlug := .unknown, flags := { r.flags with meterGap := true } } })))

/-- STATUS_REPLY and the meter count. The Metering Unit takes the count in every state: outside the energy-flow states it
moves the baseline alone; in DISPENSING, SUSPENDED, OCCUPYING and ENDING a delta within the plausibility limit is priced and
accrued exactly, the counters keeping their highest values, and a larger one is discarded with METER-JUMP (R55 to R60, R62,
R63). A quiet reply (one without faults that hands no token on, a repeated presentation included) without a plug change then
leaves to the record what its vehicle fields say (R19 to R21, R94, R153, R157); with STOP-ALL owed the metering is all that is
taken before STOP-ALL goes out (R160, in HALTED too: notes/assumptions/39.md). -/
def Obligations.RepliesAccrueEnergyAndCost : Prop :=
  (∀ (s : State) (n : Ped) (count : Nat),
    let r := s.session n
    let m := r.meter
    let flowing := r.state = .dispensing ∨ r.state = .suspended ∨ r.state = .occupying ∨ r.state = .ending
    let d := (count + 16777216 - r.baseline) % 16777216
    let put := fun (q : Session) => ({ s with
      pedestals := s.pedestals.set n ((s.entry n).metered count)
      records := s.records.set n { q with baseline := count } } : State)
    (¬ flowing → meterSteps n count s = put r)
    ∧ (flowing → d = 0 → meterSteps n count s = put r)
    ∧ (flowing → s.settings.plausibility < d → meterSteps n count s =
        { (put { r with flags := { r.flags with meterJump := true } }) with conds := s.conds.withPed n 10 .none })
    ∧ ∀ (g : Grant) (band price : Nat), flowing → 0 < d → d ≤ s.settings.plausibility → r.grant = some g →
      s.PricedAt (s.tariffs.get g.tariff) band price →
      let sum := m.costRemainder + d * price
      let whole := m.costWhole + sum / 1000000
      meterSteps n count s = put { r with
        meter := { m with
          energyTotal := min 4294967295 (m.energyTotal + d)
          bandEnergy := m.bandEnergy.mapIdx fun i e => if i = band then min 4294967295 (e + d) else e
          costWhole := if whole ≤ 4294967295 then whole else 4294967295
          costRemainder := if whole ≤ 4294967295 then sum % 1000000 else 999999 }
        flags := { r.flags with clockUnset := r.flags.clockUnset || s.clock.isNone } })
  ∧ ∀ (s : State) (n : Ped) (b : Bool) (x : StatusReply), s.bus.phase = .exchange ⟨n, b, false⟩ →
    let w := meterSteps n x.meter s
    let q := w.session n
    (x.fits = true → s.bus.stopAllOwed = true → exec (.statusReply (x.bytes n)) s = .next { w with
      bus := { s.bus with lastFrame := some stopAllFrame, phase := .stopped, stopAllOwed := false } })
    ∧ (x.Quiet (s.entry n) → s.bus.stopAllOwed = false → s.plugWas n = x.plug → q.state ≠ .released → q.Undecided x →
      exec (.statusReply (x.bytes n)) s = .next (endExchange ⟨n, b, false⟩
        (({ w with records := w.records.set n (q.driven x s.timebase) } : State).answered n x (s.entry n))))

/-- STATUS_REPLY with a new token at a FREE record of an OPEN park, the token hitting a LOCAL window whose tariff is defined
and whose start fee the hold covers: the session opens and is granted in the one event, and the pace is FAST (R7, R11, R12,
R38, R41, R42, R43, R45, R120, R151, R154). Any accepted token, at a FREE or PLUGGED record, opens the session in AUTHORIZING
with its terms captured and is decided at once by mode and link: denied, offered LOCAL or FALLBACK, NO-ROUTE, or referred with
AUTH-QUERY and the authorization deadline (R8, R41 to R44, R46), also where the same reply reports the plug-in, which is taken
first (R5). Beside a plug-out or a fault the token is taken as PlugChangesMoveTheRecord and
FaultsBlockThePedestalAndStopTheSession reduce such a reply. Beside a probe result the reply does what it does once the
session is decided and the number held, the result then counting in the state that the decision leaves (R5). The model's
choices: a cycle start brought forward is placed at the present timebase (notes/assumptions/30.md), and in a cycle that began
FAST the next start stays where it was placed (notes/assumptions/37.md). -/
def Obligations.AcceptedTokensOpenAndDecideASession : Prop :=
  (∀ (s : State) (n : Ped) (b : Bool) (x : StatusReply) (p : Presentation) (last : Byte) (i : Fin 12) (base : Nat),
      s.Exchanging n b → x.fits = true → x.faults = 0 → x.plug = false → (s.entry n).Steady false →
      (s.entry n).blocked = false → (s.entry n).lastPresentation = some last → x.presentation = some p → p.number ≠ last →
      s.session n = { baseline := base } → s.park = .opened → s.settlement.full = false →
      (∀ m o, m ≠ n → (s.session m).state.isOpen = true → (s.session m).opening = some o → o.token ≠ p.token) →
      s.matchWindow p.token = some i →
      let w := s.windows.get i
      let t := s.tariffs.get w.tariff
      let hold := min w.localHold s.settings.maxHold
      w.mode = .localMode → t.defined = true → t.startFee ≤ hold →
      exec (.statusReply (x.bytes n)) s = .next (endExchange ⟨n, b, false⟩ { s with
        pedestals := s.pedestals.set n { (s.entry n).metered x.meter with lastPresentation := some p.number }
        bus := s.wokenBus
        settlement := { s.settlement with
          reserved := s.settlement.reserved + 1
          counter := if s.nextNumber < 65535 then s.nextNumber + 1 else 1 }
        records := s.records.set n
          { state := .authorized
            opening := some ⟨s.nextNumber, p.token, p.source, some i,
              if w.translateEnabled then (w.translate &&& w.mask) ||| (p.token &&& ~~~w.mask) else p.token, s.stamp⟩
            grant := some ⟨.localGrant, w.tariff, hold, w.route, w.baseRank, w.powerCap.map fun c => max c (s.entry n).floor⟩
            plugDeadline := some (s.timebase + 1000 * s.settings.plugWait)
            baseline := x.meter } }))
  ∧ ∀ (s : State) (n : Ped) (b : Bool) (x : StatusReply) (p : Presentation) (last : Byte), s.Exchanging n b →
    x.fits = true → x.faults = 0 → (s.plugWas n = x.plug ∨ x.plug = true) → x.presentation = some p →
    (s.entry n).lastPresentation = some last → p.number ≠ last →
    let e := s.entry n
    let r := s.session n
    let came := s.plugWas n = false ∧ x.plug = true
    (r.state = .free ∨ r.state = .plugged) → s.park = .opened →
    e.blocked = false → e.link = .online → (e.estop = false ∨ x.released = true) →
    (∀ m o, m ≠ n → (s.session m).state.isOpen = true → (s.session m).opening = some o → o.token ≠ p.token) →
    s.settlement.full = false →
    let hit := s.matchWindow p.token
    let account := hit.elim p.token fun i =>
      let w := s.windows.get i
      if w.translateEnabled then (w.translate &&& w.mask) ||| (p.token &&& ~~~w.mask) else p.token
    let c : CapturedTerms := match hit with
      | some i =>
        let w := s.windows.get i
        ⟨w.mode, some w.localHold, w.tariff, w.route, w.baseRank, w.powerCap⟩
      | none => ⟨.refer, none, 0, 0, 15, none⟩
    let opened : Session := { r with
      state := .authorizing
      hasPlug := if r.state = .plugged ∨ came then .yes else .no
      refusal := if came then none else r.refusal
      opening := some ⟨s.nextNumber, p.token, p.source, hit, account, s.stamp⟩
      captured := some c
      alloc := {}
      baseline := x.meter
      suspendStart := none }
    let u : State := { s with
      bus := if r.state = .free then s.wokenBus else s.bus
      settlement := { s.settlement with
        reserved := s.settlement.reserved + 1
        counter := if s.nextNumber < 65535 then s.nextNumber + 1 else 1 }
      conds := if came then s.conds.withPed n 0 .none else s.conds
      records := s.records.set n opened }
    let leaves := fun (z : State) =>
      (x.probe = .none → exec (.statusReply (x.bytes n)) s = .next (endExchange ⟨n, b, false⟩ (z.answered n x e)))
      ∧ exec (.statusReply (x.bytes n)) s = exec (.statusReply (x.bytes n))
          { z with pedestals := s.pedestals.set n { e with lastPlug := some x.plug, lastPresentation := some p.number } }
    (c.mode = .deny → leaves (cancelSession n 0x24#8 u))
    ∧ (∀ hold, c.mode = .localMode → c.localHold = some hold →
      leaves (offerGrant n ⟨.localGrant, hold, c.tariff, c.route, c.baseRank, c.powerCap⟩ u))
    ∧ (∀ hold, c.mode = .referFallback → s.line.mode = .standalone → c.localHold = some hold →
      leaves (offerGrant n ⟨.fallback, hold, c.tariff, c.route, c.baseRank, c.powerCap⟩ u))
    ∧ (c.mode = .refer → s.line.mode = .standalone → leaves (cancelSession n 0x25#8 u))
    ∧ ((c.mode = .refer ∨ c.mode = .referFallback) → s.line.mode = .attended → leaves { u with
        records := s.records.set n
          { opened with authDeadline := some (s.timebase + 1000 * s.settings.authWait) }
        conds := u.conds.withPed n 3 (.query ⟨s.nextNumber, n, p.token, p.source, hit⟩) })

/-- STATUS_REPLY with a token that opens no session: one that is no new presentation is not acted on (R154); at a FREE or
PLUGGED record the first failing check refuses it, in the order PARK-CLOSED, OUT-OF-SERVICE, IN-USE, QUEUE-FULL (R7, R8, R39,
R40); elsewhere the record's own token is ignored or stops the session with USER-STOP, another is refused BUSY-POINT, and any
is refused UNPLUG-FIRST in RELEASED with the plug in (R9, R14, R17, R19, R23). BUSY-POINT beside a probe result in PROBING, or
a power below the threshold in ENDING, is given by reduction: the reply does what it does once the token is refused and its
number held (R5), which RepliesProbeEnergizeAndClose says. A refusal latches TOKEN-REFUSED, is shown for 5 s and leaves the
session as it was (R10); a new token while every record is FREE is activity for the quiet timer (R151). A token beside a plug
change, beside the plug's absence in RELEASED, or beside a fault is taken as PlugChangesMoveTheRecord and
FaultsBlockThePedestalAndStopTheSession reduce such a reply to one without. The model's choices: a cycle start brought forward
is placed at the present timebase (notes/assumptions/30.md), and in a cycle that began FAST the next start stays where it was
placed (notes/assumptions/37.md). -/
def Obligations.TokensAreRefusedOrStopTheSession : Prop :=
  ∀ (s : State) (n : Ped) (b : Bool) (x : StatusReply) (p : Presentation), s.Exchanging n b → x.fits = true →
    x.faults = 0 → s.plugWas n = x.plug → x.presentation = some p →
    let e := s.entry n
    let w := meterSteps n x.meter s
    let q := w.session n
    let st := q.state
    let inUse := ∃ m o, m ≠ n ∧ (s.session m).state.isOpen = true ∧ (s.session m).opening = some o ∧ o.token = p.token
    let outOfService := e.blocked = true ∨ e.link = .lost ∨ (e.estop = true ∧ x.released = false)
    let leaves := fun (z : State) =>
      exec (.statusReply (x.bytes n)) s = .next (endExchange ⟨n, b, false⟩ (z.answered n x e))
    let refused := fun (reason : Byte) (r : Session) => leaves { w with
      bus := s.activityBus
      conds := w.conds.withPed n 2 (.reason reason)
      records := w.records.set n
        ({ r with refusal := some ⟨reason, s.timebase + 5000⟩ }.driven x s.timebase) }
    ((e.lastPresentation = none ∨ e.lastPresentation = some p.number) → st ≠ .released → q.Undecided x →
      leaves { w with records := w.records.set n (q.driven x s.timebase) })
    ∧ ∀ last, e.lastPresentation = some last → p.number ≠ last →
      ((st = .free ∨ st = .plugged) →
        (s.park = .closed → refused 0x20#8 q)
        ∧ (s.park = .opened → outOfService → refused 0x21#8 q)
        ∧ (s.park = .opened → ¬ outOfService → inUse → refused 0x22#8 q)
        ∧ (s.park = .opened → ¬ outOfService → ¬ inUse → s.settlement.full = true → refused 0x23#8 q))
      ∧ (q.opening.map (·.token) = some p.token →
        (st = .authorizing → leaves w)
        ∧ ((st = .authorized ∨ st = .probing) → leaves (closeSession n .userStop w))
        ∧ ((st = .dispensing ∨ st = .suspended ∨ st = .occupying) → leaves { w with
          records := w.records.set n
            (q.ended .userStop (s.timebase + 1000 * s.settings.endingTimeout)) })
        ∧ (st = .ending → 10 ≤ x.power → leaves w)
        ∧ ∀ why, st = .ending → q.endReason = some why → x.power < 10 → leaves (closeSession n why w))
      ∧ (q.opening.map (·.token) ≠ some p.token →
        (st = .authorizing ∨ st = .authorized ∨ st = .probing ∨ st = .dispensing ∨ st = .suspended ∨ st = .occupying
          ∨ st = .ending) →
        (q.Undecided x → refused 0x29#8 q)
        ∧ exec (.statusReply (x.bytes n)) s = exec (.statusReply (x.bytes n)) { s with
          pedestals := s.pedestals.set n { e with lastPlug := some x.plug, lastPresentation := some p.number }
          conds := s.conds.withPed n 2 (.reason 0x29#8)
          records := s.records.set n { s.session n with refusal := some ⟨0x29#8, s.timebase + 5000⟩ } })
      ∧ (st = .released → x.plug = true → refused 0x2A#8 { q with hasPlug := .yes })

/-- STATUS_REPLY with a plug change. A plug-in latches PLUG-IN, sets has-plug to yes, removes a refusal display and makes a
FREE record PLUGGED, with the pace FAST; in AUTHORIZED it closes the session under an active e-stop or a blocked pedestal and
otherwise starts the probe sequence (R6, R7, R10, R14, R16, R163). A plug-out latches PLUG-OUT and makes a PLUGGED or RELEASED
record FREE, closes the session in PROBING and ends it from DISPENSING, SUSPENDED and OCCUPYING (R8, R17, R19 to R21, R24,
R27). Without a change a RELEASED record follows the plug, so that the first reply without one makes it FREE (R27, R28). This
is said whole of a reply that hands no token on (R154). Beside a new token, a probe result or vehicle fields the plug is taken
first, and they in the state it leaves: the reply does what the same reply does once record and last plug state stand as the
plug leaves them (R5), so that a new token beside the plug's absence in RELEASED is taken at the FREE record; a present power
of less than the threshold counts only where the record was in ENDING when the reply came (R24). The model's choices: a cycle
start brought forward is placed at the present timebase (notes/assumptions/30.md), and in a cycle that began FAST the next
start stays where it was placed (notes/assumptions/37.md). -/
def Obligations.PlugChangesMoveTheRecord : Prop :=
  (∀ (s : State) (n : Ped) (b : Bool) (x : StatusReply), s.Exchanging n b → x.Quiet (s.entry n) →
      let e := s.entry n
      let w := meterSteps n x.meter s
      let q := w.session n
      let st := q.state
      let leaves := fun (z : State) =>
        exec (.statusReply (x.bytes n)) s = .next (endExchange ⟨n, b, false⟩ (z.answered n x e))
      (s.plugWas n = false → x.plug = true →
        let r : Session := { q with hasPlug := .yes, refusal := none }
        let put := fun (r' : Session) =>
          ({ w with conds := w.conds.withPed n 0 .none, records := w.records.set n r' } : State)
        let active := e.estop = true ∧ x.released = false
        (st = .free → leaves { put { r with state := .plugged, alloc := {}, suspendStart := none } with bus := s.wokenBus })
        ∧ (st = .authorized → active → leaves (closeSession n .estop (put r)))
        ∧ (st = .authorized → ¬ active → e.blocked = true → leaves (closeSession n .pedestalFault (put r)))
        ∧ (st = .authorized → ¬ active → e.blocked = false → x.probe = .none → leaves (put
            { r with
              state := .probing, alloc := {}, suspendStart := none, plugDeadline := none, authDeadline := none,
              probeAttempts := 1, probeSend := true, probeDeadline := some (s.timebase + 5000) }))
        ∧ (st ≠ .free → st ≠ .authorized → q.Undecided x → leaves (put (r.driven x s.timebase))))
      ∧ (s.plugWas n = true → x.plug = false →
        let r : Session := { q with hasPlug := .no, refusal := none }
        let put := fun (r' : Session) =>
          ({ w with conds := w.conds.withPed n 1 .none, records := w.records.set n r' } : State)
        ((st = .plugged ∨ st = .released) → leaves { put { baseline := x.meter } with bus := s.freedBus n })
        ∧ (st = .probing → leaves (closeSession n .vehicleUnplug (put r)))
        ∧ ((st = .dispensing ∨ st = .suspended ∨ st = .occupying) →
          leaves (put (r.ended .vehicleUnplug (s.timebase + 1000 * s.settings.endingTimeout))))
        ∧ ((st = .free ∨ st = .authorizing ∨ st = .authorized ∨ (st = .ending ∧ 10 ≤ x.power)) → leaves (put r)))
      ∧ (s.plugWas n = x.plug → st = .released →
        (x.plug = true → leaves { w with records := w.records.set n { q with hasPlug := .yes } })
        ∧ (x.plug = false → leaves { w with bus := s.freedBus n, records := w.records.set n { baseline := x.meter } })))
  ∧ ∀ (s : State) (n : Ped) (b : Bool) (x : StatusReply), s.Exchanging n b → x.fits = true → x.faults = 0 →
    let e := s.entry n
    let r := s.session n
    let st := r.state
    let y := x.withoutEndingPower r
    let reduces := fun (z : State) => exec (.statusReply (x.bytes n)) s =
      exec (.statusReply (y.bytes n)) { z with pedestals := s.pedestals.set n { e with lastPlug := some x.plug } }
    (s.plugWas n = false → x.plug = true →
      let q : Session := { r with hasPlug := .yes, refusal := none }
      let put := fun (q' : Session) =>
        ({ s with conds := s.conds.withPed n 0 .none, records := s.records.set n q' } : State)
      let active := e.estop = true ∧ x.released = false
      (st = .free → reduces { put { q with state := .plugged, alloc := {}, suspendStart := none } with bus := s.wokenBus })
      ∧ (st = .authorized → active → reduces (closeSession n .estop (put q)))
      ∧ (st = .authorized → ¬ active → e.blocked = true → reduces (closeSession n .pedestalFault (put q)))
      ∧ (st = .authorized → ¬ active → e.blocked = false → reduces (put
          { q with
            state := .probing, alloc := {}, suspendStart := none, plugDeadline := none, authDeadline := none,
            probeAttempts := 1, probeSend := true, probeDeadline := some (s.timebase + 5000) }))
      ∧ (st ≠ .free → st ≠ .authorized → reduces (put q)))
    ∧ (s.plugWas n = true → x.plug = false →
      let q : Session := { r with hasPlug := .no, refusal := none }
      let put := fun (q' : Session) =>
        ({ s with conds := s.conds.withPed n 1 .none, records := s.records.set n q' } : State)
      ((st = .plugged ∨ st = .released) → reduces { put { baseline := r.baseline } with bus := s.freedBus n })
      ∧ (st = .probing → reduces (closeSession n .vehicleUnplug (put q)))
      ∧ ((st = .dispensing ∨ st = .suspended ∨ st = .occupying) →
        reduces (put (q.ended .vehicleUnplug (s.timebase + 1000 * s.settings.endingTimeout))))
      ∧ ((st = .free ∨ st = .authorizing ∨ st = .authorized ∨ st = .ending) → reduces (put q)))
    ∧ (s.plugWas n = x.plug → st = .released →
      (x.plug = true → reduces { s with records := s.records.set n { r with hasPlug := .yes } })
      ∧ (x.plug = false → reduces { s with bus := s.freedBus n, records := s.records.set n { baseline := r.baseline } }))

/-- STATUS_REPLY with a probe result in PROBING, or with the power below the ending threshold in ENDING, no token being handed
on: the presentation that every later reply repeats included (R154). OPEN starts the next attempt while one is left and
otherwise closes with CABLE-OPEN; SHORT blocks the pedestal, latches PROBE-FAULT and closes with CABLE-SHORT; a MATCH beyond
the maximum length closes with CABLE-LONG, and an acceptable one energizes the session, whose vehicle fields are then taken in
DISPENSING (R5, R17, R18, R65, R163, R165, R166, R167, R170). In ENDING the low power closes the session with the reason it
holds (R24); the model's choice: also where a SESSION-STOP was taken in the exchange, so that the frame carried ENERGIZE
(notes/assumptions/33.md). -/
def Obligations.RepliesProbeEnergizeAndClose : Prop :=
  ∀ (s : State) (n : Ped) (b : Bool) (x : StatusReply), s.Exchanging n b → x.Quiet (s.entry n) → s.plugWas n = x.plug →
    let e := s.entry n
    let w := meterSteps n x.meter s
    let q := w.session n
    let leaves := fun (z : State) =>
      exec (.statusReply (x.bytes n)) s = .next (endExchange ⟨n, b, false⟩ (z.answered n x e))
    (q.state = .probing →
      (x.probe = .openCircuit → q.probeAttempts < 1 + s.settings.probeRetries → leaves { w with
        records := w.records.set n
          { q with
            probeAttempts := q.probeAttempts + 1, probeSend := true, probeDeadline := some (s.timebase + 5000) } })
      ∧ (x.probe = .openCircuit → 1 + s.settings.probeRetries ≤ q.probeAttempts →
        leaves (closeSession n .cableOpen w))
      ∧ (x.probe = .short →
        exec (.statusReply (x.bytes n)) s = .next (endExchange ⟨n, b, false⟩ (State.answered n x { e with blocked := true }
          (closeSession n .cableShort { w with conds := w.conds.withPed n 6 .none }))))
      ∧ ∀ length, x.probe = .matched length →
        (0 < e.maxCable → e.maxCable < length → leaves (closeSession n .cableLong w))
        ∧ ((e.maxCable = 0 ∨ length ≤ e.maxCable) → leaves { w with
          conds := w.conds.withPed n 4 .none
          records := w.records.set n
            (Session.driven
              { q with
                state := .dispensing, meter := { q.meter with startFeeCharged := true }, energized := some s.stamp,
                probeDeadline := none, probeSend := false, refusal := none, alloc := {}, suspendStart := none }
              x s.timebase) }))
    ∧ ∀ why, q.state = .ending → q.endReason = some why → x.power < 10 → leaves (closeSession n why w)

/-- STATUS_REPLY with faults. ISOLATION blocks the pedestal, with PROBE-FAULT latched where it was not blocked, and ends no
session; ESTOP makes the e-stop field active, with ESTOP latched where it was clear, and the released flag without ESTOP makes
it clear (R168, R169, R171). ESTOP, OVERTEMP and CONVERTER stop the session: closed at once in PROBING, ENDING from
DISPENSING, SUSPENDED and OCCUPYING, nothing elsewhere (R5, R14, R17, R19 to R21, R24, R172). With ESTOP beside one of the
other two the end reason is one of both (notes/assumptions/10.md). All this is said of replies that hand no token on (R154).
Beside a plug change or a new token the faults are taken first: with a plug-out in an energy-flow state the fault gives the
end reason, and in general the reply does what the same reply without faults does once table and record stand as the faults
leave them (R5); a present power of less than the threshold counts only where the record was in ENDING when the reply came
(R24). -/
def Obligations.FaultsBlockThePedestalAndStopTheSession : Prop :=
  (∀ (s : State) (n : Ped) (b : Bool) (x : StatusReply), s.Exchanging n b → x.fits = true →
      x.NoNewToken (s.entry n) → s.plugWas n = x.plug →
      let e := s.entry n
      let estop := x.faults.getLsbD 0 = true
      let other := x.faults.getLsbD 1 = true ∨ x.faults.getLsbD 3 = true
      let isolation := x.faults.getLsbD 2 = true
      let m := meterSteps n x.meter s
      let c := if isolation ∧ e.blocked = false then m.conds.withPed n 6 .none else m.conds
      let w : State := { m with conds := if estop ∧ e.estop = false then c.withPed n 7 .none else c }
      let q := w.session n
      let st := q.state
      let leaves := fun (z : State) =>
        exec (.statusReply (x.bytes n)) s = .next (endExchange ⟨n, b, false⟩ (z.answered n x e))
      ((st = .free ∨ st = .plugged ∨ st = .authorizing ∨ st = .authorized ∨ (st = .ending ∧ 10 ≤ x.power)) → leaves w)
      ∧ (st = .released → x.plug = true → leaves { w with records := w.records.set n { q with hasPlug := .yes } })
      ∧ (st = .released → x.plug = false →
        leaves { w with bus := s.freedBus n, records := w.records.set n { baseline := x.meter } })
      ∧ (¬ estop → ¬ other → st ≠ .released → q.Undecided x →
        leaves { w with records := w.records.set n (q.driven x s.timebase) })
      ∧ ((estop ∨ other) → ∃ why : EndReason,
        (estop → ¬ other → why = .estop) ∧ (¬ estop → other → why = .pedestalFault)
        ∧ (why = .estop ∨ why = .pedestalFault)
        ∧ (st = .probing → x.plug = true → q.hasPlug = .yes → leaves (closeSession n why w))
        ∧ ((st = .dispensing ∨ st = .suspended ∨ st = .occupying) → leaves { w with
          records := w.records.set n
            (q.ended why (s.timebase + 1000 * s.settings.endingTimeout)) })))
  ∧ ∀ (s : State) (n : Ped) (b : Bool) (x : StatusReply), s.Exchanging n b → x.fits = true →
    let e := s.entry n
    let estop := x.faults.getLsbD 0 = true
    let other := x.faults.getLsbD 1 = true ∨ x.faults.getLsbD 3 = true
    let isolation := x.faults.getLsbD 2 = true
    let latched := fun (z : State) =>
      let c := if isolation ∧ e.blocked = false then z.conds.withPed n 6 .none else z.conds
      ({ z with conds := if estop ∧ e.estop = false then c.withPed n 7 .none else c } : State)
    let ended := fun (q : Session) (why : EndReason) => q.ended why (s.timebase + 1000 * s.settings.endingTimeout)
    let r := s.session n
    let st := r.state
    let f : PedestalEntry := { e with
      blocked := e.blocked || x.faults.getLsbD 2
      estop := x.faults.getLsbD 0 || (e.estop && !x.released) }
    let u : State := latched { s with pedestals := s.pedestals.set n f }
    let y : StatusReply := { x.withoutEndingPower r with faults := 0, released := false }
    let reduces := fun (z : State) => exec (.statusReply (x.bytes n)) s = exec (.statusReply (y.bytes n)) z
    (¬ estop → ¬ other → reduces u)
    ∧ ((st = .free ∨ st = .plugged ∨ st = .authorizing ∨ st = .authorized ∨ st = .ending ∨ st = .released) → reduces u)
    ∧ ((estop ∨ other) → ∃ why : EndReason,
      (estop → ¬ other → why = .estop) ∧ (¬ estop → other → why = .pedestalFault)
      ∧ (why = .estop ∨ why = .pedestalFault)
      ∧ (st = .probing → reduces (closeSession n why u))
      ∧ ((st = .dispensing ∨ st = .suspended ∨ st = .occupying) →
        reduces { u with records := u.records.set n (ended r why) }
        ∧ (x.NoNewToken e → s.plugWas n = true → x.plug = false →
          let w := latched (meterSteps n x.meter s)
          exec (.statusReply (x.bytes n)) s = .next (endExchange ⟨n, b, false⟩ (State.answered n x e { w with
            conds := w.conds.withPed n 1 .none
            records := w.records.set n { ended (w.session n) why with hasPlug := .no } })))))

/-- A status reply in its frame reads back as itself at the pedestal that was commanded, and as no reply at another. A frame
is good when it has 26 bytes, its CRC agrees, its address is the one commanded and each coded byte holds a defined value. One
that is not good does to the exchange under way what a miss does, whatever the cause; a good one does what the frame of the
reply that its fields spell does, the bytes that are not read having no say (R153, R194, section 12.4). The model's reading:
R153 and R194 do not list the length among their tests, and a frame of another length than 26 bytes is a miss
(notes/assumptions/17.md). -/
def Obligations.StatusRepliesReadBackFromTheirBytes : Prop :=
  (∀ (n m : Ped) (x : StatusReply), x.fits = true →
    decodeReply n (x.bytes n) = some x ∧ (m ≠ n → decodeReply m (x.bytes n) = none))
  ∧ ∀ (s : State) (under : Exchange) (bytes : List Byte) (cause : MissCause), s.bus.phase = .exchange under →
    let n := under.pedestal
    let f := fieldAt bytes
    let good := bytes.length = 26 ∧ bytes.drop 24 = crcBytes (bytes.take 24) ∧ f 0 1 = n.val + 1
      ∧ f 1 1 ≤ 1 ∧ f 4 1 ≤ 1 ∧ f 10 1 ≤ 3 ∧ f 20 1 ≤ 3 ∧ f 22 1 ≤ 15 ∧ f 23 1 ≤ 1
    (¬ good → decodeReply n bytes = none ∧ exec (.statusReply bytes) s = exec (.exchangeMiss cause) s)
    ∧ (good → ∃ x : StatusReply, x.fits = true ∧ decodeReply n bytes = some x
      ∧ exec (.statusReply bytes) s = exec (.statusReply (x.bytes n)) s
      ∧ (x.plug = true ↔ f 1 1 = 1) ∧ x.request = f 2 2 ∧ (x.complete = true ↔ f 4 1 = 1) ∧ x.power = f 5 2 ∧ x.meter = f 7 3
      ∧ (f 10 1 % 2 = 0 → x.presentation = none)
      ∧ (f 10 1 % 2 = 1 → x.presentation =
          some ⟨BitVec.ofNat 8 (f 11 1), BitVec.ofNat 64 (f 12 8), if f 10 1 = 3 then .vehicle else .reader⟩)
      ∧ (f 20 1 = 0 → x.probe = .none) ∧ (f 20 1 = 1 → x.probe = .openCircuit) ∧ (f 20 1 = 2 → x.probe = .short)
      ∧ (f 20 1 = 3 → x.probe = .matched (f 21 1)) ∧ x.faults.toNat = f 22 1 ∧ (x.released = true ↔ f 23 1 = 1))

/-- ALERT_SLOT: the lowest contending address wins; an empty slot and a winner that is not enrolled end the cycle, an enrolled
winner is commanded out of turn, and any contender is activity for the quiet timer (R151, R158, R159). The model's choices:
the contenders are the operand (notes/assumptions/18.md), and a cycle start brought forward is placed at the present
timebase (notes/assumptions/30.md, 37.md). -/
def Obligations.LowestContenderWinsTheAlertSlot : Prop :=
  ∀ s : State, s.bus.phase = .alertSlot →
    exec (.alertSlot []) s = .next { s with bus := { s.bus with phase := .idle } }
    ∧ ∀ (nodes : List BusAddress) (a : BusAddress), a ∈ nodes → (∀ c ∈ nodes, a.toNat ≤ c.toNat) → a ≠ 31 →
      let u : State := if ∀ n, (s.session n).state = .free then { s with
          bus := { s.wokenBus with quietTimer := some (s.timebase + 1000 * s.settings.quietTime) } }
        else s
      (∀ n : Ped, a.toNat = n.val + 1 → (s.entry n).enrolled = true →
        exec (.alertSlot nodes) s = .next (u.commanded n true))
      ∧ ((∀ n : Ped, a.toNat = n.val + 1 → (s.entry n).enrolled = false) →
        exec (.alertSlot nodes) s = .next { u with bus := { u.bus with phase := .idle } })

/-! ## Power allocation (chapter 5) -/

/-- A round: the budget is the site cap less base load and reserve, floored at 0; the candidates are the DISPENSING records that
are neither exhausted nor blocked nor YIELDING, each with its floor, its effective rank and as its demand the least of the
figures of R94, and they stand in strict candidate order; the setpoints never add up to more than the budget; and a DISPENSING
record on a pedestal that is not blocked is left POWERED with a share from its floor to its rating, or PARKED or YIELDING with
share 0 (R90, R91, R93 to R98, R101 to R104, R106). -/
def Obligations.RoundsStayWithinTheBudget : Prop :=
  ∀ s : State, s.RecordsShaped → s.TableLaw →
    let p := prepareRound s
    let t := allocationRound s
    let cs := State.candidates s.coverFigure p
    t.alloc.lastBudget = s.ruleBudget
    ∧ t.setpointSum ≤ t.alloc.lastBudget
    ∧ cs.Pairwise (fun a c => a.rank < c.rank ∨ (a.rank = c.rank ∧ a.pedestal < c.pedestal))
    ∧ (∀ n : Ped, (∃ c ∈ cs, c.pedestal = n) ↔ (p.session n).state = .dispensing ∧ (s.entry n).blocked = false
        ∧ (p.session n).alloc.grantState ≠ .yielding)
    ∧ (∀ c ∈ cs,
      let e := s.entry c.pedestal
      let r := p.session c.pedestal
      let request := max r.alloc.request e.floor
      ∃ g, r.grant = some g ∧ c.floor = e.floor
        ∧ c.rank = g.baseRank.val - r.alloc.waitRounds / s.settings.agingRounds
        ∧ c.floor ≤ c.demand ∧ c.demand ≤ e.rating ∧ c.demand ≤ request
        ∧ (∀ cap, g.authCap = some cap → c.demand ≤ max cap e.floor)
        ∧ (∀ cap, r.hostCap = some cap → c.demand ≤ max cap e.floor)
        ∧ ∀ band price, s.PricedAt (s.tariffs.get g.tariff) band price →
          c.demand ≤ s.capAtPrice r g price
          ∧ (c.demand = e.rating ∨ c.demand = request ∨ c.demand = s.capAtPrice r g price
            ∨ (∃ cap, g.authCap = some cap ∧ c.demand = max cap e.floor)
            ∨ ∃ cap, r.hostCap = some cap ∧ c.demand = max cap e.floor))
    ∧ ∀ n : Ped,
      let a := (t.session n).alloc
      ((t.session n).state = .dispensing → (t.entry n).blocked = false →
        (a.grantState = .powered ∧ (t.entry n).floor ≤ a.share ∧ a.share ≤ (t.entry n).rating)
        ∨ ((a.grantState = .parked ∨ a.grantState = .yielding) ∧ a.share = 0))
      ∧ ((t.session n).state ≠ .dispensing ∨ (t.entry n).blocked = true → a.share = 0)

/-- Stages 1 to 5 of a round touch nothing but the records in DISPENSING. The Cover Guard values the cover that a session has
left at the present price: one whose cap lies below its floor enters ENDING with COVER-EXHAUSTED (R75 to R82). One on a
blocked pedestal is set aside (R93). A YIELDING one has a round less to yield, and is set aside as a candidate at the last of
them or when the budget covers the floors of all DISPENSING records on pedestals that are not blocked (R99, R100). -/
def Obligations.CoverAndYieldingPrepareTheRound : Prop :=
  ∀ s : State,
    let p := prepareRound s
    let floors := (Ped.all.map fun m =>
      if (p.session m).state = .dispensing ∧ (s.entry m).blocked = false then (s.entry m).floor else 0).sum
    p = { s with records := p.records }
    ∧ ∀ n : Ped,
      let r := s.session n
      let e := s.entry n
      let a := r.alloc
      (r.state ≠ .dispensing → p.session n = r)
      ∧ ∀ (g : Grant) (band price : Nat), r.state = .dispensing → r.grant = some g →
        s.PricedAt (s.tariffs.get g.tariff) band price →
        let cap := s.capAtPrice r g price
        let setAside : Session := { r with alloc := { request := a.request } }
        (cap < e.floor →
          p.session n = r.ended .coverExhausted (s.timebase + 1000 * s.settings.endingTimeout))
        ∧ (e.floor ≤ cap → e.blocked = true → p.session n = setAside)
        ∧ (e.floor ≤ cap → e.blocked = false →
          (a.grantState ≠ .yielding → p.session n = r)
          ∧ (a.grantState = .yielding → (a.yieldLeft ≤ 1 ∨ floors ≤ s.ruleBudget) → p.session n = setAside)
          ∧ (a.grantState = .yielding → 1 < a.yieldLeft → s.ruleBudget < floors → p.session n =
            { r with alloc := { a with yieldLeft := a.yieldLeft - 1, share := 0 } }))

/-- Stages 7 to 10 of a round. The floor pass powers each candidate in order whose floor the rest of the budget holds and parks
the others (R101); the fill gives every demand where the headrooms fit, and otherwise fills to the highest level that fits,
with one leftover step in candidate order to those above it (R102, R103). A PARKED session waits a round more; a POWERED one
waits no more, counts a served round while another is parked, and yields at the yield-on setting (R105, R106). The figures of
the round are kept, and BUDGET-SHORT is latched at the first round that parks a candidate (R87, R92, R109). Nothing else
changes. -/
def Obligations.RoundsFillTheBudgetFairly : Prop :=
  ∀ s : State,
    let p := prepareRound s
    let t := allocationRound s
    let cs := State.candidates s.coverFigure p
    ∃ (powered : List Candidate) (share : Candidate → Nat),
      let left := s.ruleBudget - (powered.map (·.floor)).sum
      let headroom := fun (c : Candidate) => c.demand - c.floor
      let use := fun (level : Nat) => (powered.map fun c => min (headroom c) level).sum
      let parked := cs.length - powered.length
      (powered.Sublist cs
        ∧ ∀ before c after, cs = before ++ c :: after →
          (c ∈ powered ↔ c.floor + ((before.filter (· ∈ powered)).map (·.floor)).sum ≤ s.ruleBudget))
      ∧ ((powered.map headroom).sum ≤ left → ∀ c ∈ powered, share c = c.demand)
      ∧ (left < (powered.map headroom).sum → ∃ level, use level ≤ left ∧ left < use (level + 1)
        ∧ ∀ before c after, powered = before ++ c :: after →
          share c = c.floor + min (headroom c) level
            + if level < headroom c ∧ before.countP (fun d => decide (level < headroom d)) < left - use level then 1 else 0)
      ∧ (∀ c ∈ cs,
        let r := p.session c.pedestal
        let a := r.alloc
        let served := if 0 < parked then min 65535 (a.servedRounds + 1) else 0
        (c ∉ powered → t.session c.pedestal = { r with
          alloc := { a with grantState := .parked, share := 0, waitRounds := min 65535 (a.waitRounds + 1), yieldLeft := 0 } })
        ∧ (c ∈ powered → served < s.settings.yieldOn → t.session c.pedestal = { r with
          alloc := { a with grantState := .powered, share := share c, waitRounds := 0, servedRounds := served,
                            yieldLeft := 0 } })
        ∧ (c ∈ powered → s.settings.yieldOn ≤ served → t.session c.pedestal = { r with
          alloc := { a with grantState := .yielding, share := 0, waitRounds := 0, servedRounds := 0,
                            yieldLeft := s.settings.yieldOff } }))
      ∧ (∀ n : Ped, (∀ c ∈ cs, c.pedestal ≠ n) → t.session n = p.session n)
      ∧ t = { s with
          records := t.records
          alloc := { s.alloc with
            shortMark := decide (0 < parked)
            lastBudget := s.ruleBudget
            lastCandidates := cs.length
            lastParked := parked }
          conds := if 0 < parked ∧ s.alloc.shortMark = false then s.conds.withPark 2 .none else s.conds }

/-! ## Restarts, supply and starts (chapter 11) -/

/-- RESTART, whichever row carries it: SOFT stops every session with HOST-RESTART, HARD is WRONG-STATE while a session is
open; both ask for STOP-ALL, drop the BUSY replies, answer DONE and enter RESTARTING; another value is OUT-OF-RANGE
(R192). -/
def Obligations.RestartRequestsEnterRestarting : Prop :=
  ∀ (tag : Byte) (body : List Byte) (s : State) (i : Instr), s.Ready tag → body.length = 1 →
    (i = .restartSoft tag body ∨ i = .restartHard tag body) →
    let entered := fun (kind : RestartKind) (u : State) => { u with
      bus := u.bus.askedToStop
      line := { u.line with busyList := [] }
      supply := { u.supply with runState := .restarting, pendingRestart := some kind } }
    (fieldAt body 0 1 = 0 → exec i s = .next (State.answering 0x9D#8 tag .done []
      (entered .soft (forPedestals (haltSession .hostRestart) s.served))))
    ∧ (fieldAt body 0 1 = 1 → (∃ n, (s.session n).state.isOpen = true) →
      exec i s = .next (State.answering 0x9D#8 tag .wrongState [] s.served))
    ∧ (fieldAt body 0 1 = 1 → (∀ n, (s.session n).state.isOpen = false) →
      exec i s = .next (State.answering 0x9D#8 tag .done [] (entered .hard s.served)))
    ∧ (1 < fieldAt body 0 1 → exec i s = .next (State.answering 0x9D#8 tag .outOfRange [] s.served))

/-- SUPPLY_WARNING, RESET and SUPPLY_FAIL outside HALTED stop every session with SUPPLY-LOSS, ask for STOP-ALL, cut the host
line and enter HALTED, a pending restart given up; in HALTED they move no more than the inputs and the supply
(R188 to R190). RETENTION_LOSS in HALTED makes the marker invalid, without power, and does nothing elsewhere (R127;
notes/assumptions/13.md and 21.md). The model's choice: with an exchange under way HALTED is entered at once and STOP-ALL
owed (notes/assumptions/39.md). -/
def Obligations.StopCausesHaltTheDevice : Prop :=
  ∀ s : State,
    let h := forPedestals (haltSession .supplyLoss) s
    let halted := fun (supply : Supply) => { h with
      bus := h.bus.askedToStop
      line := { s.line with
        sending := none
        replyWaiting := none
        busyList := []
        parser := .hunt false }
      supply := supply }
    let u : Supply := { s.supply with runState := .halted, pendingRestart := none, resetSeen := false }
    let dark : State := { s with
      supply := { s.supply with mainSupply := .absent }
      bus := { s.bus with phase := .stopped, stopAllOwed := false } }
    (s.supply.runState ≠ .halted →
      exec .supplyWarning s = .next (halted { u with warningInput := true })
      ∧ exec .reset s = .next (halted { u with resetInput := true, resetSeen := true })
      ∧ exec .supplyFail s = .next (halted { u with mainSupply := .below })
      ∧ exec .retentionLoss s = .next s)
    ∧ (s.supply.runState = .halted →
      exec .supplyWarning s = .next { s with supply := { s.supply with warningInput := true } }
      ∧ exec .reset s = .next { s with supply := { s.supply with resetInput := true, resetSeen := true } }
      ∧ exec .supplyFail s = .next dark
      ∧ exec .retentionLoss s = .next { dark with settlement := { s.settlement with markerValid := false } })

/-- The four starts. POWER_ON and HALTED_START are WARM with a valid marker and COLD without one, HARD_RESTART and
SOFT_RESTART are WARM once DONE has gone; a WARM start keeps the queue with every record PENDING and no slot reserved; a COLD
one begins with an empty queue and counter 1; only SOFT_RESTART keeps windows, tariffs, clock, settings and enrolment;
PARK-START is latched with kind and cause, and CLOCK-UNSET where the clock is unset. The values are spelt out: the nineteen
defaults of R141, the not-enrolled entry of R146, the FREE record of R2, R53 and R87, the cleared windows and tariffs of R35
and R134 (R32, R36, R111, R128, R129, R135, R138, R140, R145, R161, R174, R187, R190 to R192). The model's choices: POWER_ON
comes from any HALTED state and HALTED_START tests no input (notes/assumptions/13.md), the timebase runs on
(notes/assumptions/27.md) and is the point of the first cycle start (notes/assumptions/30.md), an exchange under way and an
owed STOP-ALL are dropped (notes/assumptions/38.md), and a soft restart keeps what an exchange that ended in RESTARTING left
in the table (notes/assumptions/40.md). -/
def Obligations.StartsBringEveryBlockToItsValues : Prop :=
  ∀ s : State,
    let kept : Settlement := { s.settlement with
      queue := s.settlement.queue.map fun r => { r with delivery := .pending }
      reserved := 0 }
    let flags := fun (kind : StartKind) (cause : StartCause) (unset : Bool) =>
      (#v[some ⟨false, .start kind cause⟩, none, none, if unset then some ⟨false, .none⟩ else none, none] : ParkSet)
    let settings : Settings :=
      { fastPeriod := 100, quietTime := 60, linkSilence := 5, authWait := 20, plugWait := 120, probeRetries := 2,
        endingTimeout := 5, suspendLimit := 15, siteCap := 0, reserve := 0, fallbackLoad := 65535, staleTime := 15,
        agingRounds := 20, yieldOn := 3000, yieldOff := 600, maxHold := 100000, highMark := 20, plausibility := 60,
        routePosted := 0 }
    let notEnrolled : PedestalEntry :=
      { enrolled := false, rating := 0, floor := 0, extension := 0, maxCable := 0, link := .lost, blocked := false,
        estop := false, lastMeter := 0, lastPlug := none, lastPresentation := none, misses := 0, frameErrors := 0,
        missMark := false }
    let free : Session :=
      { state := .free, hasPlug := .no, opening := none, captured := none, grant := none, hostCap := none,
        alloc := { grantState := .none, share := 0, waitRounds := 0, servedRounds := 0, yieldLeft := 0, request := 0 },
        baseline := 0,
        meter := { energyTotal := 0, bandEnergy := #v[0, 0, 0, 0, 0, 0], costWhole := 0, costRemainder := 0,
                   startFeeCharged := false, occupyingSeconds := 0, idleMinutes := 0, idleFee := 0 },
        flags := { clockUnset := false, idleCapped := false, meterJump := false, meterGap := false },
        energized := none, endReason := none, authDeadline := none, plugDeadline := none, probeDeadline := none,
        suspendStart := none, endingDeadline := none, probeSend := false, probeAttempts := 0, refusal := none }
    let window : Window :=
      { enabled := false, base := 0, mask := 0, translateEnabled := false, translate := 0, mode := .deny, localHold := 1,
        tariff := 0, route := 0, baseRank := 15, powerCap := none }
    let tariff : Tariff := { defined := false, bands := [⟨0, 0⟩], startFee := 0, idleFeePerMinute := 0, idleGrace := 0 }
    let conds := fun (park : ParkSet) =>
      ({ ped := Vector.replicate 16 (Vector.replicate 11 none), park := park, pedMask := 0, parkMask := 0,
         lastNotice := none } : Conditions)
    let fresh := fun (kind : StartKind) (cause : StartCause) (queue : Settlement) =>
      { timebase := s.timebase, tickDue := s.tickDue, pending := s.pending, settlement := queue,
        records := Vector.replicate 16 free, windows := Vector.replicate 12 window, tariffs := Vector.replicate 8 tariff,
        alloc := { baseLoad := none, shortMark := false, lastBudget := 0, lastCandidates := 0, lastParked := 0 },
        clock := none, park := .closed, settings := settings, pedestals := Vector.replicate 16 notEnrolled,
        bus := { pace := .slow, quietTimer := none, cyclePace := .slow, nextCycle := s.timebase, phase := .idle,
                 stopAllOwed := false, lastFrame := none },
        line := { parser := .hunt false, strap := s.line.strap, baud := s.line.strap, mode := .standalone,
                  silenceTimer := none, lineErrors := 0, sending := none, replyWaiting := none, busyList := [] },
        conds := conds (flags kind cause true),
        supply := { runState := .running, startKind := kind, startCause := cause, secondsSinceStart := 0,
                    pendingRestart := none, warningInput := false, resetInput := false, mainSupply := .good,
                    resetSeen := false } : State }
    let gone := s.supply.runState = .restarting ∧ s.line.sending = none ∧ s.line.replyWaiting = none
    (s.supply.runState = .halted →
      (s.settlement.markerValid = true → exec .powerOn s = .next (fresh .warm .powerOn kept))
      ∧ (s.settlement.markerValid = false → exec .powerOn s = .next (fresh .cold .powerOn
          { queue := [], reserved := 0, counter := 1, markerValid := true }))
      ∧ (s.supply.mainSupply ≠ .absent →
        let cause := if s.supply.resetSeen then StartCause.resetInput else StartCause.supplyRelease
        (s.settlement.markerValid = true → exec .haltedStart s = .next (fresh .warm cause kept))
        ∧ (s.settlement.markerValid = false → exec .haltedStart s = .next (fresh .cold cause
            { queue := [], reserved := 0, counter := 1, markerValid := true }))))
    ∧ (gone → s.supply.pendingRestart = some .hard → exec .hardRestart s = .next (fresh .warm .restartHard kept))
    ∧ (gone → s.supply.pendingRestart = some .soft → exec .softRestart s = .next
        { fresh .warm .restartSoft kept with
          windows := s.windows
          tariffs := s.tariffs
          clock := s.clock
          settings := s.settings
          pedestals := s.pedestals.map fun e =>
            { e with lastPlug := none, lastPresentation := none, missMark := false }
          conds := conds (flags .warm .restartSoft s.clock.isNone) })

/-! ## What every step keeps -/

/-- Every record holds in each state what the life cycle says: opening, captured terms, grant, end reason, deadlines, has-plug,
allocation fields and metering fields (R1, R2, R11, R12, R22, R42, R53, R54, R68, R88, R107). -/
def Obligations.StepsKeepRecordsShaped : Prop :=
  ∀ s t : State, s.RecordsShaped → (∀ n, (s.session n).MeteredByState) → step s = .next t →
    t.RecordsShaped ∧ ∀ n, (t.session n).MeteredByState

/-- The reserved slots are the open sessions, slots and queued records are at most 24, and session numbers are pairwise
distinct and in range (R116, R120, R121). -/
def Obligations.StepsKeepSlotsAndNumbers : Prop :=
  ∀ s t : State, s.RecordsShaped → s.SlotLaw → s.NumbersLaw → step s = .next t → t.SlotLaw ∧ t.NumbersLaw

/-- No two open sessions hold one token (R40). -/
def Obligations.StepsKeepTokensApart : Prop :=
  ∀ s t : State, s.RecordsShaped → s.TokensLaw → step s = .next t → t.TokensLaw

/-- Every queued record obeys the money law and the band law, and a posted one is PENDING (R71, R72, R114, R119, R124). -/
def Obligations.StepsKeepTheQueueSound : Prop :=
  ∀ s t : State, s.QueueLaw → step s = .next t → t.QueueLaw

/-- Tariffs are cleared or valid, and the tariff of every grant is defined with a start fee within the hold (R45, R131 to
R133). -/
def Obligations.StepsKeepGrantsCovered : Prop :=
  ∀ s t : State, (∀ i, (s.tariffs.get i).Valid) → s.GrantLaw → step s = .next t → (∀ i, (t.tariffs.get i).Valid) ∧ t.GrantLaw

/-- Table entries stay valid, an exchange that counts is with an enrolled pedestal, shares lie from floor to rating, and the
commands of a cycle never add up to more than the budget of the last round (R104, R108, R146 to R148, R155, R157). -/
def Obligations.StepsKeepTheTableAndTheBudget : Prop :=
  ∀ s t : State, s.RecordsShaped → s.TableLaw → s.ShareLaw → s.BudgetLaw → step s = .next t →
    t.TableLaw ∧ t.ShareLaw ∧ t.BudgetLaw

/-- The pace is FAST with the quiet timer stopped while a record is not FREE, and with all FREE the timer runs exactly while
the pace is FAST (R151). -/
def Obligations.StepsKeepThePace : Prop :=
  ∀ s t : State, s.PaceLaw → step s = .next t → t.PaceLaw

/-- Settings stay in range, the silence timer runs exactly while ATTENDED, replies wait only behind a frame, and outside
RUNNING no session is open, nothing is parsed and the bus has stopped or is about to (R141, R160, R176, R178, R181, R188,
R189, R192). -/
def Obligations.StepsKeepLineAndRunStates : Prop :=
  ∀ s t : State, s.settings.InRange → s.LinkLaw → s.LineLaw → s.RunLaw → step s = .next t →
    t.settings.InRange ∧ t.LinkLaw ∧ t.LineLaw ∧ t.RunLaw
end

