-- ==== Sys2Proof/Laws/State.lean ====
section
/-! SUPPORT. The projections of every field-wise update of State, true by `rfl`, so that no proof unfolds a record update. -/

namespace Sys2Proof.Machine

variable (s : State)

/-! ## State.withBus -/

@[simp] theorem State.withBus_timebase (b : Bus) : (s.withBus b).timebase = s.timebase := rfl
@[simp] theorem State.withBus_tickDue (b : Bus) : (s.withBus b).tickDue = s.tickDue := rfl
@[simp] theorem State.withBus_records (b : Bus) : (s.withBus b).records = s.records := rfl
@[simp] theorem State.withBus_windows (b : Bus) : (s.withBus b).windows = s.windows := rfl
@[simp] theorem State.withBus_alloc (b : Bus) : (s.withBus b).alloc = s.alloc := rfl
@[simp] theorem State.withBus_settlement (b : Bus) : (s.withBus b).settlement = s.settlement := rfl
@[simp] theorem State.withBus_tariffs (b : Bus) : (s.withBus b).tariffs = s.tariffs := rfl
@[simp] theorem State.withBus_clock (b : Bus) : (s.withBus b).clock = s.clock := rfl
@[simp] theorem State.withBus_park (b : Bus) : (s.withBus b).park = s.park := rfl
@[simp] theorem State.withBus_settings (b : Bus) : (s.withBus b).settings = s.settings := rfl
@[simp] theorem State.withBus_pedestals (b : Bus) : (s.withBus b).pedestals = s.pedestals := rfl
@[simp] theorem State.withBus_bus (b : Bus) : (s.withBus b).bus = b := rfl
@[simp] theorem State.withBus_line (b : Bus) : (s.withBus b).line = s.line := rfl
@[simp] theorem State.withBus_conds (b : Bus) : (s.withBus b).conds = s.conds := rfl
@[simp] theorem State.withBus_supply (b : Bus) : (s.withBus b).supply = s.supply := rfl
@[simp] theorem State.withBus_pending (b : Bus) : (s.withBus b).pending = s.pending := rfl

/-! ## State.withLine -/

@[simp] theorem State.withLine_timebase (l : HostLine) : (s.withLine l).timebase = s.timebase := rfl
@[simp] theorem State.withLine_tickDue (l : HostLine) : (s.withLine l).tickDue = s.tickDue := rfl
@[simp] theorem State.withLine_records (l : HostLine) : (s.withLine l).records = s.records := rfl
@[simp] theorem State.withLine_windows (l : HostLine) : (s.withLine l).windows = s.windows := rfl
@[simp] theorem State.withLine_alloc (l : HostLine) : (s.withLine l).alloc = s.alloc := rfl
@[simp] theorem State.withLine_settlement (l : HostLine) : (s.withLine l).settlement = s.settlement := rfl
@[simp] theorem State.withLine_tariffs (l : HostLine) : (s.withLine l).tariffs = s.tariffs := rfl
@[simp] theorem State.withLine_clock (l : HostLine) : (s.withLine l).clock = s.clock := rfl
@[simp] theorem State.withLine_park (l : HostLine) : (s.withLine l).park = s.park := rfl
@[simp] theorem State.withLine_settings (l : HostLine) : (s.withLine l).settings = s.settings := rfl
@[simp] theorem State.withLine_pedestals (l : HostLine) : (s.withLine l).pedestals = s.pedestals := rfl
@[simp] theorem State.withLine_bus (l : HostLine) : (s.withLine l).bus = s.bus := rfl
@[simp] theorem State.withLine_line (l : HostLine) : (s.withLine l).line = l := rfl
@[simp] theorem State.withLine_conds (l : HostLine) : (s.withLine l).conds = s.conds := rfl
@[simp] theorem State.withLine_supply (l : HostLine) : (s.withLine l).supply = s.supply := rfl
@[simp] theorem State.withLine_pending (l : HostLine) : (s.withLine l).pending = s.pending := rfl

/-! ## State.withSupply -/

@[simp] theorem State.withSupply_timebase (u : Supply) : (s.withSupply u).timebase = s.timebase := rfl
@[simp] theorem State.withSupply_tickDue (u : Supply) : (s.withSupply u).tickDue = s.tickDue := rfl
@[simp] theorem State.withSupply_records (u : Supply) : (s.withSupply u).records = s.records := rfl
@[simp] theorem State.withSupply_windows (u : Supply) : (s.withSupply u).windows = s.windows := rfl
@[simp] theorem State.withSupply_alloc (u : Supply) : (s.withSupply u).alloc = s.alloc := rfl
@[simp] theorem State.withSupply_settlement (u : Supply) : (s.withSupply u).settlement = s.settlement := rfl
@[simp] theorem State.withSupply_tariffs (u : Supply) : (s.withSupply u).tariffs = s.tariffs := rfl
@[simp] theorem State.withSupply_clock (u : Supply) : (s.withSupply u).clock = s.clock := rfl
@[simp] theorem State.withSupply_park (u : Supply) : (s.withSupply u).park = s.park := rfl
@[simp] theorem State.withSupply_settings (u : Supply) : (s.withSupply u).settings = s.settings := rfl
@[simp] theorem State.withSupply_pedestals (u : Supply) : (s.withSupply u).pedestals = s.pedestals := rfl
@[simp] theorem State.withSupply_bus (u : Supply) : (s.withSupply u).bus = s.bus := rfl
@[simp] theorem State.withSupply_line (u : Supply) : (s.withSupply u).line = s.line := rfl
@[simp] theorem State.withSupply_conds (u : Supply) : (s.withSupply u).conds = s.conds := rfl
@[simp] theorem State.withSupply_supply (u : Supply) : (s.withSupply u).supply = u := rfl
@[simp] theorem State.withSupply_pending (u : Supply) : (s.withSupply u).pending = s.pending := rfl

/-! ## State.withSettlement -/

@[simp] theorem State.withSettlement_timebase (q : Settlement) : (s.withSettlement q).timebase = s.timebase := rfl
@[simp] theorem State.withSettlement_tickDue (q : Settlement) : (s.withSettlement q).tickDue = s.tickDue := rfl
@[simp] theorem State.withSettlement_records (q : Settlement) : (s.withSettlement q).records = s.records := rfl
@[simp] theorem State.withSettlement_windows (q : Settlement) : (s.withSettlement q).windows = s.windows := rfl
@[simp] theorem State.withSettlement_alloc (q : Settlement) : (s.withSettlement q).alloc = s.alloc := rfl
@[simp] theorem State.withSettlement_settlement (q : Settlement) : (s.withSettlement q).settlement = q := rfl
@[simp] theorem State.withSettlement_tariffs (q : Settlement) : (s.withSettlement q).tariffs = s.tariffs := rfl
@[simp] theorem State.withSettlement_clock (q : Settlement) : (s.withSettlement q).clock = s.clock := rfl
@[simp] theorem State.withSettlement_park (q : Settlement) : (s.withSettlement q).park = s.park := rfl
@[simp] theorem State.withSettlement_settings (q : Settlement) : (s.withSettlement q).settings = s.settings := rfl
@[simp] theorem State.withSettlement_pedestals (q : Settlement) :
    (s.withSettlement q).pedestals = s.pedestals := rfl
@[simp] theorem State.withSettlement_bus (q : Settlement) : (s.withSettlement q).bus = s.bus := rfl
@[simp] theorem State.withSettlement_line (q : Settlement) : (s.withSettlement q).line = s.line := rfl
@[simp] theorem State.withSettlement_conds (q : Settlement) : (s.withSettlement q).conds = s.conds := rfl
@[simp] theorem State.withSettlement_supply (q : Settlement) : (s.withSettlement q).supply = s.supply := rfl
@[simp] theorem State.withSettlement_pending (q : Settlement) : (s.withSettlement q).pending = s.pending := rfl

/-! ## State.withParser -/

@[simp] theorem State.withParser_timebase (p : Parser) : (s.withParser p).timebase = s.timebase := rfl
@[simp] theorem State.withParser_tickDue (p : Parser) : (s.withParser p).tickDue = s.tickDue := rfl
@[simp] theorem State.withParser_records (p : Parser) : (s.withParser p).records = s.records := rfl
@[simp] theorem State.withParser_windows (p : Parser) : (s.withParser p).windows = s.windows := rfl
@[simp] theorem State.withParser_alloc (p : Parser) : (s.withParser p).alloc = s.alloc := rfl
@[simp] theorem State.withParser_settlement (p : Parser) : (s.withParser p).settlement = s.settlement := rfl
@[simp] theorem State.withParser_tariffs (p : Parser) : (s.withParser p).tariffs = s.tariffs := rfl
@[simp] theorem State.withParser_clock (p : Parser) : (s.withParser p).clock = s.clock := rfl
@[simp] theorem State.withParser_park (p : Parser) : (s.withParser p).park = s.park := rfl
@[simp] theorem State.withParser_settings (p : Parser) : (s.withParser p).settings = s.settings := rfl
@[simp] theorem State.withParser_pedestals (p : Parser) : (s.withParser p).pedestals = s.pedestals := rfl
@[simp] theorem State.withParser_bus (p : Parser) : (s.withParser p).bus = s.bus := rfl
@[simp] theorem State.withParser_line (p : Parser) : (s.withParser p).line = { s.line with parser := p } := rfl
@[simp] theorem State.withParser_conds (p : Parser) : (s.withParser p).conds = s.conds := rfl
@[simp] theorem State.withParser_supply (p : Parser) : (s.withParser p).supply = s.supply := rfl
@[simp] theorem State.withParser_pending (p : Parser) : (s.withParser p).pending = s.pending := rfl

/-! ## State.setSession -/

@[simp] theorem State.setSession_timebase (n : Ped) (r : Session) : (s.setSession n r).timebase = s.timebase := rfl
@[simp] theorem State.setSession_tickDue (n : Ped) (r : Session) : (s.setSession n r).tickDue = s.tickDue := rfl
@[simp] theorem State.setSession_records (n : Ped) (r : Session) :
    (s.setSession n r).records = s.records.set n r := rfl
@[simp] theorem State.setSession_windows (n : Ped) (r : Session) : (s.setSession n r).windows = s.windows := rfl
@[simp] theorem State.setSession_alloc (n : Ped) (r : Session) : (s.setSession n r).alloc = s.alloc := rfl
@[simp] theorem State.setSession_settlement (n : Ped) (r : Session) :
    (s.setSession n r).settlement = s.settlement := rfl
@[simp] theorem State.setSession_tariffs (n : Ped) (r : Session) : (s.setSession n r).tariffs = s.tariffs := rfl
@[simp] theorem State.setSession_clock (n : Ped) (r : Session) : (s.setSession n r).clock = s.clock := rfl
@[simp] theorem State.setSession_park (n : Ped) (r : Session) : (s.setSession n r).park = s.park := rfl
@[simp] theorem State.setSession_settings (n : Ped) (r : Session) : (s.setSession n r).settings = s.settings := rfl
@[simp] theorem State.setSession_pedestals (n : Ped) (r : Session) :
    (s.setSession n r).pedestals = s.pedestals := rfl
@[simp] theorem State.setSession_bus (n : Ped) (r : Session) : (s.setSession n r).bus = s.bus := rfl
@[simp] theorem State.setSession_line (n : Ped) (r : Session) : (s.setSession n r).line = s.line := rfl
@[simp] theorem State.setSession_conds (n : Ped) (r : Session) : (s.setSession n r).conds = s.conds := rfl
@[simp] theorem State.setSession_supply (n : Ped) (r : Session) : (s.setSession n r).supply = s.supply := rfl
@[simp] theorem State.setSession_pending (n : Ped) (r : Session) : (s.setSession n r).pending = s.pending := rfl

/-! ## State.setEntry -/

@[simp] theorem State.setEntry_timebase (n : Ped) (e : PedestalEntry) :
    (s.setEntry n e).timebase = s.timebase := rfl
@[simp] theorem State.setEntry_tickDue (n : Ped) (e : PedestalEntry) : (s.setEntry n e).tickDue = s.tickDue := rfl
@[simp] theorem State.setEntry_records (n : Ped) (e : PedestalEntry) : (s.setEntry n e).records = s.records := rfl
@[simp] theorem State.setEntry_windows (n : Ped) (e : PedestalEntry) : (s.setEntry n e).windows = s.windows := rfl
@[simp] theorem State.setEntry_alloc (n : Ped) (e : PedestalEntry) : (s.setEntry n e).alloc = s.alloc := rfl
@[simp] theorem State.setEntry_settlement (n : Ped) (e : PedestalEntry) :
    (s.setEntry n e).settlement = s.settlement := rfl
@[simp] theorem State.setEntry_tariffs (n : Ped) (e : PedestalEntry) : (s.setEntry n e).tariffs = s.tariffs := rfl
@[simp] theorem State.setEntry_clock (n : Ped) (e : PedestalEntry) : (s.setEntry n e).clock = s.clock := rfl
@[simp] theorem State.setEntry_park (n : Ped) (e : PedestalEntry) : (s.setEntry n e).park = s.park := rfl
@[simp] theorem State.setEntry_settings (n : Ped) (e : PedestalEntry) :
    (s.setEntry n e).settings = s.settings := rfl
@[simp] theorem State.setEntry_pedestals (n : Ped) (e : PedestalEntry) :
    (s.setEntry n e).pedestals = s.pedestals.set n e := rfl
@[simp] theorem State.setEntry_bus (n : Ped) (e : PedestalEntry) : (s.setEntry n e).bus = s.bus := rfl
@[simp] theorem State.setEntry_line (n : Ped) (e : PedestalEntry) : (s.setEntry n e).line = s.line := rfl
@[simp] theorem State.setEntry_conds (n : Ped) (e : PedestalEntry) : (s.setEntry n e).conds = s.conds := rfl
@[simp] theorem State.setEntry_supply (n : Ped) (e : PedestalEntry) : (s.setEntry n e).supply = s.supply := rfl
@[simp] theorem State.setEntry_pending (n : Ped) (e : PedestalEntry) : (s.setEntry n e).pending = s.pending := rfl

/-! ## State.setAlloc -/

@[simp] theorem State.setAlloc_timebase (n : Ped) (a : Alloc) : (s.setAlloc n a).timebase = s.timebase := rfl
@[simp] theorem State.setAlloc_tickDue (n : Ped) (a : Alloc) : (s.setAlloc n a).tickDue = s.tickDue := rfl
@[simp] theorem State.setAlloc_records (n : Ped) (a : Alloc) :
    (s.setAlloc n a).records = s.records.set n { s.session n with alloc := a } := rfl
@[simp] theorem State.setAlloc_windows (n : Ped) (a : Alloc) : (s.setAlloc n a).windows = s.windows := rfl
@[simp] theorem State.setAlloc_alloc (n : Ped) (a : Alloc) : (s.setAlloc n a).alloc = s.alloc := rfl
@[simp] theorem State.setAlloc_settlement (n : Ped) (a : Alloc) : (s.setAlloc n a).settlement = s.settlement := rfl
@[simp] theorem State.setAlloc_tariffs (n : Ped) (a : Alloc) : (s.setAlloc n a).tariffs = s.tariffs := rfl
@[simp] theorem State.setAlloc_clock (n : Ped) (a : Alloc) : (s.setAlloc n a).clock = s.clock := rfl
@[simp] theorem State.setAlloc_park (n : Ped) (a : Alloc) : (s.setAlloc n a).park = s.park := rfl
@[simp] theorem State.setAlloc_settings (n : Ped) (a : Alloc) : (s.setAlloc n a).settings = s.settings := rfl
@[simp] theorem State.setAlloc_pedestals (n : Ped) (a : Alloc) : (s.setAlloc n a).pedestals = s.pedestals := rfl
@[simp] theorem State.setAlloc_bus (n : Ped) (a : Alloc) : (s.setAlloc n a).bus = s.bus := rfl
@[simp] theorem State.setAlloc_line (n : Ped) (a : Alloc) : (s.setAlloc n a).line = s.line := rfl
@[simp] theorem State.setAlloc_conds (n : Ped) (a : Alloc) : (s.setAlloc n a).conds = s.conds := rfl
@[simp] theorem State.setAlloc_supply (n : Ped) (a : Alloc) : (s.setAlloc n a).supply = s.supply := rfl
@[simp] theorem State.setAlloc_pending (n : Ped) (a : Alloc) : (s.setAlloc n a).pending = s.pending := rfl

/-! ## State.setHostCap -/

@[simp] theorem State.setHostCap_timebase (n : Ped) (c : Option Nat) :
    (s.setHostCap n c).timebase = s.timebase := rfl
@[simp] theorem State.setHostCap_tickDue (n : Ped) (c : Option Nat) : (s.setHostCap n c).tickDue = s.tickDue := rfl
@[simp] theorem State.setHostCap_records (n : Ped) (c : Option Nat) :
    (s.setHostCap n c).records = s.records.set n { s.session n with hostCap := c } := rfl
@[simp] theorem State.setHostCap_windows (n : Ped) (c : Option Nat) : (s.setHostCap n c).windows = s.windows := rfl
@[simp] theorem State.setHostCap_alloc (n : Ped) (c : Option Nat) : (s.setHostCap n c).alloc = s.alloc := rfl
@[simp] theorem State.setHostCap_settlement (n : Ped) (c : Option Nat) :
    (s.setHostCap n c).settlement = s.settlement := rfl
@[simp] theorem State.setHostCap_tariffs (n : Ped) (c : Option Nat) : (s.setHostCap n c).tariffs = s.tariffs := rfl
@[simp] theorem State.setHostCap_clock (n : Ped) (c : Option Nat) : (s.setHostCap n c).clock = s.clock := rfl
@[simp] theorem State.setHostCap_park (n : Ped) (c : Option Nat) : (s.setHostCap n c).park = s.park := rfl
@[simp] theorem State.setHostCap_settings (n : Ped) (c : Option Nat) :
    (s.setHostCap n c).settings = s.settings := rfl
@[simp] theorem State.setHostCap_pedestals (n : Ped) (c : Option Nat) :
    (s.setHostCap n c).pedestals = s.pedestals := rfl
@[simp] theorem State.setHostCap_bus (n : Ped) (c : Option Nat) : (s.setHostCap n c).bus = s.bus := rfl
@[simp] theorem State.setHostCap_line (n : Ped) (c : Option Nat) : (s.setHostCap n c).line = s.line := rfl
@[simp] theorem State.setHostCap_conds (n : Ped) (c : Option Nat) : (s.setHostCap n c).conds = s.conds := rfl
@[simp] theorem State.setHostCap_supply (n : Ped) (c : Option Nat) : (s.setHostCap n c).supply = s.supply := rfl
@[simp] theorem State.setHostCap_pending (n : Ped) (c : Option Nat) : (s.setHostCap n c).pending = s.pending := rfl

/-! ## State.setTariff -/

@[simp] theorem State.setTariff_timebase (i : Fin 8) (t : Tariff) : (s.setTariff i t).timebase = s.timebase := rfl
@[simp] theorem State.setTariff_tickDue (i : Fin 8) (t : Tariff) : (s.setTariff i t).tickDue = s.tickDue := rfl
@[simp] theorem State.setTariff_records (i : Fin 8) (t : Tariff) : (s.setTariff i t).records = s.records := rfl
@[simp] theorem State.setTariff_windows (i : Fin 8) (t : Tariff) : (s.setTariff i t).windows = s.windows := rfl
@[simp] theorem State.setTariff_alloc (i : Fin 8) (t : Tariff) : (s.setTariff i t).alloc = s.alloc := rfl
@[simp] theorem State.setTariff_settlement (i : Fin 8) (t : Tariff) :
    (s.setTariff i t).settlement = s.settlement := rfl
@[simp] theorem State.setTariff_tariffs (i : Fin 8) (t : Tariff) :
    (s.setTariff i t).tariffs = s.tariffs.set i t := rfl
@[simp] theorem State.setTariff_clock (i : Fin 8) (t : Tariff) : (s.setTariff i t).clock = s.clock := rfl
@[simp] theorem State.setTariff_park (i : Fin 8) (t : Tariff) : (s.setTariff i t).park = s.park := rfl
@[simp] theorem State.setTariff_settings (i : Fin 8) (t : Tariff) : (s.setTariff i t).settings = s.settings := rfl
@[simp] theorem State.setTariff_pedestals (i : Fin 8) (t : Tariff) :
    (s.setTariff i t).pedestals = s.pedestals := rfl
@[simp] theorem State.setTariff_bus (i : Fin 8) (t : Tariff) : (s.setTariff i t).bus = s.bus := rfl
@[simp] theorem State.setTariff_line (i : Fin 8) (t : Tariff) : (s.setTariff i t).line = s.line := rfl
@[simp] theorem State.setTariff_conds (i : Fin 8) (t : Tariff) : (s.setTariff i t).conds = s.conds := rfl
@[simp] theorem State.setTariff_supply (i : Fin 8) (t : Tariff) : (s.setTariff i t).supply = s.supply := rfl
@[simp] theorem State.setTariff_pending (i : Fin 8) (t : Tariff) : (s.setTariff i t).pending = s.pending := rfl

/-! ## State.setWindow -/

@[simp] theorem State.setWindow_timebase (i : Fin 12) (w : Window) : (s.setWindow i w).timebase = s.timebase := rfl
@[simp] theorem State.setWindow_tickDue (i : Fin 12) (w : Window) : (s.setWindow i w).tickDue = s.tickDue := rfl
@[simp] theorem State.setWindow_records (i : Fin 12) (w : Window) : (s.setWindow i w).records = s.records := rfl
@[simp] theorem State.setWindow_windows (i : Fin 12) (w : Window) :
    (s.setWindow i w).windows = s.windows.set i w := rfl
@[simp] theorem State.setWindow_alloc (i : Fin 12) (w : Window) : (s.setWindow i w).alloc = s.alloc := rfl
@[simp] theorem State.setWindow_settlement (i : Fin 12) (w : Window) :
    (s.setWindow i w).settlement = s.settlement := rfl
@[simp] theorem State.setWindow_tariffs (i : Fin 12) (w : Window) : (s.setWindow i w).tariffs = s.tariffs := rfl
@[simp] theorem State.setWindow_clock (i : Fin 12) (w : Window) : (s.setWindow i w).clock = s.clock := rfl
@[simp] theorem State.setWindow_park (i : Fin 12) (w : Window) : (s.setWindow i w).park = s.park := rfl
@[simp] theorem State.setWindow_settings (i : Fin 12) (w : Window) : (s.setWindow i w).settings = s.settings := rfl
@[simp] theorem State.setWindow_pedestals (i : Fin 12) (w : Window) :
    (s.setWindow i w).pedestals = s.pedestals := rfl
@[simp] theorem State.setWindow_bus (i : Fin 12) (w : Window) : (s.setWindow i w).bus = s.bus := rfl
@[simp] theorem State.setWindow_line (i : Fin 12) (w : Window) : (s.setWindow i w).line = s.line := rfl
@[simp] theorem State.setWindow_conds (i : Fin 12) (w : Window) : (s.setWindow i w).conds = s.conds := rfl
@[simp] theorem State.setWindow_supply (i : Fin 12) (w : Window) : (s.setWindow i w).supply = s.supply := rfl
@[simp] theorem State.setWindow_pending (i : Fin 12) (w : Window) : (s.setWindow i w).pending = s.pending := rfl

/-! ## State.reach -/

@[simp] theorem State.reach_timebase (p : Point) : (s.reach p).timebase = max s.timebase p := rfl
@[simp] theorem State.reach_tickDue (p : Point) : (s.reach p).tickDue = s.tickDue := rfl
@[simp] theorem State.reach_records (p : Point) : (s.reach p).records = s.records := rfl
@[simp] theorem State.reach_windows (p : Point) : (s.reach p).windows = s.windows := rfl
@[simp] theorem State.reach_alloc (p : Point) : (s.reach p).alloc = s.alloc := rfl
@[simp] theorem State.reach_settlement (p : Point) : (s.reach p).settlement = s.settlement := rfl
@[simp] theorem State.reach_tariffs (p : Point) : (s.reach p).tariffs = s.tariffs := rfl
@[simp] theorem State.reach_clock (p : Point) : (s.reach p).clock = s.clock := rfl
@[simp] theorem State.reach_park (p : Point) : (s.reach p).park = s.park := rfl
@[simp] theorem State.reach_settings (p : Point) : (s.reach p).settings = s.settings := rfl
@[simp] theorem State.reach_pedestals (p : Point) : (s.reach p).pedestals = s.pedestals := rfl
@[simp] theorem State.reach_bus (p : Point) : (s.reach p).bus = s.bus := rfl
@[simp] theorem State.reach_line (p : Point) : (s.reach p).line = s.line := rfl
@[simp] theorem State.reach_conds (p : Point) : (s.reach p).conds = s.conds := rfl
@[simp] theorem State.reach_supply (p : Point) : (s.reach p).supply = s.supply := rfl
@[simp] theorem State.reach_pending (p : Point) : (s.reach p).pending = s.pending := rfl

/-! ## latchPed -/

@[simp] theorem latchPed_timebase (n : Ped) (k : PedKind) (d : CondData) :
    (latchPed n k d s).timebase = s.timebase := rfl
@[simp] theorem latchPed_tickDue (n : Ped) (k : PedKind) (d : CondData) :
    (latchPed n k d s).tickDue = s.tickDue := rfl
@[simp] theorem latchPed_records (n : Ped) (k : PedKind) (d : CondData) :
    (latchPed n k d s).records = s.records := rfl
@[simp] theorem latchPed_windows (n : Ped) (k : PedKind) (d : CondData) :
    (latchPed n k d s).windows = s.windows := rfl
@[simp] theorem latchPed_alloc (n : Ped) (k : PedKind) (d : CondData) : (latchPed n k d s).alloc = s.alloc := rfl
@[simp] theorem latchPed_settlement (n : Ped) (k : PedKind) (d : CondData) :
    (latchPed n k d s).settlement = s.settlement := rfl
@[simp] theorem latchPed_tariffs (n : Ped) (k : PedKind) (d : CondData) :
    (latchPed n k d s).tariffs = s.tariffs := rfl
@[simp] theorem latchPed_clock (n : Ped) (k : PedKind) (d : CondData) : (latchPed n k d s).clock = s.clock := rfl
@[simp] theorem latchPed_park (n : Ped) (k : PedKind) (d : CondData) : (latchPed n k d s).park = s.park := rfl
@[simp] theorem latchPed_settings (n : Ped) (k : PedKind) (d : CondData) :
    (latchPed n k d s).settings = s.settings := rfl
@[simp] theorem latchPed_pedestals (n : Ped) (k : PedKind) (d : CondData) :
    (latchPed n k d s).pedestals = s.pedestals := rfl
@[simp] theorem latchPed_bus (n : Ped) (k : PedKind) (d : CondData) : (latchPed n k d s).bus = s.bus := rfl
@[simp] theorem latchPed_line (n : Ped) (k : PedKind) (d : CondData) : (latchPed n k d s).line = s.line := rfl
@[simp] theorem latchPed_supply (n : Ped) (k : PedKind) (d : CondData) :
    (latchPed n k d s).supply = s.supply := rfl
@[simp] theorem latchPed_pending (n : Ped) (k : PedKind) (d : CondData) :
    (latchPed n k d s).pending = s.pending := rfl

/-! ## latchPark -/

@[simp] theorem latchPark_timebase (k : ParkKind) (d : CondData) : (latchPark k d s).timebase = s.timebase := rfl
@[simp] theorem latchPark_tickDue (k : ParkKind) (d : CondData) : (latchPark k d s).tickDue = s.tickDue := rfl
@[simp] theorem latchPark_records (k : ParkKind) (d : CondData) : (latchPark k d s).records = s.records := rfl
@[simp] theorem latchPark_windows (k : ParkKind) (d : CondData) : (latchPark k d s).windows = s.windows := rfl
@[simp] theorem latchPark_alloc (k : ParkKind) (d : CondData) : (latchPark k d s).alloc = s.alloc := rfl
@[simp] theorem latchPark_settlement (k : ParkKind) (d : CondData) :
    (latchPark k d s).settlement = s.settlement := rfl
@[simp] theorem latchPark_tariffs (k : ParkKind) (d : CondData) : (latchPark k d s).tariffs = s.tariffs := rfl
@[simp] theorem latchPark_clock (k : ParkKind) (d : CondData) : (latchPark k d s).clock = s.clock := rfl
@[simp] theorem latchPark_park (k : ParkKind) (d : CondData) : (latchPark k d s).park = s.park := rfl
@[simp] theorem latchPark_settings (k : ParkKind) (d : CondData) : (latchPark k d s).settings = s.settings := rfl
@[simp] theorem latchPark_pedestals (k : ParkKind) (d : CondData) :
    (latchPark k d s).pedestals = s.pedestals := rfl
@[simp] theorem latchPark_bus (k : ParkKind) (d : CondData) : (latchPark k d s).bus = s.bus := rfl
@[simp] theorem latchPark_line (k : ParkKind) (d : CondData) : (latchPark k d s).line = s.line := rfl
@[simp] theorem latchPark_supply (k : ParkKind) (d : CondData) : (latchPark k d s).supply = s.supply := rfl
@[simp] theorem latchPark_pending (k : ParkKind) (d : CondData) : (latchPark k d s).pending = s.pending := rfl

/-! ## startQuiet -/

@[simp] theorem startQuiet_timebase : (startQuiet s).timebase = s.timebase := rfl
@[simp] theorem startQuiet_tickDue : (startQuiet s).tickDue = s.tickDue := rfl
@[simp] theorem startQuiet_records : (startQuiet s).records = s.records := rfl
@[simp] theorem startQuiet_windows : (startQuiet s).windows = s.windows := rfl
@[simp] theorem startQuiet_alloc : (startQuiet s).alloc = s.alloc := rfl
@[simp] theorem startQuiet_settlement : (startQuiet s).settlement = s.settlement := rfl
@[simp] theorem startQuiet_tariffs : (startQuiet s).tariffs = s.tariffs := rfl
@[simp] theorem startQuiet_clock : (startQuiet s).clock = s.clock := rfl
@[simp] theorem startQuiet_park : (startQuiet s).park = s.park := rfl
@[simp] theorem startQuiet_settings : (startQuiet s).settings = s.settings := rfl
@[simp] theorem startQuiet_pedestals : (startQuiet s).pedestals = s.pedestals := rfl
@[simp] theorem startQuiet_line : (startQuiet s).line = s.line := rfl
@[simp] theorem startQuiet_conds : (startQuiet s).conds = s.conds := rfl
@[simp] theorem startQuiet_supply : (startQuiet s).supply = s.supply := rfl
@[simp] theorem startQuiet_pending : (startQuiet s).pending = s.pending := rfl

/-! ## reserveSlot -/

@[simp] theorem reserveSlot_timebase : (reserveSlot s).timebase = s.timebase := rfl
@[simp] theorem reserveSlot_tickDue : (reserveSlot s).tickDue = s.tickDue := rfl
@[simp] theorem reserveSlot_records : (reserveSlot s).records = s.records := rfl
@[simp] theorem reserveSlot_windows : (reserveSlot s).windows = s.windows := rfl
@[simp] theorem reserveSlot_alloc : (reserveSlot s).alloc = s.alloc := rfl
@[simp] theorem reserveSlot_tariffs : (reserveSlot s).tariffs = s.tariffs := rfl
@[simp] theorem reserveSlot_clock : (reserveSlot s).clock = s.clock := rfl
@[simp] theorem reserveSlot_park : (reserveSlot s).park = s.park := rfl
@[simp] theorem reserveSlot_settings : (reserveSlot s).settings = s.settings := rfl
@[simp] theorem reserveSlot_pedestals : (reserveSlot s).pedestals = s.pedestals := rfl
@[simp] theorem reserveSlot_bus : (reserveSlot s).bus = s.bus := rfl
@[simp] theorem reserveSlot_line : (reserveSlot s).line = s.line := rfl
@[simp] theorem reserveSlot_conds : (reserveSlot s).conds = s.conds := rfl
@[simp] theorem reserveSlot_supply : (reserveSlot s).supply = s.supply := rfl
@[simp] theorem reserveSlot_pending : (reserveSlot s).pending = s.pending := rfl

/-! ## releaseSlot -/

@[simp] theorem releaseSlot_timebase : (releaseSlot s).timebase = s.timebase := rfl
@[simp] theorem releaseSlot_tickDue : (releaseSlot s).tickDue = s.tickDue := rfl
@[simp] theorem releaseSlot_records : (releaseSlot s).records = s.records := rfl
@[simp] theorem releaseSlot_windows : (releaseSlot s).windows = s.windows := rfl
@[simp] theorem releaseSlot_alloc : (releaseSlot s).alloc = s.alloc := rfl
@[simp] theorem releaseSlot_tariffs : (releaseSlot s).tariffs = s.tariffs := rfl
@[simp] theorem releaseSlot_clock : (releaseSlot s).clock = s.clock := rfl
@[simp] theorem releaseSlot_park : (releaseSlot s).park = s.park := rfl
@[simp] theorem releaseSlot_settings : (releaseSlot s).settings = s.settings := rfl
@[simp] theorem releaseSlot_pedestals : (releaseSlot s).pedestals = s.pedestals := rfl
@[simp] theorem releaseSlot_bus : (releaseSlot s).bus = s.bus := rfl
@[simp] theorem releaseSlot_line : (releaseSlot s).line = s.line := rfl
@[simp] theorem releaseSlot_conds : (releaseSlot s).conds = s.conds := rfl
@[simp] theorem releaseSlot_supply : (releaseSlot s).supply = s.supply := rfl
@[simp] theorem releaseSlot_pending : (releaseSlot s).pending = s.pending := rfl

/-! ## countLineError -/

@[simp] theorem countLineError_timebase : (countLineError s).timebase = s.timebase := rfl
@[simp] theorem countLineError_tickDue : (countLineError s).tickDue = s.tickDue := rfl
@[simp] theorem countLineError_records : (countLineError s).records = s.records := rfl
@[simp] theorem countLineError_windows : (countLineError s).windows = s.windows := rfl
@[simp] theorem countLineError_alloc : (countLineError s).alloc = s.alloc := rfl
@[simp] theorem countLineError_settlement : (countLineError s).settlement = s.settlement := rfl
@[simp] theorem countLineError_tariffs : (countLineError s).tariffs = s.tariffs := rfl
@[simp] theorem countLineError_clock : (countLineError s).clock = s.clock := rfl
@[simp] theorem countLineError_park : (countLineError s).park = s.park := rfl
@[simp] theorem countLineError_settings : (countLineError s).settings = s.settings := rfl
@[simp] theorem countLineError_pedestals : (countLineError s).pedestals = s.pedestals := rfl
@[simp] theorem countLineError_bus : (countLineError s).bus = s.bus := rfl
@[simp] theorem countLineError_conds : (countLineError s).conds = s.conds := rfl
@[simp] theorem countLineError_supply : (countLineError s).supply = s.supply := rfl
@[simp] theorem countLineError_pending : (countLineError s).pending = s.pending := rfl

/-! ## Records and entries read after an update -/

theorem get_set_self {α : Type} {k : Nat} (v : Vector α k) (i : Fin k) (x : α) : (v.set i x).get i = x := by
  show (v.set i x)[i.val] = x
  simp

theorem get_set_ne {α : Type} {k : Nat} (v : Vector α k) {i j : Fin k} (h : j ≠ i) (x : α) :
    (v.set i x).get j = v.get j := by
  show (v.set i x)[j.val] = v[j.val]
  exact Vector.getElem_set_ne _ _ fun e => h (Fin.ext e.symm)

@[simp] theorem State.session_setSession_self (n : Ped) (r : Session) : (s.setSession n r).session n = r :=
  get_set_self _ _ _

theorem State.session_setSession_ne {m n : Ped} (h : m ≠ n) (r : Session) :
    (s.setSession n r).session m = s.session m := get_set_ne _ h _

@[simp] theorem State.entry_setEntry_self (n : Ped) (e : PedestalEntry) : (s.setEntry n e).entry n = e :=
  get_set_self _ _ _

theorem State.entry_setEntry_ne {m n : Ped} (h : m ≠ n) (e : PedestalEntry) :
    (s.setEntry n e).entry m = s.entry m := get_set_ne _ h _

@[simp] theorem State.withBus_session (b : Bus) (m : Ped) : (s.withBus b).session m = s.session m := rfl
@[simp] theorem State.withBus_entry (b : Bus) (m : Ped) : (s.withBus b).entry m = s.entry m := rfl
@[simp] theorem State.withLine_session (l : HostLine) (m : Ped) : (s.withLine l).session m = s.session m := rfl
@[simp] theorem State.withLine_entry (l : HostLine) (m : Ped) : (s.withLine l).entry m = s.entry m := rfl
@[simp] theorem State.withSupply_session (u : Supply) (m : Ped) : (s.withSupply u).session m = s.session m := rfl
@[simp] theorem State.withSupply_entry (u : Supply) (m : Ped) : (s.withSupply u).entry m = s.entry m := rfl
@[simp] theorem State.withSettlement_session (q : Settlement) (m : Ped) :
    (s.withSettlement q).session m = s.session m := rfl
@[simp] theorem State.withSettlement_entry (q : Settlement) (m : Ped) :
    (s.withSettlement q).entry m = s.entry m := rfl
@[simp] theorem State.withParser_session (p : Parser) (m : Ped) : (s.withParser p).session m = s.session m := rfl
@[simp] theorem State.withParser_entry (p : Parser) (m : Ped) : (s.withParser p).entry m = s.entry m := rfl
@[simp] theorem State.setSession_entry (n : Ped) (r : Session) (m : Ped) :
    (s.setSession n r).entry m = s.entry m := rfl
@[simp] theorem State.setEntry_session (n : Ped) (e : PedestalEntry) (m : Ped) :
    (s.setEntry n e).session m = s.session m := rfl
@[simp] theorem State.setAlloc_entry (n : Ped) (a : Alloc) (m : Ped) : (s.setAlloc n a).entry m = s.entry m := rfl
@[simp] theorem State.setHostCap_entry (n : Ped) (c : Option Nat) (m : Ped) :
    (s.setHostCap n c).entry m = s.entry m := rfl
@[simp] theorem State.setTariff_session (i : Fin 8) (t : Tariff) (m : Ped) :
    (s.setTariff i t).session m = s.session m := rfl
@[simp] theorem State.setTariff_entry (i : Fin 8) (t : Tariff) (m : Ped) :
    (s.setTariff i t).entry m = s.entry m := rfl
@[simp] theorem State.setWindow_session (i : Fin 12) (w : Window) (m : Ped) :
    (s.setWindow i w).session m = s.session m := rfl
@[simp] theorem State.setWindow_entry (i : Fin 12) (w : Window) (m : Ped) :
    (s.setWindow i w).entry m = s.entry m := rfl
@[simp] theorem State.reach_session (p : Point) (m : Ped) : (s.reach p).session m = s.session m := rfl
@[simp] theorem State.reach_entry (p : Point) (m : Ped) : (s.reach p).entry m = s.entry m := rfl
@[simp] theorem latchPed_session (n : Ped) (k : PedKind) (d : CondData) (m : Ped) :
    (latchPed n k d s).session m = s.session m := rfl
@[simp] theorem latchPed_entry (n : Ped) (k : PedKind) (d : CondData) (m : Ped) :
    (latchPed n k d s).entry m = s.entry m := rfl
@[simp] theorem latchPark_session (k : ParkKind) (d : CondData) (m : Ped) :
    (latchPark k d s).session m = s.session m := rfl
@[simp] theorem latchPark_entry (k : ParkKind) (d : CondData) (m : Ped) :
    (latchPark k d s).entry m = s.entry m := rfl
@[simp] theorem startQuiet_session (m : Ped) : (startQuiet s).session m = s.session m := rfl
@[simp] theorem startQuiet_entry (m : Ped) : (startQuiet s).entry m = s.entry m := rfl
@[simp] theorem reserveSlot_session (m : Ped) : (reserveSlot s).session m = s.session m := rfl
@[simp] theorem reserveSlot_entry (m : Ped) : (reserveSlot s).entry m = s.entry m := rfl
@[simp] theorem releaseSlot_session (m : Ped) : (releaseSlot s).session m = s.session m := rfl
@[simp] theorem releaseSlot_entry (m : Ped) : (releaseSlot s).entry m = s.entry m := rfl
@[simp] theorem countLineError_session (m : Ped) : (countLineError s).session m = s.session m := rfl
@[simp] theorem countLineError_entry (m : Ped) : (countLineError s).entry m = s.entry m := rfl

end Sys2Proof.Machine
end

