-- ==== Sys2Proof/Laws/Ops.lean ====
section
/-! SUPPORT. What each shared operation on records, entries and time can do, said once. -/

namespace Sys2Proof.Machine

variable {s : State}

theorem satAdd_le (limit a b : Nat) : satAdd limit a b ≤ limit := Nat.min_le_left _ _

theorem satAdd_of_le {limit a b : Nat} (h : a + b ≤ limit) : satAdd limit a b = a + b := Nat.min_eq_right h

/-- Every pedestal occurs in `Ped.all`. -/
@[simp] theorem mem_all (n : Ped) : n ∈ Ped.all := List.mem_finRange n

/-- A pedestal number byte in 1..16 names that pedestal. -/
theorem pedestalOf_number (n : Ped) : pedestalOf n.number = some n := by
  revert n
  decide

/-- Something that holds before sixteen updates and is kept by each holds after them. -/
theorem forPedestals_induction {P : State → Prop} {f : Ped → State → State} (h : P s)
    (step : ∀ n s, P s → P (f n s)) : P (forPedestals f s) := by
  unfold forPedestals
  generalize Ped.all = ns
  induction ns generalizing s with
  | nil => exact h
  | cons n ns ih => exact ih (step n s h)

/-- A projection that no single update changes is unchanged by sixteen. -/
theorem forPedestals_frame {α : Type} {proj : State → α} {f : Ped → State → State}
    (h : ∀ n s, proj (f n s) = proj s) : proj (forPedestals f s) = proj s :=
  forPedestals_induction (P := fun t => proj t = proj s) rfl fun n t e => (h n t).trans e

/-! ## Pace and quiet timer (R151) -/

/-- `paceFast` changes the pace and, at most, the next cycle start. -/
theorem paceFast_eq (s : State) :
    ∃ p, paceFast s = s.withBus { s.bus with pace := .fast, nextCycle := p } ∧ (p = s.timebase ∨ p = s.bus.nextCycle) := by
  unfold paceFast
  split
  · exact ⟨_, rfl, .inl rfl⟩
  · exact ⟨_, rfl, .inr rfl⟩

/-- `quietActivity` does nothing, or makes the pace FAST and starts the quiet timer. -/
theorem quietActivity_cases (s : State) :
    (s.allFree = false ∧ quietActivity s = s) ∨ (s.allFree = true ∧ quietActivity s = startQuiet (paceFast s)) := by
  unfold quietActivity
  cases s.allFree <;> simp

/-- `putSession` writes the record and touches nothing else but the bus's pace, quiet timer and next cycle start. -/
theorem putSession_eq (n : Ped) (r : Session) (s : State) :
    ∃ pace timer start, putSession n r s =
      (s.setSession n r).withBus { s.bus with pace := pace, quietTimer := timer, nextCycle := start } := by
  unfold putSession
  simp only []
  split
  · unfold paceFast
    split
    · exact ⟨_, _, _, rfl⟩
    · exact ⟨_, _, _, rfl⟩
  · split
    · exact ⟨_, _, _, rfl⟩
    · exact ⟨_, _, _, rfl⟩

@[simp] theorem putSession_session_self (n : Ped) (r : Session) : (putSession n r s).session n = r := by
  obtain ⟨p, q, t, h⟩ := putSession_eq n r s
  simp [h]

theorem putSession_session_ne {m n : Ped} (hm : m ≠ n) (r : Session) :
    (putSession n r s).session m = s.session m := by
  obtain ⟨p, q, t, h⟩ := putSession_eq n r s
  simp [h, State.session_setSession_ne s hm]

@[simp] theorem putSession_entry (n m : Ped) (r : Session) : (putSession n r s).entry m = s.entry m := by
  obtain ⟨p, q, t, h⟩ := putSession_eq n r s
  simp [h]

/-- The fields that `putSession` leaves as they are. -/
theorem putSession_frame (n : Ped) (r : Session) (s : State) :
    let t := putSession n r s
    t.timebase = s.timebase ∧ t.tickDue = s.tickDue ∧ t.windows = s.windows ∧ t.alloc = s.alloc
      ∧ t.settlement = s.settlement ∧ t.tariffs = s.tariffs ∧ t.clock = s.clock ∧ t.park = s.park
      ∧ t.settings = s.settings ∧ t.pedestals = s.pedestals ∧ t.line = s.line ∧ t.conds = s.conds
      ∧ t.supply = s.supply ∧ t.pending = s.pending := by
  obtain ⟨p, q, u, h⟩ := putSession_eq n r s
  simp [h]

/-! ## Refusals (R10) -/

/-- A refusal latches TOKEN-REFUSED and sets the refusal display, and does nothing else. -/
theorem refuseToken_eq (n : Ped) (reason : Byte) (s : State) :
    refuseToken n reason s = (latchPed n .tokenRefused (.reason reason) s).setSession n
      { s.session n with refusal := some ⟨reason, s.timebase + 5000⟩ } := rfl

end Sys2Proof.Machine
end

