-- ==== Sys2Proof/Laws/Session.lean ====
section
/-! SUPPORT. What the operations of the session life cycle do to the record, the slot count and the queue, said once each. -/

namespace Sys2Proof.Machine

variable {s : State}

/-! ## Slots and joins (R116 to R118) -/

theorem reserveSlot_settlement (s : State) :
    (reserveSlot s).settlement =
      { s.settlement with reserved := s.settlement.reserved + 1, counter := numberAfter s.nextNumber } := rfl

theorem releaseSlot_settlement (s : State) :
    (releaseSlot s).settlement = { s.settlement with reserved := s.settlement.reserved - 1 } := rfl

/-- A join appends the record and gives up its slot; beyond the queue it can only latch QUEUE-HIGH. -/
theorem joinQueue_eq (record : SettlementRecord) (s : State) :
    let t := s.withSettlement { s.settlement with
      queue := s.settlement.queue ++ [record], reserved := s.settlement.reserved - 1 }
    joinQueue record s = t ∨ joinQueue record s = latchPark .queueHigh .none t := by
  unfold joinQueue
  simp only []
  split
  · exact .inr rfl
  · exact .inl rfl

@[simp] theorem joinQueue_settlement (record : SettlementRecord) :
    (joinQueue record s).settlement =
      { s.settlement with queue := s.settlement.queue ++ [record], reserved := s.settlement.reserved - 1 } := by
  rcases joinQueue_eq record s with h | h <;> rw [h] <;> rfl

@[simp] theorem joinQueue_session (record : SettlementRecord) (m : Ped) :
    (joinQueue record s).session m = s.session m := by
  rcases joinQueue_eq record s with h | h <;> rw [h] <;> rfl

@[simp] theorem joinQueue_entry (record : SettlementRecord) (m : Ped) :
    (joinQueue record s).entry m = s.entry m := by
  rcases joinQueue_eq record s with h | h <;> rw [h] <;> rfl

@[simp] theorem joinQueue_pending (record : SettlementRecord) : (joinQueue record s).pending = s.pending := by
  rcases joinQueue_eq record s with h | h <;> rw [h] <;> rfl

/-! ## Cancel (R13) -/

/-- A cancel leaves the record FREE or PLUGGED with the refusal display of the reason. -/
theorem cancelSession_session_self (n : Ped) (reason : Byte) (s : State) :
    (cancelSession n reason s).session n =
      { (s.session n).toCancelled with refusal := some ⟨reason, s.timebase + 5000⟩ } := by
  obtain ⟨p, q, u, h⟩ := putSession_eq n ((releaseSlot s).session n).toCancelled (releaseSlot s)
  simp only [cancelSession]
  rw [h]
  simp [refuseToken_eq]

theorem cancelSession_session_ne {m n : Ped} (h : m ≠ n) (reason : Byte) :
    (cancelSession n reason s).session m = s.session m := by
  simp [cancelSession, refuseToken_eq, State.session_setSession_ne _ h, putSession_session_ne h]

/-- A cancel releases the slot and leaves the queue and the counter. -/
theorem cancelSession_settlement (n : Ped) (reason : Byte) (s : State) :
    (cancelSession n reason s).settlement = { s.settlement with reserved := s.settlement.reserved - 1 } := by
  obtain ⟨p, q, u, h⟩ := putSession_eq n ((releaseSlot s).session n).toCancelled (releaseSlot s)
  simp only [cancelSession]
  rw [h]
  simp [refuseToken_eq, releaseSlot_settlement]

/-! ## Close (R26, R118) -/

/-- The record that a closing session hands to the queue: the end reason it has, or else the one given. -/
def closingRecord (n : Ped) (why : EndReason) (s : State) : Option SettlementRecord :=
  match (s.session n).opening, (s.session n).grant with
  | some o, some g =>
    let reason := (s.session n).endReason.getD why
    some (buildRecord n { s.session n with endReason := some reason } o g reason s)
  | _, _ => none

/-- A close by its parts: the join, the latch and the record's new contents. -/
theorem closeSession_eq (n : Ped) (why : EndReason) (s : State) :
    closeSession n why s =
      putSession n (Session.toClosed { s.session n with endReason := some ((s.session n).endReason.getD why) })
        (latchPed n .sessionClosed .none
          (match closingRecord n why s with
           | some r => joinQueue r s
           | none => s)) := by
  unfold closeSession closingRecord
  rcases ho : (s.session n).opening with _ | o <;> rcases hg : (s.session n).grant with _ | g <;> simp [ho, hg]

theorem closeSession_session_self (n : Ped) (why : EndReason) (s : State) :
    (closeSession n why s).session n =
      Session.toClosed { s.session n with endReason := some ((s.session n).endReason.getD why) } := by
  rw [closeSession_eq]; simp

theorem closeSession_session_ne {m n : Ped} (h : m ≠ n) (why : EndReason) :
    (closeSession n why s).session m = s.session m := by
  rw [closeSession_eq, putSession_session_ne h, latchPed_session]
  cases closingRecord n why s <;> simp

/-- A close with an opening and a grant turns its slot into one record at the newest end of the queue. -/
theorem closeSession_settlement {n : Ped} {why : EndReason} {r : SettlementRecord}
    (h : closingRecord n why s = some r) :
    (closeSession n why s).settlement =
      { s.settlement with queue := s.settlement.queue ++ [r], reserved := s.settlement.reserved - 1 } := by
  rw [closeSession_eq, h]
  have hf := putSession_frame n (Session.toClosed { s.session n with endReason := some ((s.session n).endReason.getD why) })
    (latchPed n .sessionClosed .none (joinQueue r s))
  rw [hf.2.2.2.2.1]
  simp

/-- The record after a close is not open. -/
theorem closeSession_not_open (n : Ped) (why : EndReason) (s : State) :
    ((closeSession n why s).session n).state.isOpen = false := by
  rw [closeSession_session_self]
  unfold Session.toClosed
  split <;> rfl

/-! ## The probe sequence (R163, R166) -/

/-- Starting an attempt changes the record alone, and in it the three items of the probe sequence. -/
theorem startAttempt_eq (n : Ped) (s : State) :
    startAttempt n s = s.setSession n { s.session n with
      probeAttempts := (s.session n).probeAttempts + 1, probeSend := true, probeDeadline := some (s.timebase + 5000) } :=
  rfl

end Sys2Proof.Machine
end

