-- ==== Sys2Proof/Laws/Records.lean ====
section
/-! SUPPORT. Everything that a new record, a cancel, a close, a halt and the pace can do to the state, said
once each. -/

namespace Sys2Proof.Machine

/-! ## Vectors -/

/-- A second write of a place replaces the first. -/
theorem vector_set_set {α} {k} (v : Vector α k) (i : Fin k) (x y : α) : (v.set i x).set i y = v.set i y := by
  ext1 j hj; simp [Vector.getElem_set]

/-- Writing back what a place holds changes nothing. -/
theorem vector_set_get {α} {k} (v : Vector α k) (i : Fin k) : v.set i (v.get i) = v := by
  ext1 j hj; simp [Vector.get]

/-! ## All records at once -/

/-- `allFree` says that every record is FREE. -/
theorem State.allFree_iff (s : State) : s.allFree = true ↔ ∀ n, (s.session n).state = .free := by
  unfold State.allFree
  rw [List.all_eq_true]
  constructor
  · intro h n
    have := h (s.session n) (by simp [State.session, Vector.get])
    simpa using this
  · intro h r hr
    obtain ⟨j, hj, rfl⟩ := List.getElem_of_mem hr
    have := h ⟨j, by simpa using hj⟩
    simpa [State.session, Vector.get] using this

/-- `anyOpen` says that some record is in an open state. -/
theorem State.anyOpen_iff (s : State) : s.anyOpen = true ↔ ∃ n, (s.session n).state.isOpen = true := by
  unfold State.anyOpen
  rw [List.any_eq_true]
  constructor
  · rintro ⟨r, hr, ho⟩
    obtain ⟨j, hj, rfl⟩ := List.getElem_of_mem hr
    exact ⟨⟨j, by simpa using hj⟩, by simpa [State.session, Vector.get] using ho⟩
  · rintro ⟨n, hn⟩
    exact ⟨s.session n, by simp [State.session, Vector.get], hn⟩

/-- Several updates of one entry each, at different pedestals. -/
theorem foldl_setEntry (f : PedestalEntry → PedestalEntry) : ∀ (l : List Ped) (s : State), l.Nodup →
    (l.foldl (fun s n => s.setEntry n (f (s.entry n))) s) =
      { s with pedestals := Vector.ofFn fun m => if m ∈ l then f (s.entry m) else s.entry m } := by
  intro l
  induction l with
  | nil =>
    intro s _
    simp only [List.foldl_nil, List.not_mem_nil, if_false]
    have : (Vector.ofFn fun m => s.entry m) = s.pedestals := by
      ext i hi; simp [State.entry, Vector.get]
    rw [this]
  | cons a l ih =>
    intro s hn
    rw [List.nodup_cons] at hn
    rw [List.foldl_cons, ih _ hn.2]
    have : (fun m : Ped => if m ∈ l then f ((State.setEntry a (f (s.entry a)) s).entry m)
        else (State.setEntry a (f (s.entry a)) s).entry m)
       = (fun m : Ped => if m ∈ a :: l then f (s.entry m) else s.entry m) := by
      funext m
      by_cases ha : m = a
      · subst ha; simp [hn.1]
      · simp [ha, State.entry_setEntry_ne _ ha]
    rw [this]; rfl

/-- One update of every entry of the pedestal table. -/
theorem forPedestals_setEntry (f : PedestalEntry → PedestalEntry) (s : State) :
    forPedestals (fun n s => s.setEntry n (f (s.entry n))) s = { s with pedestals := s.pedestals.map f } := by
  unfold forPedestals
  refine (foldl_setEntry f _ _ (List.nodup_finRange 16)).trans ?_
  congr 1
  ext1 i hi
  simp [State.entry, Vector.get]

/-! ## A record's new contents (R151) -/

/-- A record that neither leaves nor enters FREE: nothing but the record changes. -/
theorem putSession_plain (n : Ped) (r : Session) (s : State) (h1 : (s.session n).state ≠ .free)
    (h2 : r.state ≠ .free) :
    putSession n r s = { s with records := s.records.set n r } := by
  simp [putSession, h1, h2, State.setSession]

/-- A record that enters FREE: the quiet timer starts if it is the last. -/
theorem putSession_toFree (n : Ped) (r : Session) (s : State) (h1 : (s.session n).state ≠ .free)
    (h2 : r.state = .free) :
    putSession n r s =
      if (∀ m, m ≠ n → (s.session m).state = .free) then { s with records := s.records.set n r, bus := s.quietBus }
      else { s with records := s.records.set n r } := by
  have : (s.setSession n r).allFree = true ↔ (∀ m, m ≠ n → (s.session m).state = .free) := by
    rw [State.allFree_iff]
    constructor
    · intro h m hm; have := h m; rwa [State.session_setSession_ne _ hm] at this
    · intro h m
      by_cases hm : m = n
      · subst hm; rw [State.session_setSession_self]; exact h2
      · rw [State.session_setSession_ne _ hm]; exact h m hm
  unfold putSession
  simp only [h2]
  simp only [ne_eq, beq_self_eq_true, Bool.and_true, bne_self_eq_false, Bool.and_false, Bool.false_eq_true, if_false]
  by_cases hc : (∀ m, m ≠ n → (s.session m).state = .free)
  · rw [if_pos hc]
    have h3 := this.2 hc
    have h4 : ((s.session n).state != .free) = true := by simpa using h1
    rw [if_pos (by rw [h3, h4]; rfl)]
    simp [startQuiet, State.quietBus, State.setSession, State.after]
  · rw [if_neg hc]
    have h3 : (s.setSession n r).allFree = false := by rw [← Bool.not_eq_true, this]; exact hc
    rw [h3]; simp [State.setSession]

/-- A record that leaves FREE: the pace becomes FAST and the quiet timer stops. -/
theorem putSession_leavingFree (n : Ped) (r : Session) (s : State) (h1 : (s.session n).state = .free)
    (h2 : r.state ≠ .free) :
    putSession n r s = { s with records := s.records.set n r, bus := s.wokenBus } := by
  simp only [putSession, h1, State.setSession]
  simp [paceFast, State.wokenBus, h2]
  split <;> simp_all

/-- New contents of a record change that record and the bus. -/
theorem putSession_records (n : Ped) (r : Session) (s : State) :
    ∃ b, putSession n r s = { s with records := s.records.set n r, bus := b } := by
  obtain ⟨p, q, t, h⟩ := putSession_eq n r s
  exact ⟨_, h⟩

/-- A plug-in, a token or a contended alert slot: activity counts while every record is FREE. -/
theorem quietActivity_eq (s : State) : quietActivity s = if ∀ n, (s.session n).state = .free then { s with
          bus := { s.wokenBus with quietTimer := some (s.timebase + 1000 * s.settings.quietTime) } } else s := by
  unfold quietActivity
  by_cases h : ∀ n, (s.session n).state = .free
  · rw [if_pos h, if_pos ((State.allFree_iff s).2 h)]
    unfold paceFast startQuiet State.wokenBus State.after
    split <;> rfl
  · rw [if_neg h, if_neg (by rwa [State.allFree_iff])]

/-! ## Cancel, close and halt (R13, R26, R189) -/

/-- What a cancel can touch. -/
theorem cancelSession_frame (n : Ped) (b : Byte) (s : State) :
    ∃ bus recs conds se, cancelSession n b s =
      { s with bus := bus, records := recs, conds := conds, settlement := se } := by
  unfold cancelSession
  obtain ⟨x, h⟩ := putSession_records n (State.session (releaseSlot s) n).toCancelled (releaseSlot s)
  simp only [h]
  exact ⟨_, _, _, _, rfl⟩

/-- What a close can touch. -/
theorem closeSession_frame (n : Ped) (b : EndReason) (s : State) :
    ∃ bus recs conds se, closeSession n b s =
      { s with bus := bus, records := recs, conds := conds, settlement := se } := by
  rw [closeSession_eq]
  generalize Session.toClosed _ = r
  cases closingRecord n b s with
  | none =>
    obtain ⟨x, h⟩ := putSession_records n r (latchPed n .sessionClosed .none s)
    simp only []; rw [h]
    exact ⟨_, _, _, _, rfl⟩
  | some q =>
    obtain ⟨x, h⟩ := putSession_records n r (latchPed n .sessionClosed .none (joinQueue q s))
    simp only []; rw [h]
    rcases joinQueue_eq q s with e | e <;> simp only [e] <;> exact ⟨_, _, _, _, rfl⟩

/-- What a halt of one session can touch. -/
theorem haltSession_frame (n : Ped) (b : EndReason) (s : State) :
    ∃ bus recs conds se, haltSession b n s =
      { s with bus := bus, records := recs, conds := conds, settlement := se } := by
  unfold haltSession
  split
  · exact cancelSession_frame _ _ _
  all_goals first | exact closeSession_frame _ _ _ | exact ⟨_, _, _, _, rfl⟩

/-- A close keeps the end reason that the session has. -/
theorem closeSession_reason (n : Ped) (a b : EndReason) (s : State) (h : (s.session n).endReason = some a) :
    closeSession n b s = closeSession n a s := by
  unfold closeSession; simp only [h]; rfl

/-! ## The meter of a reply (R55, R153) -/

/-- Outside the energy-flow states a reply's count becomes the baseline and nothing is accrued. -/
theorem meterSteps_outsideFlow (n : Ped) (c : Nat) (s : State) (h : (s.session n).state.energyFlow = false) :
    meterSteps n c s =
      { s with
        pedestals := s.pedestals.set n ((s.entry n).metered c)
        records := s.records.set n { s.session n with baseline := c } } := by
  have : meterSteps n c s = meterReply n c (s.setEntry n ((s.entry n).metered c)) := rfl
  rw [this]
  unfold meterReply
  have h4 : ((s.setEntry n ((s.entry n).metered c)).session n).state.energyFlow = false := h
  simp only [h4]; rfl

/-- The pedestal table after the meter steps of a reply. -/
theorem meterSteps_entry (n : Ped) (c : Nat) (s : State) (m) :
    (meterSteps n c s).entry m = if m = n then (s.entry n).metered c else s.entry m := by
  have : (meterSteps n c s).entry m = (s.setEntry n { s.entry n with misses := 0, lastMeter := c }).entry m := by
    unfold meterSteps meterReply
    simp only []
    split
    · split <;> simp
    · simp
  rw [this]
  by_cases h : m = n
  · subst h; simp [PedestalEntry.metered]
  · simp [h, State.entry_setEntry_ne _ h]

end Sys2Proof.Machine
end

