-- ==== Sys2Proof/Laws/Bus.lean ====
section
/-! SUPPORT. What the shared operations of the pedestal bus can do: commands, turns, the contention field and
the steps of a steady reply. -/

namespace Sys2Proof.Machine

/-! ## Commands and turns (R150, R152, R160) -/

/-- A command sent, by its parts. -/
theorem sendCommand_eq (n : Ped) (b : Bool) (s : State) : sendCommand n b s = s.commanded n b := by
  unfold sendCommand State.commanded
  have : (formCommand n s).command = commandOf (s.session n) := rfl
  simp only [this, State.withBus]
  by_cases h : (s.session n).state = .probing
  · have hcm : commandOf (s.session n) = if (s.session n).probeSend then .probe else .none := by simp only [commandOf, h]
    rw [hcm, if_pos h]
    by_cases hp : (s.session n).probeSend = true
    · rw [if_pos (by rw [if_pos hp])]; rfl
    · rw [if_neg (by rw [if_neg hp]; simp)]
      have : s.records = s.records.set n { s.session n with probeSend := false } := by
        have he : ({ s.session n with probeSend := false } : Session) = s.session n := by
          have hp' : (s.session n).probeSend = false := by simpa using hp
          have : ∀ r : Session, r.probeSend = false → ({ r with probeSend := false } : Session) = r := by rintro ⟨⟩ h; cases h; rfl
          exact this _ hp'
        rw [he]; exact (vector_set_get _ _).symm
      rw [← this]
  · have hc : commandOf (s.session n) ≠ .probe := by
      unfold commandOf; cases hs : (s.session n).state <;> simp_all
    rw [if_neg hc, if_neg h]

/-- The next turn falls to the first enrolled pedestal. -/
theorem nextTurn_enrolled (s : State) (first : Nat) (n : Ped) (h : s.NextTurn first n) (l : List Ped)
    (hl : l = Ped.all.filter fun m => decide (first ≤ m.val)) :
    nextTurn l s = s.commanded n false := by
  subst hl
  have : (Ped.all.filter fun m : Ped => decide (first ≤ m.val)).find? (fun n => (s.entry n).enrolled) = some n := by
    rw [List.find?_filter]
    unfold Ped.all
    rw [List.find?_eq_some_iff_getElem]
    refine ⟨by simp [h.1, h.2.1], n.val, by simp, by simp, ?_⟩
    intro j hj
    simp
    by_cases hf : first ≤ j
    · exact .inr (h.2.2 ⟨j, by omega⟩ hf hj)
    · exact .inl (by omega)
  unfold nextTurn; rw [this]; simp only [sendCommand_eq]

/-- With no enrolled pedestal left the alert slot opens. -/
theorem nextTurn_none (s : State) (l : List Ped) (h : ∀ m ∈ l, (s.entry m).enrolled = false) :
    nextTurn l s = { s with bus := { s.bus with phase := .alertSlot } } := by
  unfold nextTurn
  rw [List.find?_eq_none.2 (by intro x hx; simp [h x hx])]
  rfl

/-- A stop of all pedestals, sent at once or owed. -/
theorem requestStopAll_eq (s : State) : requestStopAll s = { s with bus := s.bus.askedToStop } := by
  unfold requestStopAll Bus.askedToStop sendStopAll State.withBus
  rcases h : s.bus.phase <;> simp [h]

/-! ## The contention field (R158) -/

/-- Bit by bit from the top, the field is the least address among the contenders. -/
theorem contention_least (k : Nat) :
    ∀ (l : List BusAddress) (a : BusAddress),
      a ∈ l → (∀ c ∈ l, a.toNat % 2^k ≤ c.toNat % 2^k) → contention k l = a.toNat % 2^k := by
  induction k with
  | zero => intro l a _ _; simp [contention, Nat.mod_one]
  | succ k ih =>
    intro l a ha hmin
    have hmod : ∀ x : Nat, x % 2^(k+1) = x % 2^k + 2^k * (x / 2^k % 2) := by
      intro x; rw [pow_succ, Nat.mod_mul]
    have hbit : ∀ c : BusAddress, c.getLsbD k = decide (c.toNat / 2^k % 2 = 1) := by
      intro c; rw [BitVec.getLsbD, Nat.testBit_eq_decide_div_mod_eq]
    have hlt : ∀ x : Nat, x % 2^k < 2^k := fun x => Nat.mod_lt _ (by positivity)
    unfold contention
    by_cases hall : (l.all fun a => a.getLsbD k) = true
    · rw [if_pos hall]
      rw [List.all_eq_true] at hall
      have h1 : ∀ c ∈ l, c.toNat / 2^k % 2 = 1 := by intro c hc; have := hall c hc; rw [hbit] at this; simpa using this
      rw [ih l a ha, hmod, h1 a ha]; omega
      intro c hc; have := hmin c hc; rw [hmod, hmod c.toNat, h1 a ha, h1 c hc] at this; omega
    · rw [if_neg hall]
      have h0 : a.toNat / 2^k % 2 = 0 := by
        by_contra hne
        have h1 : a.toNat / 2^k % 2 = 1 := by omega
        apply hall
        rw [List.all_eq_true]
        intro c hc
        rw [hbit]
        have := hmin c hc; rw [hmod, hmod c.toNat, h1] at this
        have h3 := hlt c.toNat
        by_contra h4
        have h5 : c.toNat / 2^k % 2 = 0 := by simp at h4; omega
        rw [h5] at this; omega
      rw [ih _ a, hmod, h0]; omega
      · rw [List.mem_filter]; refine ⟨ha, ?_⟩; rw [hbit, h0]; rfl
      · intro c hc
        rw [List.mem_filter] at hc
        have h5 : c.toNat / 2^k % 2 = 0 := by have := hc.2; rw [hbit] at this; simp at this; omega
        have := hmin c hc.1; rw [hmod, hmod c.toNat, h0, h5] at this; omega

/-! ## The steps of a steady reply (R5, R153) -/

/-- A reply of an ONLINE pedestal with the plug as it was leaves the table entry. -/
theorem linkSteps_steady (n : Ped) (p : Bool) (s : State) (h : (s.entry n).link = .online) (hp :
    (s.entry n).lastPlug = some p) :
    linkSteps n p s = s := by
  unfold linkSteps
  simp only [h, reduceCtorEq, if_false]
  have : ({ s.entry n with lastPlug := some p, link := .online } : PedestalEntry) = s.entry n := by
    rw [← hp, ← h]
  rw [this]
  simp [State.setEntry, State.entry, vector_set_get]

/-- An empty fault set and no e-stop to release: no fault step acts. -/
theorem faultSteps_none (n : Ped) (x : StatusReply) (s : State) (h : x.faults = 0) (he : (s.entry n).estop = false) :
    sessionFaults n x (tableFaults n x s) = s := by
  have h1 : x.estop = false := by simp [StatusReply.estop, h]
  have h2 : x.overtemp = false := by simp [StatusReply.overtemp, h]
  have h3 : x.isolation = false := by simp [StatusReply.isolation, h]
  have h4 : x.converter = false := by simp [StatusReply.converter, h]
  have : tableFaults n x s = s := by
    unfold tableFaults
    have : (s.entry n).applyFaults x = s.entry n := by
      simp only [PedestalEntry.applyFaults, h1, h3, Bool.or_false, he, Bool.false_and]
      rw [← he]
    simp only [this, h1, h3]
    simp [State.setEntry, State.entry, vector_set_get]
  rw [this]
  simp [sessionFaults, h1, h2, h4]

end Sys2Proof.Machine
end

