-- ==== Sys2Proof/Laws/Bytes.lean ====
section
/-! SUPPORT. The byte order: lengths, and numbers read back from the bytes that spell them. -/

namespace Sys2Proof.Machine

@[simp] theorem length_bytesOf (size v : Nat) : (bytesOf size v).length = size := by
  induction size generalizing v with
  | zero => rfl
  | succ k ih => simp [bytesOf, ih]

theorem natOf_append_byte (bytes : List Byte) (b : Byte) : natOf (bytes ++ [b]) = natOf bytes * 256 + b.toNat := by
  simp [natOf]

theorem natOf_bytesOf_mod (size v : Nat) : natOf (bytesOf size v) = v % 256 ^ size := by
  induction size generalizing v with
  | zero => simp [bytesOf, natOf, Nat.mod_one]
  | succ k ih =>
    rw [bytesOf, natOf_append_byte, ih, pow_succ', Nat.mod_mul, BitVec.toNat_ofNat, show 2 ^ 8 = 256 from rfl]
    ring

/-- A number that fits its field is read back from the bytes that spell it. -/
theorem natOf_bytesOf {size v : Nat} (h : v < 256 ^ size) : natOf (bytesOf size v) = v := by
  rw [natOf_bytesOf_mod, Nat.mod_eq_of_lt h]

theorem natOf_lt (bytes : List Byte) : natOf bytes < 256 ^ bytes.length := by
  induction bytes using List.reverseRecOn with
  | nil => simp [natOf]
  | append_singleton bs b ih =>
    have hb : b.toNat < 256 := b.isLt
    rw [natOf_append_byte, List.length_append, List.length_singleton, pow_succ]
    omega

/-- Bytes are spelled again from the number that they spell. -/
theorem bytesOf_natOf (bytes : List Byte) : bytesOf bytes.length (natOf bytes) = bytes := by
  induction bytes using List.reverseRecOn with
  | nil => rfl
  | append_singleton bs b ih =>
    have hb : b.toNat < 256 := b.isLt
    have hd : (natOf bs * 256 + b.toNat) / 256 = natOf bs := by omega
    have hm : BitVec.ofNat 8 (natOf bs * 256 + b.toNat) = b := by
      apply BitVec.eq_of_toNat_eq
      simp [hb]
    rw [List.length_append, List.length_singleton, bytesOf, natOf_append_byte, hd, ih, hm]

/-- A field of `size` bytes is below 256 to the `size`. -/
theorem fieldAt_lt (body : List Byte) (off size : Nat) : fieldAt body off size < 256 ^ size :=
  lt_of_lt_of_le (natOf_lt _) (Nat.pow_le_pow_right (by norm_num) (List.length_take_le _ _))

/-- A field that stands after `pre` and before `post` is read back. -/
theorem fieldAt_append {pre post : List Byte} {off size v : Nat} (ho : pre.length = off) (hv : v < 256 ^ size) :
    fieldAt (pre ++ (bytesOf size v ++ post)) off size = v := by
  subst ho
  simp [fieldAt, natOf_bytesOf hv]

@[simp] theorem length_crcBytes (bytes : List Byte) : (crcBytes bytes).length = 2 := length_bytesOf _ _

end Sys2Proof.Machine
end

