-- ==== Sys2Proof/Laws/Conditions.lean ====
section
/-! SUPPORT. The bits and the data of listed condition flags (section 12.2), and the bytes of a settlement record: the model's
recursive walks against the forms in which the statements spell them out. -/

namespace Sys2Proof.Machine

/-! ## Listed flags -/

/-- The bits of a walk that begins at bit `k`, each listed flag giving the bit of its place. -/
theorem testBit_bitsWhere (test : Nat → Latched → Bool) (flags : List (Option Latched)) :
    ∀ k i : Nat, (bitsWhere test k flags).testBit i = true ↔
      ∃ l, k ≤ i ∧ flags[i - k]? = some (some l) ∧ test i l = true := by
  have high : ∀ (flags : List (Option Latched)) (k : Nat), bitsWhere test k flags % 2 ^ k = 0 := by
    intro flags
    induction flags with
    | nil => intro k; simp [bitsWhere]
    | cons f fs ih =>
      intro k
      have h2 : bitsWhere test (k + 1) fs % 2 ^ k = 0 := by
        have := ih (k + 1)
        exact Nat.mod_eq_zero_of_dvd ((pow_dvd_pow 2 (Nat.le_succ k)).trans (Nat.dvd_of_mod_eq_zero this))
      cases f with
      | none => exact h2
      | some l =>
        simp only [bitsWhere]
        split
        · rw [Nat.add_mod, h2]; simp
        · simpa using h2
  induction flags with
  | nil => intro k i; simp [bitsWhere]
  | cons f fs ih =>
    intro k i
    have tail : (∃ l, k + 1 ≤ i ∧ fs[i - (k + 1)]? = some (some l) ∧ test i l = true) ↔
        ∃ l, k < i ∧ (f :: fs)[i - k]? = some (some l) ∧ test i l = true := by
      refine exists_congr fun l => and_congr_right fun h => ?_
      rw [show i - k = (i - (k + 1)) + 1 by omega, List.getElem?_cons_succ]
    have here : (∃ l, k ≤ i ∧ (f :: fs)[i - k]? = some (some l) ∧ test i l = true) ↔
        (∃ l, k < i ∧ (f :: fs)[i - k]? = some (some l) ∧ test i l = true) ∨ (i = k ∧ ∃ l, f = some l ∧ test k l = true) := by
      rcases lt_trichotomy i k with h | rfl | h
      · exact ⟨fun ⟨l, h1, _⟩ => by omega, fun h' => by rcases h' with ⟨l, h1, _⟩ | ⟨h1, _⟩ <;> omega⟩
      · simp
      · simp only [h.le, h, true_and, show i ≠ k by omega, false_and, or_false]
    rw [here, ← tail, ← ih (k + 1) i]
    cases f with
    | none => simp [bitsWhere]
    | some l =>
      simp only [bitsWhere, Option.some.injEq, exists_eq_left']
      by_cases ht : test k l = true
      · rw [if_pos ht]
        have h0 : (bitsWhere test (k + 1) fs).testBit k = false := by
          rw [Nat.testBit_eq_decide_div_mod_eq]
          have := high fs (k + 1)
          obtain ⟨c, hc⟩ := Nat.dvd_of_mod_eq_zero this
          rw [hc, pow_succ, show 2 ^ k * 2 * c = 2 ^ k * (2 * c) by ring, Nat.mul_div_cancel_left _ (by positivity)]
          simp
        have : 2 ^ k + bitsWhere test (k + 1) fs = 2 ^ k ||| bitsWhere test (k + 1) fs := by
          rw [Nat.add_comm, Nat.or_comm]
          obtain ⟨c, hc⟩ := Nat.dvd_of_mod_eq_zero (high fs (k + 1))
          rw [hc]
          have := (Nat.two_pow_add_eq_or_of_lt (i := k + 1) (b := 2 ^ k) (Nat.pow_lt_pow_right (by omega) (by omega)) c)
          rw [this]
        rw [this, Nat.testBit_or, Nat.testBit_two_pow]
        simp only [Bool.or_eq_true, decide_eq_true_eq, ht, and_true]
        exact ⟨fun h => h.symm.imp_right Eq.symm, fun h => h.symm.imp_left Eq.symm⟩
      · rw [if_neg ht]
        simp [ht]

/-- The kind bits of a listing. -/
theorem listed_bitsWhere (flags : List (Option Latched)) (test : Nat → Latched → Bool) :
    Listed flags test (bitsWhere test 0 flags) := fun i => by
  rw [testBit_bitsWhere]
  simp

/-- The data of one flag. -/
theorem CondData.layout_eq (d : CondData) : d.layout = d.bytes := by
  cases d with
  | none => rfl
  | reason b => rfl
  | query q =>
    obtain ⟨number, n, token, source, window⟩ := q
    cases source <;> cases window <;> rfl
  | start k c => cases k <;> cases c <;> rfl

/-- The data of a listing. -/
theorem listedData_eq (flags : List (Option Latched)) (test : Nat → Latched → Bool) :
    listedData flags test = dataWhere test 0 flags := by
  unfold listedData
  simp only [CondData.layout_eq]
  generalize 0 = k
  induction flags generalizing k with
  | nil => rfl
  | cons f fs ih => cases f <;> simp [dataWhere, ih]

/-- A set has news when some flag of it is listed. -/
theorem hasNews_iff (c : Conditions) (k : Fin 17) :
    hasNews c k = true ↔ ∃ i l, (condFlags c k)[i]? = some (some l) ∧ isNews (maskOf c k) i l = true := by
  have bits := listed_bitsWhere (condFlags c k) (isNews (maskOf c k))
  unfold hasNews
  rw [bne_iff_ne]
  constructor
  · intro h
    obtain ⟨i, hi⟩ := Nat.exists_testBit_of_ne_zero h
    exact ⟨i, (bits i).1 hi⟩
  · rintro ⟨i, l, h⟩ h0
    have := (bits i).2 ⟨l, h⟩
    rw [h0, Nat.zero_testBit] at this
    cases this

/-! ## The settlement record -/

/-- The bits of the flags byte, by weight. -/
theorem RecordFlags.bits_eq (f : RecordFlags) :
    let bit := fun (b : Bool) (weight : Nat) => if b then weight else 0
    f.bits = bit f.localGrant 1 + bit f.fallbackGrant 2 + bit f.clockUnset 4 + bit f.idleCapped 8 + bit f.meterJump 16
      + bit f.meterGap 32 + bit f.holdClamped 64 := by
  obtain ⟨a, b, c, d, e, f, g⟩ := f
  cases a <;> cases b <;> cases c <;> cases d <;> cases e <;> cases f <;> cases g <;> rfl

@[simp] theorem length_stampBytes (x : Option Stamp) : (stampBytes x).length = 5 := by
  cases x <;> simp [stampBytes]

@[simp] theorem length_windowIndexByte (w : Option (Fin 12)) : (windowIndexByte w).length = 1 := by
  cases w <;> simp [windowIndexByte]

end Sys2Proof.Machine
end

