-- ==== Sys2Proof/Laws/HostLine.lean ====
section
/-! SUPPORT. What the shared operations of the host line can do: sending, the link, and the test of a request (R177). -/

namespace Sys2Proof.Machine

variable {s : State}

/-! ## Sending (R178) -/

theorem sendReply_idle {r : Reply} (h : s.line.sending = none) :
    sendReply r s = s.withLine { s.line with sending := some (.reply r) } := by
  simp [sendReply, h]

theorem sendReply_waits {r : Reply} {o : Outgoing} (h : s.line.sending = some o) :
    sendReply r s = s.withLine { s.line with replyWaiting := some r } := by
  simp [sendReply, h]

/-- A reply touches the host line alone. -/
theorem sendReply_eq (r : Reply) (s : State) : ∃ l, sendReply r s = s.withLine l := by
  unfold sendReply
  split
  · exact ⟨_, rfl⟩
  · exact ⟨_, rfl⟩

@[simp] theorem sendReply_pending (r : Reply) : (sendReply r s).pending = s.pending := by
  obtain ⟨l, h⟩ := sendReply_eq r s
  simp [h]

@[simp] theorem sendReply_session (r : Reply) (m : Ped) : (sendReply r s).session m = s.session m := by
  obtain ⟨l, h⟩ := sendReply_eq r s
  simp [h]

/-- A notice touches the conditions and the frame being sent alone, and only on a free line. -/
theorem startNotice_cases (s : State) :
    startNotice s = s ∨ ∃ k, nextNoticeSet s.conds = some k ∧ s.line.free = true ∧
      startNotice s = { s with
        conds := (noticeFor k s.conds).2
        line := { s.line with sending := some (.notice (noticeFor k s.conds).1) } } := by
  unfold startNotice
  split
  · next h =>
    split
    · next k hk => exact .inr ⟨k, hk, h.1, rfl⟩
    · exact .inl rfl
  · exact .inl rfl

/-! ## The link (R181) -/

/-- A valid frame touches the link mode, the silence timer and, on a return, one park condition. -/
theorem linkFrame_cases (s : State) :
    let t := s.withLine { s.line with mode := .attended, silenceTimer := some (s.after s.settings.linkSilence) }
    (s.line.mode = .attended ∧ linkFrame s = t) ∨ (s.line.mode = .standalone ∧ linkFrame s = latchPark .linkReturned .none t) := by
  unfold linkFrame
  cases s.line.mode
  · exact .inr ⟨rfl, rfl⟩
  · exact .inl ⟨rfl, rfl⟩

/-! ## The rows of R177 -/

theorem takeFrame_not_running {kind tag : Byte} {body : List Byte} {q : Option Request}
    (h : s.supply.runState ≠ .running) : takeFrame kind tag body q s = s := by
  simp [takeFrame, h]

theorem answerFrame_busy {kind tag : Byte} {body : List Byte} {q : Option Request} (h : s.line.busy = true) :
    answerFrame kind tag body q s = refuseBusy kind tag s := by
  simp [answerFrame, h]

theorem answerFrame_badTag {kind : Byte} {body : List Byte} {q : Option Request} (h : s.line.busy = false) :
    answerFrame kind 0 body q s = sendReply (replyOf (replyKind kind) 0 ⟨.badTag, []⟩) s := by
  simp [answerFrame, h]

theorem answerFrame_badKind {kind tag : Byte} {body : List Byte} (h : s.line.busy = false) (ht : tag ≠ 0) :
    answerFrame kind tag body none s = sendReply (replyOf (badKindReplyKind kind) tag ⟨.badKind, [kind]⟩) s := by
  have ht : tag ≠ 0#8 := ht
  simp [answerFrame, h, ht]

theorem answerFrame_badLength {kind tag : Byte} {body : List Byte} {q : Request} (h : s.line.busy = false)
    (ht : tag ≠ 0) (hl : body.length ∉ q.lengths) :
    answerFrame kind tag body (some q) s = sendReply (replyOf (replyKind kind) tag ⟨.badLength, []⟩) s := by
  have ht : tag ≠ 0#8 := ht
  simp [answerFrame, h, ht, hl]

theorem answerFrame_taken {kind tag : Byte} {body : List Byte} {q : Request} (h : s.line.busy = false)
    (ht : tag ≠ 0) (hl : body.length ∈ q.lengths) :
    answerFrame kind tag body (some q) s =
      sendReply (replyOf (replyKind kind) tag (q.act body s).1) (q.act body s).2 := by
  have ht : tag ≠ 0#8 := ht
  simp [answerFrame, h, ht, hl]

end Sys2Proof.Machine
end

