-- ==== Sys2Proof/Laws/PerInstr.lean ====
section
/-! SUPPORT. The per-command family FrameFits: the frame of a well-formed request row has the envelope of section 12.1. -/

namespace Sys2Proof.Laws

open Sys2Proof.Machine

/-- A host frame of a body that fits: sync, a length byte that gives the body's length, kind, tag, body and two CRC bytes. -/
theorem frame_of_fitting_body {kind tag : Byte} {body : List Byte} (h : bodyFits body = true) :
    ∃ crc1 crc2 : Byte, hostFrameBytes kind tag body =
        [0xC3#8, BitVec.ofNat 8 body.length, kind, tag] ++ body ++ [crc1, crc2]
      ∧ (BitVec.ofNat 8 body.length).toNat = body.length ∧ body.length ≤ 240 := by
  have hb : body.length ≤ 240 := by simpa [bodyFits] using h
  obtain ⟨a, b, hab⟩ : ∃ a b, crcBytes (hostFrameCore kind tag body) = [a, b] := List.length_eq_two.mp (length_crcBytes _)
  have hc : hostFrameCore kind tag body = [BitVec.ofNat 8 body.length, kind, tag] ++ body := by
    simp [hostFrameCore, bytesOf]
  refine ⟨a, b, ?_, ?_, hb⟩
  · simp [hostFrameBytes, hab]
    simp [hc, Config.syncByte]
  · simp; omega

/-- The frame of a well-formed request row has the envelope of section 12.1 (R175). -/
def FrameFits.Statement (i : Instr) : Prop :=
  ∀ kind tag body, requestFrame i = some (kind, tag, body) → i.wellFormed = true →
    ∃ crc1 crc2 : Byte, hostFrameBytes kind tag body =
        [0xC3#8, BitVec.ofNat 8 body.length, kind, tag] ++ body ++ [crc1, crc2]
      ∧ (BitVec.ofNat 8 body.length).toNat = body.length ∧ body.length ≤ 240

theorem FrameFits.statusRead (tag : Byte) (body : List Byte) : FrameFits.Statement (.statusRead tag body) := by
  rintro _ _ _ ⟨⟩ hw
  exact frame_of_fitting_body hw

theorem FrameFits.parkSet (tag : Byte) (body : List Byte) : FrameFits.Statement (.parkSet tag body) := by
  rintro _ _ _ ⟨⟩ hw
  exact frame_of_fitting_body hw

theorem FrameFits.parkRead (tag : Byte) (body : List Byte) : FrameFits.Statement (.parkRead tag body) := by
  rintro _ _ _ ⟨⟩ hw
  exact frame_of_fitting_body hw

theorem FrameFits.parkOpen (tag : Byte) (body : List Byte) : FrameFits.Statement (.parkOpen tag body) := by
  rintro _ _ _ ⟨⟩ hw
  exact frame_of_fitting_body hw

theorem FrameFits.parkClose (tag : Byte) (body : List Byte) : FrameFits.Statement (.parkClose tag body) := by
  rintro _ _ _ ⟨⟩ hw
  exact frame_of_fitting_body hw

theorem FrameFits.clockSet (tag : Byte) (body : List Byte) : FrameFits.Statement (.clockSet tag body) := by
  rintro _ _ _ ⟨⟩ hw
  exact frame_of_fitting_body hw

theorem FrameFits.siteLoad (tag : Byte) (body : List Byte) : FrameFits.Statement (.siteLoad tag body) := by
  rintro _ _ _ ⟨⟩ hw
  exact frame_of_fitting_body hw

theorem FrameFits.tariffWrite (tag : Byte) (body : List Byte) : FrameFits.Statement (.tariffWrite tag body) := by
  rintro _ _ _ ⟨⟩ hw
  exact frame_of_fitting_body hw

theorem FrameFits.tariffRead (tag : Byte) (body : List Byte) : FrameFits.Statement (.tariffRead tag body) := by
  rintro _ _ _ ⟨⟩ hw
  exact frame_of_fitting_body hw

theorem FrameFits.tariffClear (tag : Byte) (body : List Byte) : FrameFits.Statement (.tariffClear tag body) := by
  rintro _ _ _ ⟨⟩ hw
  exact frame_of_fitting_body hw

theorem FrameFits.windowWrite (tag : Byte) (body : List Byte) : FrameFits.Statement (.windowWrite tag body) := by
  rintro _ _ _ ⟨⟩ hw
  exact frame_of_fitting_body hw

theorem FrameFits.windowRead (tag : Byte) (body : List Byte) : FrameFits.Statement (.windowRead tag body) := by
  rintro _ _ _ ⟨⟩ hw
  exact frame_of_fitting_body hw

theorem FrameFits.windowClear (tag : Byte) (body : List Byte) : FrameFits.Statement (.windowClear tag body) := by
  rintro _ _ _ ⟨⟩ hw
  exact frame_of_fitting_body hw

theorem FrameFits.enrol (tag : Byte) (body : List Byte) : FrameFits.Statement (.enrol tag body) := by
  rintro _ _ _ ⟨⟩ hw
  exact frame_of_fitting_body hw

theorem FrameFits.withdraw (tag : Byte) (body : List Byte) : FrameFits.Statement (.withdraw tag body) := by
  rintro _ _ _ ⟨⟩ hw
  exact frame_of_fitting_body hw

theorem FrameFits.unblock (tag : Byte) (body : List Byte) : FrameFits.Statement (.unblock tag body) := by
  rintro _ _ _ ⟨⟩ hw
  exact frame_of_fitting_body hw

theorem FrameFits.pedestalRead (tag : Byte) (body : List Byte) : FrameFits.Statement (.pedestalRead tag body) := by
  rintro _ _ _ ⟨⟩ hw
  exact frame_of_fitting_body hw

theorem FrameFits.countersRead (tag : Byte) (body : List Byte) : FrameFits.Statement (.countersRead tag body) := by
  rintro _ _ _ ⟨⟩ hw
  exact frame_of_fitting_body hw

theorem FrameFits.sessionRead (tag : Byte) (body : List Byte) : FrameFits.Statement (.sessionRead tag body) := by
  rintro _ _ _ ⟨⟩ hw
  exact frame_of_fitting_body hw

theorem FrameFits.sessionStop (tag : Byte) (body : List Byte) : FrameFits.Statement (.sessionStop tag body) := by
  rintro _ _ _ ⟨⟩ hw
  exact frame_of_fitting_body hw

theorem FrameFits.sessionCap (tag : Byte) (body : List Byte) : FrameFits.Statement (.sessionCap tag body) := by
  rintro _ _ _ ⟨⟩ hw
  exact frame_of_fitting_body hw

theorem FrameFits.authDecision (tag : Byte) (body : List Byte) : FrameFits.Statement (.authDecision tag body) := by
  rintro _ _ _ ⟨⟩ hw
  exact frame_of_fitting_body hw

theorem FrameFits.queryList (tag : Byte) (body : List Byte) : FrameFits.Statement (.queryList tag body) := by
  rintro _ _ _ ⟨⟩ hw
  exact frame_of_fitting_body hw

theorem FrameFits.settleFetch (tag : Byte) (body : List Byte) : FrameFits.Statement (.settleFetch tag body) := by
  rintro _ _ _ ⟨⟩ hw
  exact frame_of_fitting_body (Bool.and_eq_true_iff.mp hw).1

theorem FrameFits.settleFetchNamed (tag : Byte) (body : List Byte) : FrameFits.Statement (.settleFetchNamed tag body) := by
  rintro _ _ _ ⟨⟩ hw
  exact frame_of_fitting_body (Bool.and_eq_true_iff.mp hw).1

theorem FrameFits.settleConfirm (tag : Byte) (body : List Byte) : FrameFits.Statement (.settleConfirm tag body) := by
  rintro _ _ _ ⟨⟩ hw
  exact frame_of_fitting_body hw

theorem FrameFits.conditionsRead (tag : Byte) (body : List Byte) : FrameFits.Statement (.conditionsRead tag body) := by
  rintro _ _ _ ⟨⟩ hw
  exact frame_of_fitting_body hw

theorem FrameFits.conditionsClear (tag : Byte) (body : List Byte) : FrameFits.Statement (.conditionsClear tag body) := by
  rintro _ _ _ ⟨⟩ hw
  exact frame_of_fitting_body hw

theorem FrameFits.conditionsMask (tag : Byte) (body : List Byte) : FrameFits.Statement (.conditionsMask tag body) := by
  rintro _ _ _ ⟨⟩ hw
  exact frame_of_fitting_body hw

theorem FrameFits.restartSoft (tag : Byte) (body : List Byte) : FrameFits.Statement (.restartSoft tag body) := by
  rintro _ _ _ ⟨⟩ hw
  exact frame_of_fitting_body (Bool.and_eq_true_iff.mp hw).1

theorem FrameFits.restartHard (tag : Byte) (body : List Byte) : FrameFits.Statement (.restartHard tag body) := by
  rintro _ _ _ ⟨⟩ hw
  exact frame_of_fitting_body (Bool.and_eq_true_iff.mp hw).1

theorem FrameFits.badKind (kind : Byte) (tag : Byte) (body : List Byte) : FrameFits.Statement (.badKind kind tag body) := by
  rintro _ _ _ ⟨⟩ hw
  exact frame_of_fitting_body (Bool.and_eq_true_iff.mp hw).1

theorem FrameFits.frameDiscarded (received : List RxChar) : FrameFits.Statement (.frameDiscarded received) := by
  rintro _ _ _ ⟨⟩

theorem FrameFits.badSyncRun (received : List RxChar) : FrameFits.Statement (.badSyncRun received) := by
  rintro _ _ _ ⟨⟩

theorem FrameFits.frameGapTimeout (received : List RxChar) : FrameFits.Statement (.frameGapTimeout received) := by
  rintro _ _ _ ⟨⟩

theorem FrameFits.linkSilenceExpiry : FrameFits.Statement .linkSilenceExpiry := by
  rintro _ _ _ ⟨⟩

theorem FrameFits.replySent : FrameFits.Statement .replySent := by
  rintro _ _ _ ⟨⟩

theorem FrameFits.notice : FrameFits.Statement .notice := by
  rintro _ _ _ ⟨⟩

theorem FrameFits.noticeSent : FrameFits.Statement .noticeSent := by
  rintro _ _ _ ⟨⟩

theorem FrameFits.softRestart : FrameFits.Statement .softRestart := by
  rintro _ _ _ ⟨⟩

theorem FrameFits.hardRestart : FrameFits.Statement .hardRestart := by
  rintro _ _ _ ⟨⟩

theorem FrameFits.cycleStart : FrameFits.Statement .cycleStart := by
  rintro _ _ _ ⟨⟩

theorem FrameFits.statusReply (received : List Byte) : FrameFits.Statement (.statusReply received) := by
  rintro _ _ _ ⟨⟩

theorem FrameFits.exchangeMiss (cause : MissCause) : FrameFits.Statement (.exchangeMiss cause) := by
  rintro _ _ _ ⟨⟩

theorem FrameFits.alertSlot (contenders : List BusAddress) : FrameFits.Statement (.alertSlot contenders) := by
  rintro _ _ _ ⟨⟩

theorem FrameFits.quietTimerExpiry : FrameFits.Statement .quietTimerExpiry := by
  rintro _ _ _ ⟨⟩

theorem FrameFits.authDeadlineExpiry (pedestal : Ped) : FrameFits.Statement (.authDeadlineExpiry pedestal) := by
  rintro _ _ _ ⟨⟩

theorem FrameFits.plugDeadlineExpiry (pedestal : Ped) : FrameFits.Statement (.plugDeadlineExpiry pedestal) := by
  rintro _ _ _ ⟨⟩

theorem FrameFits.probeDeadlineExpiry (pedestal : Ped) : FrameFits.Statement (.probeDeadlineExpiry pedestal) := by
  rintro _ _ _ ⟨⟩

theorem FrameFits.endingDeadlineExpiry (pedestal : Ped) : FrameFits.Statement (.endingDeadlineExpiry pedestal) := by
  rintro _ _ _ ⟨⟩

theorem FrameFits.refusalDisplayExpiry (pedestal : Ped) : FrameFits.Statement (.refusalDisplayExpiry pedestal) := by
  rintro _ _ _ ⟨⟩

theorem FrameFits.oneSecondTick : FrameFits.Statement .oneSecondTick := by
  rintro _ _ _ ⟨⟩

theorem FrameFits.suspendLimit (pedestal : Ped) : FrameFits.Statement (.suspendLimit pedestal) := by
  rintro _ _ _ ⟨⟩

theorem FrameFits.idleMinute (pedestal : Ped) : FrameFits.Statement (.idleMinute pedestal) := by
  rintro _ _ _ ⟨⟩

theorem FrameFits.supplyWarning : FrameFits.Statement .supplyWarning := by
  rintro _ _ _ ⟨⟩

theorem FrameFits.reset : FrameFits.Statement .reset := by
  rintro _ _ _ ⟨⟩

theorem FrameFits.supplyFail : FrameFits.Statement .supplyFail := by
  rintro _ _ _ ⟨⟩

theorem FrameFits.retentionLoss : FrameFits.Statement .retentionLoss := by
  rintro _ _ _ ⟨⟩

theorem FrameFits.powerOn : FrameFits.Statement .powerOn := by
  rintro _ _ _ ⟨⟩

theorem FrameFits.haltedStart : FrameFits.Statement .haltedStart := by
  rintro _ _ _ ⟨⟩

end Sys2Proof.Laws
end

