-- ==== Sys2Proof/Laws/Reply.lean ====
section
/-! SUPPORT. What the steps of a good reply (R5, R153) do, said once each: the meter steps, the faults, the vehicle's fields, the
link, and that the session operations leave the pedestal table alone. -/

namespace Sys2Proof.Machine

variable {s : State}

/-! ## The frame (R194) -/

/-- What makes a reply frame good. -/
theorem replyIsGood_iff (n : Ped) (bytes : List Byte) :
    replyIsGood n bytes = true ↔ bytes.length = 26 ∧ bytes.drop 24 = crcBytes (bytes.take 24) ∧ fieldAt bytes 0 1 = n.val + 1
      ∧ fieldAt bytes 1 1 ≤ 1 ∧ fieldAt bytes 4 1 ≤ 1 ∧ fieldAt bytes 10 1 ≤ 3 ∧ fieldAt bytes 20 1 ≤ 3 ∧ fieldAt bytes 22 1 ≤ 15
      ∧ fieldAt bytes 23 1 ≤ 1 := by
  simp [replyIsGood, codedBytesDefined, Ped.number, and_assoc]

/-- A reply frame that is not good has the effect of a miss, and of a good one nothing but its fields counts. -/
theorem execStatusReply_eq (bytes : List Byte) (cause : MissCause) (s : State) (e : Exchange) (h : s.bus.phase = .exchange e) :
    execStatusReply bytes s =
      if replyIsGood e.pedestal bytes = true then
        .next (endExchange e (takeExchange e (some (StatusReply.ofBytes bytes)) s))
      else execExchangeMiss cause s := by
  unfold execStatusReply execExchangeMiss decodeReply
  simp only [h]
  split <;> rfl

/-! ## The pedestal table apart from the session operations -/

/-- The state with another pedestal table. -/
def State.withTable (v : Vector PedestalEntry 16) (s : State) : State := { s with pedestals := v }

@[simp] theorem State.withTable_session (v : Vector PedestalEntry 16) (m : Ped) : (s.withTable v).session m = s.session m := rfl
@[simp] theorem State.withTable_pedestals (v : Vector PedestalEntry 16) : (s.withTable v).pedestals = v := rfl
@[simp] theorem State.withTable_self (s : State) : s.withTable s.pedestals = s := rfl

section
variable (v : Vector PedestalEntry 16) (n : Ped)

theorem paceFast_withTable (s : State) : paceFast (s.withTable v) = (paceFast s).withTable v := by
  unfold paceFast
  rw [apply_ite (State.withTable v)]
  rfl

theorem quietActivity_withTable (s : State) : quietActivity (s.withTable v) = (quietActivity s).withTable v := by
  unfold quietActivity
  rw [apply_ite (State.withTable v), paceFast_withTable]
  rfl

theorem putSession_withTable (r : Session) (s : State) :
    putSession n r (s.withTable v) = (putSession n r s).withTable v := by
  unfold putSession
  simp only []
  rw [apply_ite (State.withTable v), apply_ite (State.withTable v)]
  have : State.setSession n r (s.withTable v) = (State.setSession n r s).withTable v := rfl
  rw [this, paceFast_withTable]
  rfl

theorem joinQueue_withTable (r : SettlementRecord) (s : State) :
    joinQueue r (s.withTable v) = (joinQueue r s).withTable v := by
  unfold joinQueue
  simp only []
  rw [apply_ite (State.withTable v)]
  rfl

theorem latchPed_withTable (k : PedKind) (d : CondData) (s : State) :
    latchPed n k d (s.withTable v) = (latchPed n k d s).withTable v := rfl

theorem closeSession_withTable (why : EndReason) (s : State) :
    closeSession n why (s.withTable v) = (closeSession n why s).withTable v := by
  unfold closeSession
  simp only [State.withTable_session]
  cases (s.session n).opening <;> cases (s.session n).grant <;> simp only []
  · rw [latchPed_withTable, putSession_withTable]
  · rw [latchPed_withTable, putSession_withTable]
  · rw [latchPed_withTable, putSession_withTable]
  · rw [← putSession_withTable, ← latchPed_withTable, ← joinQueue_withTable]
    rfl

theorem cancelSession_withTable (reason : Byte) (s : State) :
    cancelSession n reason (s.withTable v) = (cancelSession n reason s).withTable v := by
  unfold cancelSession refuseToken
  simp only []
  have : releaseSlot (s.withTable v) = (releaseSlot s).withTable v := rfl
  rw [this, State.withTable_session, putSession_withTable, latchPed_withTable]
  rfl

theorem enterProbing_withTable (s : State) : enterProbing n (s.withTable v) = (enterProbing n s).withTable v := by
  unfold enterProbing
  simp only []
  rw [putSession_withTable]
  rfl

theorem takeGrant_withTable (g : Grant) (s : State) : takeGrant n g (s.withTable v) = (takeGrant n g s).withTable v := by
  unfold takeGrant
  simp only []
  rw [apply_ite (State.withTable v), ← putSession_withTable, ← enterProbing_withTable]
  rfl

/-- A grant reads of the table only the floor of its pedestal. -/
theorem offerGrant_withTable (o : GrantOffer) (s : State) (h : (v.get n).floor = (s.entry n).floor) :
    offerGrant n o (s.withTable v) = (offerGrant n o s).withTable v := by
  unfold offerGrant
  have : checkGrant n o (s.withTable v) = checkGrant n o s := by
    unfold checkGrant
    have h2 : ((s.withTable v).entry n).floor = (s.entry n).floor := h
    rw [h2]
    rfl
  rw [this]
  cases checkGrant n o s with
  | ok g => exact takeGrant_withTable v n g s
  | error r => exact cancelSession_withTable v n _ s

end

/-! ## The meter steps (R55, R153) -/

/-- The meter steps touch the entry, the record and the conditions of their pedestal, and nothing else. -/
theorem meterSteps_frame (n : Ped) (c : Nat) (s : State) :
    meterSteps n c s = { s with
      pedestals := s.pedestals.set n ((s.entry n).metered c)
      records := s.records.set n ((meterSteps n c s).session n)
      conds := (meterSteps n c s).conds } := by
  unfold meterSteps meterReply
  simp only []
  split
  · split <;> simp [State.setSession, State.setEntry, State.session, get_set_self, PedestalEntry.metered, latchPed]
  · simp [State.setSession, State.setEntry, State.session, get_set_self, PedestalEntry.metered]

/-- An accrual touches the metering fields and the session flags alone. -/
theorem Session.accrueDelta_fields (clock : Option Clock) (t : Tariff) (d : Nat) (r : Session) :
    ∃ m f, r.accrueDelta clock t d = { r with meter := m, flags := f } := by
  unfold Session.accrueDelta
  split
  · exact ⟨r.meter, r.flags, rfl⟩
  · cases priceNow clock t with
    | some p => exact ⟨_, _, rfl⟩
    | none => exact ⟨r.meter, r.flags, rfl⟩

/-- The record after the meter steps: the baseline is the count, and only metering fields and session flags have moved. -/
theorem meterSteps_session_self (n : Ped) (c : Nat) (s : State) :
    ∃ m f, (meterSteps n c s).session n = { s.session n with baseline := c, meter := m, flags := f } := by
  have key : ∀ z : State, ∃ m f, (meterReply n c z).session n = { z.session n with baseline := c, meter := m, flags := f } := by
    intro s
    unfold meterReply
    simp only []
    generalize meterDelta c (s.session n).baseline = d
    split
    · split
      · simp only [State.session_setSession_self]
        obtain ⟨m, f, h⟩ : ∃ m f, (match (s.session n).grant with
            | some g => Session.accrueDelta s.clock (s.tariffOf g) d (s.session n)
            | none => s.session n) = { s.session n with meter := m, flags := f } := by
          cases (s.session n).grant with
          | none => exact ⟨(s.session n).meter, (s.session n).flags, rfl⟩
          | some g => exact Session.accrueDelta_fields _ _ _ _
        have h2 : ∀ q : Session, q = { s.session n with meter := m, flags := f } →
            ({ q with baseline := c } : Session) = { s.session n with baseline := c, meter := m, flags := f } := by
          rintro q rfl
          rfl
        exact ⟨m, f, h2 _ h⟩
      · exact ⟨(s.session n).meter, { (s.session n).flags with meterJump := true }, by simp only [State.session_setSession_self]⟩
    · exact ⟨(s.session n).meter, (s.session n).flags, by simp only [State.session_setSession_self]⟩
  exact key _

theorem meterSteps_session_ne {m n : Ped} (h : m ≠ n) (c : Nat) : (meterSteps n c s).session m = s.session m := by
  rw [meterSteps_frame]
  simp [State.session, get_set_ne _ h]

@[simp] theorem meterSteps_state (n : Ped) (c : Nat) : ((meterSteps n c s).session n).state = (s.session n).state := by
  obtain ⟨m, f, h⟩ := meterSteps_session_self n c s
  rw [h]

@[simp] theorem meterSteps_hasPlug (n : Ped) (c : Nat) : ((meterSteps n c s).session n).hasPlug = (s.session n).hasPlug := by
  obtain ⟨m, f, h⟩ := meterSteps_session_self n c s
  rw [h]

@[simp] theorem meterSteps_bus (n : Ped) (c : Nat) : (meterSteps n c s).bus = s.bus := by rw [meterSteps_frame]
@[simp] theorem meterSteps_timebase (n : Ped) (c : Nat) : (meterSteps n c s).timebase = s.timebase := by rw [meterSteps_frame]
@[simp] theorem meterSteps_settings (n : Ped) (c : Nat) : (meterSteps n c s).settings = s.settings := by rw [meterSteps_frame]
@[simp] theorem meterSteps_settlement (n : Ped) (c : Nat) : (meterSteps n c s).settlement = s.settlement := by
  rw [meterSteps_frame]
@[simp] theorem meterSteps_pedestals (n : Ped) (c : Nat) :
    (meterSteps n c s).pedestals = s.pedestals.set n ((s.entry n).metered c) := by
  rw [meterSteps_frame]

/-! ## Faults, plug and vehicle -/

/-- The conditions after the fault set (R169, R171). -/
def Conditions.faulted (n : Ped) (x : StatusReply) (e : PedestalEntry) (c : Conditions) : Conditions :=
  let c := if x.faults.getLsbD 2 = true ∧ e.blocked = false then c.withPed n 6 .none else c
  if x.faults.getLsbD 0 = true ∧ e.estop = false then c.withPed n 7 .none else c

/-- The table's fault step: the entry's two fault fields and the conditions, and nothing else (R169, R171). -/
theorem tableFaults_eq (n : Ped) (x : StatusReply) (s : State) :
    tableFaults n x s = { s with
      pedestals := s.pedestals.set n ((s.entry n).applyFaults x)
      conds := s.conds.faulted n x (s.entry n) } := by
  generalize he : s.entry n = e
  unfold tableFaults Conditions.faulted
  simp only [he, StatusReply.isolation, StatusReply.estop]
  cases h1 : x.faults.getLsbD 2 <;> cases h2 : e.blocked <;> cases h3 : x.faults.getLsbD 0 <;> cases h4 : e.estop <;> rfl

/-- The plug state against which a reply's is tested (R6). -/
theorem State.plugBefore_eq_plugWas (s : State) (n : Ped) : s.plugBefore n = s.plugWas n := by
  unfold State.plugWas State.plugBefore
  cases (s.entry n).lastPlug with
  | none => cases (s.session n).hasPlug <;> rfl
  | some p => rfl

/-- A plug state as it was leaves a record that is not RELEASED alone. -/
theorem takePlug_unchanged (n : Ped) (plug : Bool) (s : State) (h : s.plugWas n = plug) (hr : (s.session n).state ≠ .released) :
    takePlug n plug s = s := by
  unfold takePlug
  rw [State.plugBefore_eq_plugWas, h]
  cases plug <;> simp [hr]

/-- A presentation that is not new moves the number held and nothing else (R154). -/
theorem presentationStep_noNewToken (n : Ped) (x : StatusReply) (s : State) (h : x.NoNewToken (s.entry n)) :
    (match x.presentation with
      | some p => takePresentation n p s
      | none => s) = s.setEntry n { s.entry n with
        lastPresentation := match x.presentation with
          | some p => some p.number
          | none => (s.entry n).lastPresentation } := by
  unfold StatusReply.NoNewToken at h
  cases hp : x.presentation with
  | none =>
    have same : s.setEntry n (s.entry n) = s := by unfold State.setEntry State.entry; rw [vector_set_get]
    exact same.symm
  | some p =>
    simp only [hp, reduceCtorEq, Option.map_some, false_or] at h
    unfold takePresentation
    rcases h with h | h <;> simp only [h, if_true]

/-- Writing back the record that stands changes nothing. -/
theorem setSession_same (s : State) (n : Ped) : { s with records := s.records.set n (s.session n) } = s := by
  simp [State.session, vector_set_get]

/-- The vehicle's fields and the present power, where they do not close the session: the record is driven, and nothing else
moves (R19 to R21, R24, R94). -/
theorem vehicleSteps_eq (n : Ped) (we : Bool) (x : StatusReply) (y : State)
    (hw : we = true → (y.session n).state = .ending → 10 ≤ x.power) :
    takePower n we x.power (takeVehicleRequest n x.request x.complete (takeComplete n x.complete y)) =
      { y with records := y.records.set n ((y.session n).driven x y.timebase) } := by
  have hpw : ∀ z : State, (we = true → (z.session n).state = .ending → 10 ≤ x.power) → takePower n we x.power z = z := by
    intro z hz
    unfold takePower
    split
    · rename_i h
      simp [Config.endingThreshold] at h
      obtain ⟨⟨h1, h2⟩, h3⟩ := h
      have := hz h1 h2
      have h4 : x.power < 10 := of_decide_eq_true h3
      omega
    · rfl
  cases hst : (y.session n).state
  case dispensing =>
    have hd : (y.session n).state ≠ .free := by simp [hst]
    unfold takeComplete
    simp only [hst]
    by_cases hc : x.complete = true
    · simp only [hc, if_true]
      have e1 : enterOccupying n y = { y with records := y.records.set n ((y.session n).driven x y.timebase) } := by
        unfold enterOccupying
        rw [putSession_plain _ _ _ hd (by simp [Session.enter])]
        simp [Session.driven, hst, hc, Session.enter, SessionState.keepsRefusal]
      rw [e1]
      have e2 : (State.session { y with records := y.records.set n ((y.session n).driven x y.timebase) } n).state = .occupying := by
        simp [State.session, get_set_self, Session.driven]
        have : (y.records.get n).state = .dispensing := hst
        simp [this, hc]
      have e3 : takeVehicleRequest n x.request true { y with records := y.records.set n ((y.session n).driven x y.timebase) } = { y with records := y.records.set n ((y.session n).driven x y.timebase) } := by
        unfold takeVehicleRequest
        simp only [e2]; simp
      rw [e3, hpw _ (by rw [e2]; simp)]
    · have hc' : x.complete = false := by simpa using hc
      simp only [hc', Bool.false_eq_true, if_false]
      rw [← hc']
      have e3 : takeVehicleRequest n x.request x.complete y = { y with records := y.records.set n ((y.session n).driven x y.timebase) } := by
        unfold takeVehicleRequest
        simp only [hst, hc]
        by_cases hr : x.request = 0
        · simp only [hr, if_true, Bool.false_eq_true, if_false]
          unfold enterSuspended
          rw [putSession_plain _ _ _ hd (by simp [Session.enter])]
          simp [Session.driven, hst, hc, hr, Session.enter, SessionState.keepsRefusal]
        · simp only [hr, if_false]
          simp [Session.driven, hst, hc, hr, State.setAlloc, State.setSession]
      rw [e3]
      apply hpw
      intro _ h
      simp [State.session, get_set_self, Session.driven] at h
      have h' : (y.records.get n).state = .dispensing := hst
      simp only [h', hc, Bool.false_eq_true, if_false] at h
      split at h <;> simp_all
  case suspended =>
    have hd : (y.session n).state ≠ .free := by simp [hst]
    unfold takeComplete
    simp only [hst]
    by_cases hc : x.complete = true
    · simp only [hc, if_true]
      have e1 : enterOccupying n y = { y with records := y.records.set n ((y.session n).driven x y.timebase) } := by
        unfold enterOccupying
        rw [putSession_plain _ _ _ hd (by simp [Session.enter])]
        simp [Session.driven, hst, hc, Session.enter, SessionState.keepsRefusal]
      rw [e1]
      have e2 : (State.session { y with records := y.records.set n ((y.session n).driven x y.timebase) } n).state = .occupying := by
        simp [State.session, get_set_self, Session.driven]
        have : (y.records.get n).state = .suspended := hst
        simp [this, hc]
      have e3 : takeVehicleRequest n x.request true { y with records := y.records.set n ((y.session n).driven x y.timebase) } = { y with records := y.records.set n ((y.session n).driven x y.timebase) } := by
        unfold takeVehicleRequest
        simp only [e2]; simp
      rw [e3, hpw _ (by rw [e2]; simp)]
    · have hc' : x.complete = false := by simpa using hc
      simp only [hc', Bool.false_eq_true, if_false]
      rw [← hc']
      have e3 : takeVehicleRequest n x.request x.complete y = { y with records := y.records.set n ((y.session n).driven x y.timebase) } := by
        unfold takeVehicleRequest
        simp only [hst, hc]
        by_cases hr : x.request = 0
        · simp [hr, Session.driven, hst, hc, setSession_same]
        · have : x.request > 0 := by omega
          simp only [this, true_and, Bool.not_false, if_true]
          unfold returnToDispensing
          rw [putSession_plain _ _ _ hd (by simp [Session.enter])]
          simp [Session.driven, hst, hc, hr, Session.enter, SessionState.keepsRefusal]
      rw [e3]
      apply hpw
      intro _ h
      simp [State.session, get_set_self, Session.driven] at h
      have h' : (y.records.get n).state = .suspended := hst
      simp only [h', hc, Bool.false_eq_true, if_false] at h
      split at h <;> simp_all
  case occupying =>
    have hd : (y.session n).state ≠ .free := by simp [hst]
    unfold takeComplete
    simp only [hst]
    have e3 : takeVehicleRequest n x.request x.complete y = { y with records := y.records.set n ((y.session n).driven x y.timebase) } := by
      unfold takeVehicleRequest
      simp only [hst]
      by_cases hr : x.request > 0 ∧ x.complete = false
      · have h2 : x.request ≠ 0 := by omega
        simp only [hr, Bool.not_false, and_true, if_true]
        unfold returnToDispensing
        rw [putSession_plain _ _ _ hd (by simp [Session.enter])]
        simp [Session.driven, hst, hr, h2, Session.enter, SessionState.keepsRefusal]
      · rw [if_neg (by simpa using hr)]
        have : x.complete = true ∨ x.request = 0 := by
          cases h : x.complete
          · right; by_contra h2; exact hr ⟨by omega, h⟩
          · left; rfl
        simp [Session.driven, hst, this, setSession_same]
    rw [e3]
    apply hpw
    intro _ h
    simp [State.session, get_set_self, Session.driven] at h
    have h' : (y.records.get n).state = .occupying := hst
    simp only [h'] at h
    split at h <;> simp_all
  all_goals
    have e1 : takeComplete n x.complete y = y := by simp [takeComplete, hst]
    have e2 : takeVehicleRequest n x.request x.complete y = y := by simp [takeVehicleRequest, hst]
    rw [e1, e2, hpw y hw]
    have e3 : (y.session n).driven x y.timebase = y.session n := by simp [Session.driven, hst]
    rw [e3, setSession_same]


/-! ## The link (R153, R157) -/

/-- The last steps of a reply, once the table holds the entry `p` of its earlier steps. -/
theorem linkSteps_answered (n : Ped) (x : StatusReply) (e p : PedestalEntry) (v : Vector PedestalEntry 16) (z : State)
    (hz : ∃ q, z.pedestals = v.set n q) (hp : ({ p with lastPlug := some x.plug, link := .online } : PedestalEntry) = e.replied x)
    (hl : p.link = e.link) :
    linkSteps n x.plug (z.withTable (v.set n p)) = z.answered n x e := by
  obtain ⟨q, hq⟩ := hz
  have he : (z.withTable (v.set n p)).entry n = p := get_set_self _ _ _
  unfold linkSteps
  rw [he]
  simp only []
  rw [hp, hl]
  unfold State.answered State.setEntry State.withTable
  rw [hq]
  simp only [vector_set_set]
  by_cases h : e.link = .lost
  · simp only [h, if_true]
    rfl
  · simp only [h, if_false]

end Sys2Proof.Machine
end

