-- ==== Sys2Proof/Laws/Requests.lean ====
section
/-! SUPPORT. What the lookups of the requests answer: numbers, windows, waiting sessions, settlement records
and condition sets. -/

namespace Sys2Proof.Machine

/-! ## Numbers (section 12.2) -/

/-- A pedestal's number names it. -/
theorem pedestalOf_some {k : Nat} {n : Ped} (h : k = n.number) : pedestalOf k = some n := by
  subst h; simp [Ped.number, pedestalOf]

/-- A number outside 1 to 16 names no pedestal. -/
theorem pedestalOf_none {k : Nat} (h : k = 0 ∨ 16 < k) : pedestalOf k = none := by
  simp [pedestalOf]; omega

/-- A tariff number from 0 to 7 names its tariff. -/
theorem tariffIndexOf_some {k : Nat} {i : Fin 8} (h : k = i.val) : tariffIndexOf k = some i := by
  subst h; simp [tariffIndexOf]; omega

/-- A tariff number beyond 7 names none. -/
theorem tariffIndexOf_none {k : Nat} (h : 7 < k) : tariffIndexOf k = none := by simp [tariffIndexOf]; omega

/-- A window number from 0 to 11 names its window. -/
theorem windowIndexOf_some {k : Nat} {i : Fin 12} (h : k = i.val) : windowIndexOf k = some i := by
  subst h; simp [windowIndexOf]; omega

/-- A window number beyond 11 names none. -/
theorem windowIndexOf_none {k : Nat} (h : 11 < k) : windowIndexOf k = none := by simp [windowIndexOf]; omega

/-- The number of a pedestal names its condition set, which is not the park's. -/
theorem conditionSetOf_pedestal {k : Nat} {n : Ped} (h : k = n.number) :
    conditionSetOf k = some (Fin.ofNat 17 n.number) ∧ (Fin.ofNat 17 n.number) ≠ 0 ∧
      setPedestal (Fin.ofNat 17 n.number) = n := by
  subst h
  revert n; decide

/-! ## Windows (R34) -/

/-- A WINDOW-WRITE body with every field in range reads as its window. -/
theorem windowOf_good (body : List Byte) (h : WindowBodyGood body) : windowOf body = some (windowOfBody body) := by
  obtain ⟨h1, h2, h3, h4, h5, h6, h7, h8, h9⟩ := h
  unfold windowOf windowOfBody yesNoAt presentField
  generalize fieldAt body 1 1 = a1 at *
  generalize fieldAt body 18 1 = a2 at *
  generalize fieldAt body 27 1 = a3 at *
  generalize fieldAt body 35 1 = a4 at *
  interval_cases a1 <;> interval_cases a2 <;> interval_cases a3 <;> interval_cases a4 <;> simp_all [WindowMode.ofCode] <;> omega

/-- A body with a field out of range reads as no window. -/
theorem windowOf_bad (body : List Byte) (h : ¬ WindowBodyGood body) : windowOf body = none := by
  contrapose! h
  obtain ⟨w, hw⟩ := Option.ne_none_iff_exists'.1 h
  unfold windowOf yesNoAt presentField at hw
  unfold WindowBodyGood
  have m : ∀ k w, WindowMode.ofCode k = some w → k ≤ 3 := by
    intro k w h
    unfold WindowMode.ofCode at h; split at h <;> simp_all
  split at hw
  · next a b c h1 h2 h3 =>
    have := m _ _ h3
    simp only [] at hw
    have hn : ¬ (fieldAt body 28 4 = 0 ∨ fieldAt body 28 4 > 999999 ∨ fieldAt body 32 1 > 7 ∨
        fieldAt body 33 1 > 3 ∨ fieldAt body 34 1 > 15 ∨ fieldAt body 35 1 > 1 ∨
        (if (fieldAt body 35 1).testBit 0 = true then some (fieldAt body 36 2) else none) = some 0) := by
      intro hc; rw [if_pos hc] at hw; simp at hw
    push Not at hn
    have g1 : fieldAt body 1 1 ≤ 1 := by split at h1 <;> simp_all
    have g2 : fieldAt body 18 1 ≤ 1 := by split at h2 <;> simp_all
    refine ⟨g1, g2, this, by omega, by omega, by omega, by omega, by omega, ?_⟩
    intro h8; have := hn.2.2.2.2.2.2; rw [h8] at this; simpa using this
  · simp at hw

/-! ## Waiting sessions (R47) -/

/-- The test of `waiting` says that the record waits under the number. -/
theorem waits_iff (s : State) (n : Ped) (k : Nat) :
    ((s.session n).state == .authorizing && (s.session n).opening.any (·.number == k)) = true ↔ s.WaitsUnder n k := by
  cases h : (s.session n).opening <;> simp [State.WaitsUnder, h]

/-- No session waits under the number. -/
theorem State.waiting_none (s : State) (k : Nat) (h : ∀ n, ¬ s.WaitsUnder n k) : s.waiting k = none := by
  simp only [State.waiting, List.find?_eq_none]
  intro n _ hh
  exact h n ((waits_iff s n k).1 hh)

/-- The only session that waits under the number is found. -/
theorem State.waiting_some (s : State) (k : Nat) (n : Ped) (h : s.WaitsUnder n k)
    (hu : ∀ m, m ≠ n → ¬ s.WaitsUnder m k) :
    s.waiting k = some n := by
  simp only [State.waiting]
  cases hf : Ped.all.find? fun n => (s.session n).state == .authorizing && (s.session n).opening.any (·.number == k) with
  | none =>
    rw [List.find?_eq_none] at hf
    exact absurd ((waits_iff s n k).2 h) (hf n (mem_all n))
  | some m =>
    have := List.find?_some hf
    rw [waits_iff] at this
    by_contra hne
    exact hu m (fun e => hne (by rw [e])) this

/-! ## Settlement records (R122 to R125) -/

/-- Nothing is PENDING, so nothing is fetched. -/
theorem fetchOldest_none (q : List SettlementRecord) (h : ∀ r ∈ q, r.delivery = .delivered) :
    fetchOldest q = none := by
  induction q with
  | nil => rfl
  | cons r q ih =>
    have := h r (by simp)
    simp [fetchOldest, this, ih fun x hx => h x (by simp [hx])]

/-- The oldest PENDING record is fetched, and marked or removed. -/
theorem fetchOldest_some (older newer : List SettlementRecord) (r) (h : ∀ q ∈ older, q.delivery = .delivered)
    (hr : r.delivery = .pending) :
    fetchOldest (older ++ r :: newer) =
      some (r, older ++ (if r.posted then newer else { r with delivery := .delivered } :: newer)) := by
  induction older with
  | nil => simp [fetchOldest, hr]
  | cons a l ih =>
    have := h a (by simp)
    simp [fetchOldest, this, ih fun x hx => h x (by simp [hx])]

/-- The first record that carries the number is found. -/
theorem recordNumbered_some (older newer : List SettlementRecord) (r) (k) (h : ∀ q ∈ older, q.number ≠ k)
    (hr : r.number = k) :
   recordNumbered k (older ++ r :: newer) = some r := by
  unfold recordNumbered
  rw [List.find?_append]
  have : older.find? (fun r => r.number == k) = none := by
    rw [List.find?_eq_none]; intro a ha; simpa using h a ha
  simp [this, hr]

/-- The first record that carries the number is removed. -/
theorem removeNumbered_some (older newer : List SettlementRecord) (r) (k) (h : ∀ q ∈ older, q.number ≠ k)
    (hr : r.number = k) :
   removeNumbered k (older ++ r :: newer) = older ++ newer := by
  unfold removeNumbered
  rw [List.eraseP_append_right]
  · simp [hr]
  · intro a ha; simpa using h a ha

/-! ## Received characters (R175) -/

/-- Characters received one list after the other. -/
theorem receive_append (a b : List RxChar) (s : State) : receive (a ++ b) s = receive b (receive a s) := by
  simp [receive]

end Sys2Proof.Machine
end

