-- ==== Sys2Proof/Tests/Slice0.lean ====
section
/-! SUPPORT. Tests: the checks of WellFormed refuse, the worked examples of the spec come out, and for every obligation with
hypotheses a state and operands meet them. The expected values are the spec's, or worked out from it by hand. -/

set_option Elab.async false

namespace Sys2Proof.Tests

open Sys2Proof Sys2Proof.Machine

/-! ## Small states -/

/-- The state of a next outcome; no test reads the state after reset through it. -/
def nextOf : Host.Outcome State Fault Refusal → State
  | .next s => s
  | .fault _ => State.reset
  | .refused _ => State.reset

/-- The state after a command. -/
def after (i : Instr) (s : State) : State := nextOf (exec i s)

/-- Bytes written as numbers. -/
def bs (l : List Nat) : List Byte := l.map fun v => BitVec.ofNat 8 v

def zeros (k : Nat) : List Byte := List.replicate k 0#8

/-- The body of the reply being sent: its reply code and data. -/
def sent (s : State) : Option (List Byte) :=
  match s.line.sending with
  | some (.reply r) => some r.body
  | some (.notice _) => none
  | none => none

/-- Chapter 3's one-band tariff: price 69,000, start fee 100; the idle fee and grace are those of its idle example. -/
def tariff69 : Tariff :=
  { defined := true, bands := [⟨0, 69000⟩], startFee := 100, idleFeePerMinute := 40, idleGrace := 5 }

/-- A tariff with the three bands of chapter 3's accrual example. -/
def tariff4 : Tariff := { defined := true, bands := [⟨0, 41000⟩, ⟨420, 58000⟩, ⟨1080, 73500⟩] }

def opening1 : Opening := ⟨1, 0x5100000000C39A11#64, .reader, some 0, 0x5100000000C39A11#64, ⟨65535, 0⟩⟩
def grant1 : Grant := ⟨.localGrant, 0, 3000, 1, 2, none⟩
def entry1 : PedestalEntry :=
  { enrolled := true, rating := 3500, floor := 50, link := .online, lastPlug := some true, lastPresentation := some 7#8 }
def unplugged1 : PedestalEntry := { entry1 with lastPlug := some false }

/-- Pedestal 1 while LOST. -/
def returning1 : PedestalEntry := { entry1 with link := .lost, lastPlug := none }

def waiting : Session :=
  { state := .authorizing, opening := some opening1, captured := some ⟨.referFallback, some 2000, 0, 2, 8, some 1200⟩,
    authDeadline := some 20000 }
def authorized : Session :=
  { state := .authorized, opening := some opening1, grant := some grant1, plugDeadline := some 120000 }
def probing : Session :=
  { state := .probing, hasPlug := .yes, opening := some opening1, grant := some grant1, probeAttempts := 1,
    probeDeadline := some 5000, probeSend := true }
def metered : Session :=
  { state := .dispensing, hasPlug := .yes, opening := some opening1, grant := some grant1,
    energized := some ⟨65535, 0⟩, meter := { startFeeCharged := true } }
def dispensing : Session := { metered with alloc := { grantState := .powered, share := 400, request := 3500 } }
def suspended : Session := { metered with state := .suspended, suspendStart := some 0 }
def occupying : Session :=
  { metered with state := .occupying, meter := { startFeeCharged := true, costWhole := 2688, costRemainder := 540000 } }
def ending : Session :=
  { metered with state := .ending, endReason := some .userStop, endingDeadline := some 5000 }
def released : Session := { state := .released, hasPlug := .yes, endReason := some .userStop }

/-- A running park with pedestal 1 enrolled and a record there. -/
def holding (r : Session) (e : PedestalEntry := entry1) : State :=
  { State.reset with
    records := State.reset.records.set 0 r
    pedestals := State.reset.pedestals.set 0 e
    tariffs := State.reset.tariffs.set 0 tariff69
    settlement := { reserved := if r.state.isOpen then 1 else 0, counter := 2 } }

/-- The same in an exchange with pedestal 1. -/
def exchanging (r : Session) (e : PedestalEntry := entry1) : State :=
  { holding r e with bus := { pace := .fast, cyclePace := .fast, phase := .exchange ⟨0, false, false⟩ } }

/-- A quiet reply: the plug as given, a request of 3,500 steps, power 400, meter count 10. -/
def quiet (plug : Bool) : StatusReply :=
  { plug := plug, request := 3500, complete := false, power := 400, meter := 10, presentation := none, probe := .none,
    faults := 0, released := false }

/-- A quiet reply that repeats the presentation whose number pedestal 1 holds, as every reply after it does (R154). -/
def repeating (plug : Bool) : StatusReply :=
  { quiet plug with presentation := some ⟨7#8, 0x5100000000C39A11#64, .reader⟩ }

def queued (number : Nat) (d : Delivery) : SettlementRecord :=
  { buildRecord 0 ending opening1 grant1 .userStop State.reset with number := number, delivery := d }

/-- A queue with a DELIVERED record 398 before a PENDING record 412. -/
def queueing : State :=
  { State.reset with settlement := { queue := [queued 398 .delivered, queued 412 .pending] } }

def replying : State :=
  { State.reset with line := { sending := some (.reply ⟨0x81#8, 1#8, [0#8]⟩), mode := .attended, silenceTimer := some 5000 } }
def noticing : State :=
  { State.reset with line := { sending := some (.notice ⟨0, 9, [0#8, 0#8]⟩), replyWaiting := some ⟨0x81#8, 1#8, [0#8]⟩ } }
def halted : State :=
  { State.reset with
    bus := { phase := .stopped }
    supply := { runState := .halted } }
def restarting (kind : RestartKind) : State :=
  { State.reset with
    bus := { phase := .stopped }
    supply := { runState := .restarting, pendingRestart := some kind } }

/-! ## WellFormed refuses -/

theorem test_wf_body_of_241 : (Instr.statusRead 1 (zeros 241)).wellFormed = false := by decide +kernel
theorem test_wf_body_of_240 : (Instr.statusRead 1 (zeros 240)).wellFormed = true := by decide +kernel
theorem test_wf_fetch_with_number : (Instr.settleFetch 1 (zeros 2)).wellFormed = false := by decide
theorem test_wf_named_fetch_without : (Instr.settleFetchNamed 1 []).wellFormed = false := by decide
theorem test_wf_soft_with_hard_body : (Instr.restartSoft 1 [1#8]).wellFormed = false := by decide
theorem test_wf_hard_with_soft_body : (Instr.restartHard 1 [0#8]).wellFormed = false := by decide
theorem test_wf_badKind_of_a_request : (Instr.badKind 0x1D#8 1 []).wellFormed = false := by decide
theorem test_wf_badKind : (Instr.badKind 0x1E#8 1 []).wellFormed = true := by decide
theorem test_wf_discarded_empty : (Instr.frameDiscarded []).wellFormed = false := by decide
theorem test_wf_badSync_with_sync : (Instr.badSyncRun [⟨0xC3#8, true⟩]).wellFormed = false := by decide
theorem test_wf_badSync_empty : (Instr.badSyncRun []).wellFormed = false := by decide
theorem test_wf_reply_of_25 : (Instr.statusReply (zeros 25)).wellFormed = false := by decide
theorem test_wf_alert_broadcast : (Instr.alertSlot [31#5]).wellFormed = false := by decide
theorem test_wf_alert_twice : (Instr.alertSlot [3#5, 3#5]).wellFormed = false := by decide

/-- No row has table bits, so that no word spells a command. -/
theorem test_no_word_decodes : decodeTableWord 0 0 = none ∧ State.reset.withFetchWord 0 0 = State.reset := by
  decide +kernel

/-! ## Layouts (chapter 12) -/

/-- The check value of the CRC with polynomial 0x1021 and initial value 0xFFFF, not reflected. -/
theorem test_crc_check_value : crc16 (bs [0x31, 0x32, 0x33, 0x34, 0x35, 0x36, 0x37, 0x38, 0x39]) = 0x29B1#16 := by
  decide +kernel

/-- Section 12.1: sync, length, kind, tag, body, CRC. -/
theorem test_host_frame : (hostFrameBytes 0x07#8 40#8 (bs [4, 176])).take 6 = bs [0xC3, 2, 7, 40, 4, 176] := by decide +kernel

/-- Section 12.4: STOP-ALL is address 31, command 3, setpoint 0, display 11, reason 0x0C, extension 0. -/
theorem test_stop_all : stopAllFrame.bytes.take 7 = bs [31, 3, 0, 0, 11, 0x0C, 0] := by decide +kernel

/-- Section 12.2: a settlement record has 77 bytes and 5 for each band entry. -/
theorem test_record_length : (queued 412 .pending).bytes.length = 77 := by decide +kernel

/-! ## Requests -/

/-- R180 at a cold start: CLOSED, ATTENDED by this frame, SLOW, clock unset, empty queue, COLD, POWER-ON, no line error. -/
theorem test_statusRead : sent (after (.statusRead 5 []) State.reset) = some (bs [0, 0, 1, 0, 0, 0, 0, 0, 0, 0, 0]) := by
  decide +kernel

/-- R142: fast period 40 is moved to 50 and reported; quiet time keeps its value. -/
theorem test_parkSet_clamps :
    let t := after (.parkSet 5 (bs [0, 0, 1, 0, 40] ++ zeros 28)) State.reset
    t.settings.fastPeriod = 50 ∧ t.settings.quietTime = 60 ∧ sent t = some (bs [1, 1, 1, 0, 0, 0, 50]) := by decide +kernel
/-- R142: site cap 16,000 (bit 8) lies in its range. -/
theorem test_parkSet_site_cap :
    let t := after (.parkSet 5 (bs [0, 1, 0] ++ zeros 11 ++ bs [62, 128] ++ zeros 17)) State.reset
    t.settings.siteCap = 16000 ∧ sent t = some [0#8] := by decide +kernel

/-- R144: 30 bytes of settings, park state, clock flag and an absent stamp. -/
theorem test_parkRead :
    (sent (after (.parkRead 5 []) State.reset)).map (fun l => (l.length, l.take 3, l.drop 31)) =
      some (38, bs [0, 0, 100], bs [0, 0, 255, 255, 255, 255, 255]) := by decide +kernel

/-- R139: no window is enabled. -/
theorem test_parkOpen_wrong_state :
    (after (.parkOpen 5 []) State.reset).park = .closed ∧ sent (after (.parkOpen 5 []) State.reset) = some [9#8] := by
  decide +kernel
theorem test_parkOpen :
    (after (.parkOpen 5 []) { State.reset with windows := State.reset.windows.set 11 { enabled := true } }).park = .opened := by
  decide +kernel
theorem test_parkClose : (after (.parkClose 5 []) { State.reset with park := .opened }).park = .closed := by decide +kernel

/-- R137: second 86,399 is taken and 86,400 is not. -/
theorem test_clockSet : (after (.clockSet 5 (bs [1, 45, 1, 81, 127])) State.reset).clock = some ⟨301, 86399⟩ := by decide +kernel
theorem test_clockSet_out_of_range :
    (after (.clockSet 5 (bs [1, 45, 1, 81, 128])) State.reset).clock = none := by decide +kernel

/-- Chapter 5's base load of 1,200 steps. -/
theorem test_siteLoad :
    (after (.siteLoad 40 (bs [4, 176])) State.reset).alloc.baseLoad = some ⟨1200, 0⟩
      ∧ sent (after (.siteLoad 40 (bs [4, 176])) State.reset) = some (bs [0, 0, 0, 0, 0]) := by decide +kernel

/-- Chapter 7's two-band tariff 5: minute 0 at 41,000, minute 360 at 69,000, start fee 100. -/
def tariff5Body : List Byte :=
  bs [5, 2, 0, 0, 0, 0, 160, 40, 1, 104, 0, 1, 13, 136] ++ zeros 24 ++ bs [0, 100, 0, 0, 0]

theorem test_tariffWrite :
    (after (.tariffWrite 5 tariff5Body) State.reset).tariffs.get 5 =
      { defined := true, bands := [⟨0, 41000⟩, ⟨360, 69000⟩], startFee := 100 } := by decide +kernel
/-- Chapter 7: band 0 at minute 5 is refused whole. -/
theorem test_tariffWrite_band_zero :
    sent (after (.tariffWrite 5 (bs [5, 2, 0, 5] ++ tariff5Body.drop 4)) State.reset) = some [6#8] := by decide +kernel
theorem test_tariffRead :
    (sent (after (.tariffRead 5 [0#8]) (holding dispensing))).map (fun l => (l.take 9, l.drop 39)) =
      some (bs [0, 1, 1, 0, 0, 0, 1, 13, 136], bs [0, 100, 0, 40, 5, 1]) := by decide +kernel
/-- Chapter 7: a tariff that a session holds is IN-USE. -/
theorem test_tariffClear_in_use : sent (after (.tariffClear 5 [0#8]) (holding dispensing)) = some [8#8] := by decide +kernel
theorem test_tariffClear : (after (.tariffClear 5 [0#8]) (holding released)).tariffs.get 0 = {} := by decide +kernel

/-- Chapter 2's window 3. -/
def window3Body : List Byte :=
  bs [3, 1, 0x7A, 0, 0, 0, 0, 0, 0, 0, 0xFF, 0, 0, 0, 0, 0, 0, 0, 1, 3, 0, 0, 0, 0, 0, 0, 0, 1, 0, 0, 0, 1, 2, 0, 4, 0, 0, 0]
def window3 : Window :=
  { enabled := true, base := 0x7A00000000000000#64, mask := 0xFF00000000000000#64, translateEnabled := true,
    translate := 0x0300000000000000#64, mode := .refer, localHold := 1, tariff := 2, baseRank := 4 }

theorem test_windowWrite : (after (.windowWrite 5 window3Body) State.reset).windows.get 3 = window3 := by decide +kernel
theorem test_windowRead :
    (sent (after (.windowRead 5 [3#8]) { State.reset with windows := State.reset.windows.set 3 window3 })).map (·.take 37) =
      some (0#8 :: window3Body.take 36) := by decide +kernel
theorem test_windowRead_out_of_range : sent (after (.windowRead 5 [12#8]) State.reset) = some [6#8] := by decide +kernel
theorem test_windowClear :
    ((after (.windowClear 5 [3#8]) { State.reset with windows := Vector.replicate 12 window3 }).windows.get 3) = {} := by
  decide +kernel

/-- Enrolment with chapter 4's rating 3,500 and floor 50. -/
theorem test_enrol : ((after (.enrol 5 (bs [8, 13, 172, 0, 50, 2, 50])) State.reset).entry 7) =
    { enrolled := true, rating := 3500, floor := 50, extension := 2, maxCable := 50 } := by decide +kernel
theorem test_enrol_floor_of_nine : sent (after (.enrol 5 (bs [8, 13, 172, 0, 9, 2, 50])) State.reset) = some [6#8] := by
  decide +kernel
theorem test_withdraw_in_use : sent (after (.withdraw 5 [1#8]) (holding released)) = some [8#8] := by decide +kernel
theorem test_withdraw : (after (.withdraw 5 [1#8]) (exchanging {})).entry 0 = {}
    ∧ (after (.withdraw 5 [1#8]) (exchanging {})).bus.phase = .exchange ⟨0, false, true⟩ := by decide +kernel
/-- Chapter 9: UNBLOCK of a RELEASED record is taken. -/
theorem test_unblock :
    ((after (.unblock 5 [1#8]) (holding released { entry1 with blocked := true })).entry 0).blocked = false := by decide +kernel
theorem test_unblock_in_use : sent (after (.unblock 5 [1#8]) (holding probing)) = some [8#8] := by decide +kernel
theorem test_pedestalRead : sent (after (.pedestalRead 5 [1#8]) (holding {})) =
    some (bs [0, 1, 13, 172, 0, 50, 0, 0, 1, 0, 0, 0, 0, 0, 1, 1, 7, 0, 0]) := by decide +kernel
/-- Chapter 8: COUNTERS-READ returns 11 and clears it. -/
theorem test_countersRead :
    let t := after (.countersRead 5 []) (holding {} { entry1 with frameErrors := 11, missMark := true })
    sent t = some (bs [0, 11] ++ zeros 15) ∧ (t.entry 0).frameErrors = 0 ∧ (t.entry 0).missMark = false := by decide +kernel
theorem test_sessionRead : (sent (after (.sessionRead 5 [1#8]) (holding dispensing))).map (fun l => (l.length, l.take 4)) =
    some (122, bs [0, 1, 5, 1]) := by decide +kernel
/-- R30: a stop in DISPENSING begins ENDING with HOST-STOP; a wrong number is NOT-FOUND. -/
theorem test_sessionStop :
    let r := (after (.sessionStop 5 [1#8]) (holding dispensing)).session 0
    r.state = .ending ∧ r.endReason = some .hostStop ∧ r.endingDeadline = some 5000 ∧ r.alloc = {} := by decide +kernel
theorem test_sessionStop_wrong_number :
    sent (after (.sessionStop 5 (bs [1, 0, 2])) (holding dispensing)) = some [7#8] := by decide +kernel
/-- R96: a cap of 20 steps is moved to the floor of 50. -/
theorem test_sessionCap :
    let t := after (.sessionCap 5 (bs [1, 2, 0, 0, 0, 20])) (holding dispensing)
    (t.session 0).hostCap = some 50 ∧ sent t = some (bs [1, 1, 0, 0, 0, 0, 50]) := by decide +kernel
theorem test_sessionCap_free : sent (after (.sessionCap 5 (bs [1, 2, 0, 0, 0, 20])) (holding {})) = some [9#8] := by
  decide +kernel

/-- Chapter 1: a grant with hold 5,000 for a record without a plug leads to AUTHORIZED with the plug deadline. -/
theorem test_authDecision_grants :
    let r := (after (.authDecision 5 (bs [0, 1, 1, 0, 0, 0, 19, 136, 0, 0, 0, 0, 0])) (holding waiting)).session 0
    r.state = .authorized ∧ r.grant = some ⟨.referred, 0, 5000, 2, 8, some 1200⟩ ∧ r.plugDeadline = some 120000 := by
  decide +kernel
/-- Chapter 2: a hold below the start fee is answered DONE and cancelled with HOLD-TOO-SMALL. -/
theorem test_authDecision_small_hold :
    let t := after (.authDecision 5 (bs [0, 1, 1, 0, 0, 0, 0, 30, 0, 0, 0, 0, 0])) (holding waiting)
    (t.session 0).state = .free ∧ (t.session 0).refusal = some ⟨0x27#8, 5000⟩ ∧ sent t = some [0#8] := by decide +kernel
theorem test_queryList : sent (after (.queryList 5 []) (holding waiting)) =
    some (bs [0, 1, 0, 1, 1, 0x51, 0, 0, 0, 0, 0xC3, 0x9A, 0x11, 0, 0]) := by decide +kernel

/-- Chapter 6: the fetch returns the oldest PENDING record, and the confirm removes a DELIVERED one. -/
theorem test_settleFetch :
    let t := after (.settleFetch 5 []) queueing
    t.settlement.queue = [queued 398 .delivered, queued 412 .delivered]
      ∧ (sent t).map (·.take 4) = some (bs [0, 0, 1, 156]) := by decide +kernel
theorem test_settleFetchNamed : (sent (after (.settleFetchNamed 5 (bs [1, 142])) queueing)).map (·.take 4) =
    some (bs [0, 1, 1, 142]) := by decide +kernel
theorem test_settleFetchNamed_pending : sent (after (.settleFetchNamed 5 (bs [1, 156])) queueing) = some [0x0C#8] := by
  decide +kernel
theorem test_settleConfirm :
    (after (.settleConfirm 5 (bs [1, 142])) queueing).settlement.queue = [queued 412 .pending] := by decide +kernel

/-- R185: PARK-START and CLOCK-UNSET of a cold start, and LINK-RETURNED of this very frame. -/
theorem test_conditionsRead :
    let t := after (.conditionsRead 5 [0#8]) State.reset
    sent t = some (bs [0, 0, 0, 25, 0, 0, 0, 0]) ∧ (t.conds.park.get 3) = some ⟨true, .none⟩ := by decide +kernel
/-- R186: an unreported flag stays. -/
theorem test_conditionsClear :
    let s := { State.reset with conds := { park := #v[some ⟨true, .start .cold .powerOn⟩, none, none, some ⟨false, .none⟩, none] } }
    sent (after (.conditionsClear 5 (bs [0, 0, 9])) s) = some (bs [0, 0, 24]) := by decide +kernel
theorem test_conditionsMask : (after (.conditionsMask 5 (bs [4, 1, 16])) State.reset).conds.pedMask = 0x401#11
    ∧ (after (.conditionsMask 5 (bs [4, 1, 16])) State.reset).conds.parkMask = 16#5 := by decide +kernel
/-- R192: SOFT stops every session and enters RESTARTING; HARD is WRONG-STATE while a session is open. -/
theorem test_restartSoft :
    let t := after (.restartSoft 5 [0#8]) (holding dispensing)
    t.supply.runState = .restarting ∧ (t.session 0).endReason = some .hostRestart ∧ t.bus.lastFrame = some stopAllFrame
      ∧ sent t = some [0#8] := by decide +kernel
theorem test_restartHard : sent (after (.restartHard 5 [1#8]) (holding dispensing)) = some [9#8] := by decide +kernel
/-- R177: kind 0x1E is answered with kind 0x9E, and kind 0x80 with kind 0xFF. -/
theorem test_badKind :
    (after (.badKind 0x1E#8 5 []) State.reset).line.sending = some (.reply ⟨0x9E#8, 5, bs [4, 0x1E]⟩)
      ∧ (after (.badKind 0x80#8 5 []) State.reset).line.sending = some (.reply ⟨0xFF#8, 5, bs [4, 0x80]⟩) := by decide +kernel

/-! ## The host line -/

theorem test_frameDiscarded : (after (.frameDiscarded (goodChars (bs [0xC3, 241]))) State.reset).line.lineErrors = 1 := by
  decide +kernel
/-- R176: noise costs one count however many bytes it spans. -/
theorem test_badSyncRun : (after (.badSyncRun (goodChars (bs [1, 2, 3]))) State.reset).line.lineErrors = 1 := by decide +kernel
theorem test_frameGapTimeout :
    (after (.frameGapTimeout (goodChars (bs [0xC3, 2, 7]))) State.reset).line =
      { State.reset.line with lineErrors := 1 } := by decide +kernel
theorem test_linkSilenceExpiry :
    (after .linkSilenceExpiry replying).line.mode = .standalone ∧ (after .linkSilenceExpiry replying).timebase = 5000 := by
  decide +kernel
/-- Chapter 10: the notice of set 0 follows the reply; after it nothing is left to report. -/
theorem test_replySent : (after .replySent replying).line.sending = some (.notice ⟨0, 9, bs [0, 0]⟩) := by decide +kernel
theorem test_notice : (after .notice State.reset).line.sending = some (.notice ⟨0, 9, bs [0, 0]⟩)
    ∧ (after .notice State.reset).conds.park.get 0 = some ⟨true, .start .cold .powerOn⟩ := by decide +kernel
theorem test_noticeSent : (after .noticeSent noticing).line.sending = some (.reply ⟨0x81#8, 1#8, [0#8]⟩) := by decide +kernel

/-! ## The pedestal bus -/

theorem test_cycleStart : (after .cycleStart (holding {})).bus.lastFrame = some ⟨1, .none, 0, .idle, 0, 0⟩
    ∧ (after .cycleStart (holding {})).bus.nextCycle = 1000 := by decide +kernel

/-- Chapter 3's accrual example, replies c and d. -/
def accruing : State :=
  { exchanging { metered with
      baseline := 16777203
      meter := { energyTotal := 20136, bandEnergy := #v[0, 20136, 0, 0, 0, 0], costWhole := 1206, costRemainder := 120000,
                 startFeeCharged := true } } with
    clock := some ⟨0, 64800⟩
    tariffs := State.reset.tariffs.set 0 tariff4 }

theorem test_statusReply_accrues :
    let r := (after (.statusReply ((quiet true).bytes 0)) accruing).session 0
    r.meter = { energyTotal := 20159, bandEnergy := #v[0, 20136, 23, 0, 0, 0], costWhole := 1207, costRemainder := 810500,
                startFeeCharged := true } ∧ r.baseline = 10 ∧ r.alloc.request = 3500 := by decide +kernel
theorem test_statusReply_meter_jump :
    let r := (after (.statusReply (({ quiet true with meter := 131 } : StatusReply).bytes 0))
      { accruing with records := accruing.records.set 0 { metered with baseline := 10 } }).session 0
    r.meter = metered.meter ∧ r.baseline = 131 ∧ r.flags.meterJump = true := by decide +kernel

/-- R5: the fault of the reply ends the session, and the plug-out beside it is taken in ENDING. -/
theorem test_statusReply_estop_with_plugOut :
    let r := (after (.statusReply (({ quiet false with faults := 1#4, power := 9 } : StatusReply).bytes 0)) (exchanging dispensing)).session 0
    r.state = .ending ∧ r.endReason = some .estop ∧ r.hasPlug = .no := by decide +kernel

/-- Chapter 8: the fifth miss makes the pedestal LOST and closes the session with METER-GAP. -/
theorem test_exchangeMiss :
    let t := after (.exchangeMiss .noReply) (exchanging dispensing { entry1 with misses := 4, frameErrors := 4 })
    (t.entry 0).link = .lost ∧ (t.entry 0).misses = 5 ∧ (t.session 0).state = .released ∧ (t.session 0).hasPlug = .unknown
      ∧ t.settlement.queue.map (fun q => (q.endReason, q.flags.meterGap)) = [(.pedestalLost, true)] := by decide +kernel

/-- Chapter 8: pedestals 3 and 5 contend, the slot reads 00011 and pedestal 3 wins. -/
theorem test_alertSlot_contention : contentionField [5#5, 3#5] = 3 ∧ contentionField [] = 31 := by decide
theorem test_alertSlot :
    (after (.alertSlot [5#5, 1#5]) { holding {} with bus := { phase := .alertSlot } }).bus.phase =
      .exchange ⟨0, true, false⟩ := by decide +kernel
theorem test_quietTimerExpiry :
    (after .quietTimerExpiry { State.reset with bus := { pace := .fast, quietTimer := some 60000 } }).bus.pace = .slow := by
  decide +kernel

/-! ## Session timers -/

/-- Chapter 2: the fallback of the fourth token has hold 2,000 and the window's cap. -/
theorem test_authDeadlineExpiry :
    let t := after (.authDeadlineExpiry 0) (holding waiting)
    (t.session 0).grant = some ⟨.fallback, 0, 2000, 2, 8, some 1200⟩ ∧ t.timebase = 20000 := by decide +kernel
theorem test_plugDeadlineExpiry :
    (after (.plugDeadlineExpiry 0) (holding authorized)).settlement.queue.map (·.endReason) = [.noVehicle] := by decide +kernel
/-- R166: three attempts are allowed with the default retries of 2. -/
theorem test_probeDeadlineExpiry :
    ((after (.probeDeadlineExpiry 0) (holding probing)).session 0).probeAttempts = 2
      ∧ (after (.probeDeadlineExpiry 0) (holding { probing with probeAttempts := 3 })).settlement.queue.map (·.endReason)
        = [.cableOpen] := by decide +kernel
theorem test_endingDeadlineExpiry :
    (after (.endingDeadlineExpiry 0) (holding ending)).settlement.queue.map (·.endReason) = [.userStop] := by decide +kernel
theorem test_refusalDisplayExpiry :
    ((after (.refusalDisplayExpiry 0) (holding { refusal := some ⟨0x24#8, 5000⟩ })).session 0).refusal = none := by decide +kernel
/-- Chapter 7: the tick from second 86,399 goes to day 302, second 0. -/
theorem test_oneSecondTick :
    (after .oneSecondTick { State.reset with clock := some ⟨301, 86399⟩ }).clock = some ⟨302, 0⟩ := by decide +kernel
theorem test_oneSecondTick_occupying :
    ((after .oneSecondTick (holding occupying)).session 0).meter.occupyingSeconds = 1 := by decide +kernel
theorem test_suspendLimit :
    ((after (.suspendLimit 0) { holding suspended with tickDue := 901000 }).session 0).state = .occupying
      ∧ ((after (.suspendLimit 0) { holding suspended with tickDue := 900999 }).session 0).state = .suspended := by
  decide +kernel
/-- Chapter 3: the minute of second 301 is charged, and the one of second 601 capped. -/
theorem test_idleMinute :
    let at_ (seconds minutes fee : Nat) := (after (.idleMinute 0) (holding { occupying with meter :=
      { occupying.meter with occupyingSeconds := seconds, idleMinutes := minutes, idleFee := fee } })).session 0
    (at_ 301 0 0).meter.idleFee = 40 ∧ (at_ 300 0 0).meter.idleFee = 0
      ∧ (at_ 601 5 200).meter.idleFee = 200 ∧ (at_ 601 5 200).flags.idleCapped = true := by decide +kernel

/-! ## Money and power -/

/-- Chapter 3's close figures at the edge of the hold, hold 5,000 and start fee 100. -/
theorem test_close_figures :
    let f (whole remainder : Nat) := closeFigures tariff69 5000 { costWhole := whole, costRemainder := remainder, startFeeCharged := true }
    f 4899 500000 = ⟨100, 4900, 5000, 5000, 0⟩ ∧ f 4899 499999 = ⟨100, 4899, 4999, 4999, 0⟩
      ∧ f 4950 250000 = ⟨100, 4950, 5050, 5000, 50⟩ ∧ f 4901 587000 = ⟨100, 4902, 5002, 5000, 2⟩ := by decide +kernel

/-- Chapter 4's cover caps at cycles 0 to 3. -/
theorem test_cover_caps :
    let cap (whole remainder : Nat) :=
      coverCap (coverOf 5000 tariff69 { costWhole := whole, costRemainder := remainder, startFeeCharged := true }) 69000 100
    cap 4898 10000 = 5040 ∧ cap 4898 700000 = 3240 ∧ cap 4899 390000 = 1440 ∧ cap 4900 11000 = 0 := by decide +kernel

/-- Chapter 5's peak-hour round: seven candidates and a budget of 14,500. -/
theorem test_peak_hour_round :
    let c (n : Ped) (demand rank : Nat) : Candidate := ⟨n, 50, demand, rank⟩
    let order := [c 0 3500 0, c 1 2000 1, c 2 4000 1, c 3 3500 2, c 4 2500 2, c 5 3000 3, c 6 1200 3]
    let pass := floorPass 14500 order
    pass.2.1 = [] ∧ fillPass pass.2.2 pass.1 =
      [(0, 2260), (1, 2000), (2, 2260), (3, 2260), (4, 2260), (5, 2260), (6, 1200)] := by decide +kernel

/-- Chapter 2's window table: the matches and the third token's account reference. -/
def windows2 : Vector Window 12 :=
  ((((Vector.replicate 12 ({} : Window)).set 0
    { enabled := true, base := 0x5100000000000000#64, mask := 0xFF00000000000000#64, mode := .localMode }).set 1
    { enabled := true, base := 0x7A00000000000042#64, mask := BitVec.allOnes 64, mode := .deny }).set 3 window3).set 5
    { enabled := true, base := 0x6C00000000000000#64, mask := 0xFF00000000000000#64, mode := .referFallback }

theorem test_window_table :
    let s := { State.reset with windows := windows2 }
    s.matchWindow 0x5100000000C39A11#64 = some 0 ∧ s.matchWindow 0x7A00000000000042#64 = some 1
      ∧ s.matchWindow 0x7A001F0000000042#64 = some 3 ∧ s.matchWindow 0x6C123456789ABCDE#64 = some 5
      ∧ s.matchWindow 0x9900000000000007#64 = none
      ∧ window3.account 0x7A001F0000000042#64 = 0x03001F0000000042#64 := by decide +kernel

/-- Chapter 6: the counter near its wrap. -/
theorem test_counter_wrap :
    firstNotHeld [1, 2, 3, 65534, 65535] 5 65535 = 4 ∧ numberAfter 65535 = 1 ∧ numberAfter 65534 = 65535 := by decide

/-! ## Supply and starts -/

/-- R189: a supply warning closes the session, asks for STOP-ALL and halts. -/
theorem test_supplyWarning :
    let t := after .supplyWarning (holding dispensing)
    t.supply.runState = .halted ∧ t.supply.warningInput = true ∧ t.bus.lastFrame = some stopAllFrame
      ∧ t.settlement.queue.map (·.endReason) = [.supplyLoss] ∧ t.settlement.reserved = 0 := by decide +kernel
theorem test_reset : (after .reset (holding ending)).settlement.queue.map (·.endReason) = [.userStop]
    ∧ (after .reset (holding ending)).supply.resetSeen = true := by decide +kernel
theorem test_supplyFail : (after .supplyFail (holding waiting)).settlement = { counter := 2 }
    ∧ (after .supplyFail (holding waiting)).supply.mainSupply = .below := by decide +kernel
theorem test_retentionLoss : (after .retentionLoss halted).settlement.markerValid = false := by decide +kernel
/-- R128: a start without a valid marker is COLD, and the state of reset. -/
theorem test_powerOn_cold :
    after .powerOn { halted with settlement := { queueing.settlement with markerValid := false } } = State.reset := by
  decide +kernel
/-- R129: a WARM start keeps the queue with every record PENDING. -/
theorem test_powerOn_warm :
    (after .powerOn { halted with settlement := queueing.settlement }).settlement.queue =
      [queued 398 .pending, queued 412 .pending] := by decide +kernel
theorem test_haltedStart :
    (after .haltedStart halted).supply = { startKind := .warm, startCause := .supplyRelease }
      ∧ (after .haltedStart { halted with supply := { halted.supply with resetSeen := true } }).supply.startCause = .resetInput := by
  decide +kernel
theorem test_softRestart :
    (after .softRestart { restarting .soft with windows := windows2 }).windows = windows2
      ∧ (after .softRestart (restarting .soft)).supply.startCause = .restartSoft := by decide +kernel
theorem test_hardRestart :
    (after .hardRestart { restarting .hard with windows := windows2 }).windows = State.reset.windows
      ∧ (after .hardRestart (restarting .hard)).supply = { startKind := .warm, startCause := .restartHard } := by decide +kernel

/-! ## The hypotheses of the obligations are met

`witness_<Name>` meets those of `Obligations.<Name>`, clause by clause, at boundary values where a clause has a range; where
a statement has several parts, a part's own witness carries a suffix. -/

theorem witness_StepRunsTheFrontCommand :
    { State.reset with pending := [.oneSecondTick, .notice] }.pending = .oneSecondTick :: [.notice] := rfl

theorem witness_IdleStepPassesOneMillisecond :
    State.reset.pending = [] ∧ State.reset.supply.mainSupply ≠ .absent
      ∧ { State.reset with supply := { mainSupply := .absent } }.supply.mainSupply = .absent := by decide +kernel

theorem witness_CommandsKeepTheQueue : ∃ t, exec .oneSecondTick State.reset = .next t := ⟨_, rfl⟩

def fullList : State := { replying with line := { replying.line with busyList := List.replicate 8 ⟨0x81#8, 1#8, [2#8]⟩ } }

theorem witness_BusyRequestsAreRefused :
    requestFrame (.parkRead 0 []) = some (0x03#8, 0#8, []) ∧ (0x03#8).toNat < 0x80 ∧ replying.supply.runState = .running
      ∧ replying.line.busy = true ∧ replying.line.busyList.length < 8 ∧ fullList.line.busy = true
      ∧ fullList.line.busyList.length = 8 ∧ requestFrame (.badKind 0x7F#8 1 []) = some (0x7F#8, 1#8, []) := by
  decide +kernel

theorem witness_BadTagKindAndLengthAreRefused :
    requestFrame (.badKind 0x7F#8 0 []) = some (0x7F#8, 0#8, []) ∧ requestFrame (.restartHard 1 []) = some (0x1D#8, 1#8, [])
      ∧ isRequestKind 0x1D#8 = true ∧ isRequestKind 1#8 = true ∧ ([] : List Byte).length ∉ acceptedLengths 0x1D#8
      ∧ State.reset.line.busy = false ∧ State.reset.supply.runState = .running ∧ State.reset.Ready 1
      ∧ isRequestKind 0#8 = false ∧ isRequestKind 0x1E#8 = false ∧ isRequestKind 0x80#8 = false := by decide +kernel

theorem witness_OnlyARunningDeviceTakesTheHostLine :
    halted.supply.runState ≠ .running ∧ (restarting .soft).supply.runState ≠ .running
      ∧ requestFrame (.statusRead 1 []) = some (0x01#8, 1#8, []) := by decide +kernel

theorem witness_DiscardedFramesCountOneLineError :
    State.reset.supply.runState = .running ∧ State.reset.line.parser = .hunt false ∧ (zeros 240).length ≤ 240
      ∧ [0#8, 0#8] ≠ crcBytes (hostFrameCore 1 1 [])
      ∧ 240 < (241#8).toNat ∧ 0 < 1 ∧ 1 < (hostFrameBytes 1 1 []).length ∧ 5 < (hostFrameBytes 1 1 []).length
      ∧ [(⟨0xC3#8, false⟩ : RxChar)] ≠ [] ∧ noSync [⟨0xC3#8, false⟩, ⟨0#8, true⟩] = true := by decide +kernel

theorem witness_ReceivedFramesAreTheirCommands :
    requestFrame (.badKind 0xFF#8 0 (zeros 240)) = some (0xFF#8, 0#8, zeros 240) ∧ (zeros 240).length ≤ 240
      ∧ State.reset.supply.runState = .running ∧ State.reset.line.parser = .hunt false
      ∧ requestFrame (.statusRead 1 []) = some (0x01#8, 1#8, []) := by decide +kernel

theorem witness_StatusReadReportsAndClearsErrors : State.reset.Ready 1 ∧ (holding dispensing).Ready 255 := by decide +kernel

theorem witness_ParkSetTakesEachValueAtItsNearestLimit :
    State.reset.Ready 1 ∧ (zeros 33).length = 33 ∧ fieldAt (zeros 33) 0 3 < 2 ^ 19
      ∧ 2 ^ 19 ≤ fieldAt (bs [8, 0, 0] ++ zeros 30) 0 3 ∧ fieldAt (bs [7, 255, 255] ++ zeros 30) 0 3 < 2 ^ 19
      ∧ parkMoved (zeros 33) = [] ∧ parkMoved (bs [7, 255, 255] ++ zeros 30) ≠ [] := by decide +kernel

theorem witness_ParkReadReportsEverySetting :
    State.reset.Ready 1 ∧ State.reset.clock = none ∧ { State.reset with clock := some ⟨65534, 86399⟩ }.Ready 1 := by
  decide +kernel

theorem witness_ParkStateClockAndLoadAreSet :
    State.reset.Ready 1 ∧ (∀ i, (State.reset.windows.get i).enabled = false)
      ∧ (({ State.reset with windows := windows2 } : State).windows.get 5).enabled = true
      ∧ (fieldAt (bs [255, 254, 1, 81, 127]) 0 2 = 65534 ∧ fieldAt (bs [255, 254, 1, 81, 127]) 2 3 = 86399)
      ∧ 65534 < fieldAt (bs [255, 255, 0, 0, 0]) 0 2 ∧ 86399 < fieldAt (bs [0, 0, 1, 81, 128]) 2 3
      ∧ (bs [255, 255]).length = 2 := by decide +kernel

theorem usesTariff_dispensing : (holding dispensing).UsesTariff 0 :=
  ⟨0, grant1, by decide +kernel, by decide +kernel, rfl⟩

theorem usesTariff_reset (i : Fin 8) : ¬ State.reset.UsesTariff i := by
  rintro ⟨n, g, h, -, -⟩
  revert n
  decide +kernel

theorem witness_TariffsAreWrittenReadAndCleared :
    (holding dispensing).Ready 1 ∧ tariff5Body.length = 43 ∧ TariffBodyGood tariff5Body
      ∧ fieldAt tariff5Body 0 1 = (5 : Fin 8).val ∧ ¬ TariffBodyGood (zeros 43) ∧ fieldAt (zeros 43) 0 1 = (0 : Fin 8).val
      ∧ 7 < fieldAt (bs [8] ++ zeros 42) 0 1
      ∧ TariffBodyGood (bs [7, 6] ++ (bs [0, 0, 0, 152, 150, 127] ++ (List.range 5).flatMap fun j =>
          bs [5, 155 + j, 0, 152, 150, 127]) ++ bs [255, 255, 255, 255, 240])
      ∧ State.reset.Ready 1 := by decide +kernel
theorem witness_TariffsAreWrittenReadAndCleared_use :
    (holding dispensing).UsesTariff 0 ∧ ∀ i, ¬ State.reset.UsesTariff i :=
  ⟨usesTariff_dispensing, usesTariff_reset⟩

theorem witness_TariffsAreWrittenReadAndCleared_read :
    (holding dispensing).Ready 1 ∧ State.reset.Ready 1 ∧ 7 < fieldAt [8#8] 0 1 ∧ fieldAt [0#8] 0 1 = (0 : Fin 8).val
      ∧ fieldAt [7#8] 0 1 = (7 : Fin 8).val := by decide +kernel
theorem witness_WindowsAreWrittenReadAndCleared :
    State.reset.Ready 1 ∧ window3Body.length = 38 ∧ fieldAt window3Body 0 1 = (3 : Fin 12).val ∧ WindowBodyGood window3Body
      ∧ fieldAt (bs [11] ++ window3Body.drop 1) 0 1 = (11 : Fin 12).val ∧ WindowBodyGood (bs [11] ++ window3Body.drop 1)
      ∧ 11 < fieldAt (bs [12] ++ window3Body.drop 1) 0 1 ∧ ¬ WindowBodyGood (zeros 38) := by decide +kernel

theorem witness_WindowsAreWrittenReadAndCleared_read :
    State.reset.Ready 1 ∧ 11 < fieldAt [12#8] 0 1 ∧ fieldAt [11#8] 0 1 = (11 : Fin 12).val
      ∧ (State.reset.windows.get 11).powerCap = none
      ∧ (({ State.reset with windows := Vector.replicate 12 { powerCap := some 1200 } } : State).windows.get 0).powerCap
        = some 1200 := by decide +kernel

theorem witness_LowestEnabledHittingWindowMatches :
    (windows2.get 1).mask = BitVec.allOnes 64 ∧ (windows2.get 2).mask = 0
      ∧ (((acceptToken 0 5 .reader { State.reset with windows := windows2, line := { mode := .attended } }).session 0).opening).isSome
        = true := by decide +kernel

theorem witness_AuthDecisionGrantsOrDenies :
    let s := holding waiting
    let grant := bs [0, 1, 1, 7, 0, 15, 66, 63, 0, 0, 1, 15, 0]
    s.Ready 1 ∧ (∀ n, ¬ s.WaitsUnder n (fieldAt (zeros 13) 0 2)) ∧ s.WaitsUnder 0 (fieldAt grant 0 2)
      ∧ (∀ m, m ≠ 0 → ¬ s.WaitsUnder m (fieldAt grant 0 2)) ∧ grant.length = 13 ∧ fieldAt grant 2 1 = 1
      ∧ fieldAt grant 3 1 = 7 ∧ fieldAt grant 4 4 = 999999 ∧ (s.session 0).captured.isSome = true
      ∧ fieldAt (bs [0, 1, 2] ++ zeros 10) 2 1 > 1 ∧ fieldAt (bs [0, 1, 0, 8] ++ zeros 9) 3 1 > 7
      ∧ fieldAt (bs [0, 1, 0] ++ zeros 10) 2 1 = 0 := by decide +kernel
theorem witness_AuthDecisionGrantsOrDenies_good :
    (holding waiting).DecisionGood (bs [0, 1, 1, 7, 0, 15, 66, 63, 0, 0, 1, 15, 0])
      ∧ ¬ (holding waiting).DecisionGood (bs [0, 1, 1, 0, 0, 0, 0, 0, 0, 0, 0, 0, 0]) := by
  refine ⟨⟨by decide +kernel, fun t h => ?_, fun c h => ?_, fun k h => ?_⟩, fun h => absurd h.1 (by decide +kernel)⟩
  · rw [show decisionField (bs [0, 1, 1, 7, 0, 15, 66, 63, 0, 0, 1, 15, 0]) 0 8 1 = some 0 by decide +kernel] at h
    obtain rfl := Option.some.inj h
    decide +kernel
  · rw [show decisionField (bs [0, 1, 1, 7, 0, 15, 66, 63, 0, 0, 1, 15, 0]) 1 9 2 = some 1 by decide +kernel] at h
    obtain rfl := Option.some.inj h
    decide
  · rw [show decisionField (bs [0, 1, 1, 7, 0, 15, 66, 63, 0, 0, 1, 15, 0]) 2 11 1 = some 15 by decide +kernel] at h
    obtain rfl := Option.some.inj h
    decide

theorem witness_PedestalsAreEnrolledWithdrawnAndUnblocked :
    State.reset.Ready 1 ∧ EnrolBodyGood (bs [16, 19, 136, 0, 10, 7, 255]) ∧ fieldAt (bs [16, 19, 136, 0, 10, 7, 255]) 0 1
        = (15 : Ped).number ∧ fieldAt (zeros 7) 0 1 = 0 ∧ 16 < fieldAt (bs [17] ++ zeros 6) 0 1
      ∧ ¬ EnrolBodyGood (bs [1, 0, 10, 0, 11, 7, 0]) ∧ (holding dispensing).Ready 1
      ∧ ((holding dispensing).entry 0).enrolled = true ∧ ((holding dispensing).session 0).alloc.grantState = .powered
      ∧ ((holding dispensing).entry 1).enrolled = false := by decide +kernel

theorem witness_PedestalsAreEnrolledWithdrawnAndUnblocked_withdraw :
    (exchanging {}).Ready 1 ∧ fieldAt [0#8] 0 1 = 0 ∧ 16 < fieldAt [17#8] 0 1 ∧ fieldAt [1#8] 0 1 = (0 : Ped).number
      ∧ fieldAt [16#8] 0 1 = (15 : Ped).number ∧ ((exchanging {}).entry 15).enrolled = false
      ∧ ((exchanging {}).entry 0).enrolled = true ∧ ((exchanging {}).session 0).state = .free
      ∧ (exchanging {}).bus.phase = .exchange ⟨0, false, false⟩ ∧ (holding released).Ready 1
      ∧ ((holding released).entry 0).enrolled = true ∧ ((holding released).session 0).state = .released
      ∧ (holding probing).Ready 1 ∧ ((holding probing).session 0).state = .probing := by decide +kernel

theorem witness_PedestalReadReportsTheEntry :
    (holding dispensing).Ready 1 ∧ fieldAt [0#8] 0 1 = 0 ∧ 16 < fieldAt [17#8] 0 1 ∧ fieldAt [1#8] 0 1 = (0 : Ped).number
      ∧ ((holding dispensing).entry 0).Valid ∧ fieldAt [16#8] 0 1 = (15 : Ped).number
      ∧ ((holding dispensing).entry 15).Valid ∧ ((holding dispensing).entry 15).enrolled = false := by decide +kernel

theorem witness_CountersQueriesAndSessionsAreRead :
    (holding waiting).Ready 1 ∧ fieldAt [0#8] 0 1 = 0 ∧ 16 < fieldAt [17#8] 0 1 ∧ fieldAt [16#8] 0 1 = (15 : Ped).number := by
  decide +kernel

theorem witness_SessionStopEndsTheSession :
    (∀ r ∈ [waiting, authorized, probing, dispensing, suspended, occupying, ending], (holding r).Ready 1
        ∧ ((holding r).session 0).state.isOpen = true
        ∧ ((holding r).session 0).opening.map (·.number) = some (fieldAt (bs [1, 0, 1]) 1 2))
      ∧ fieldAt (bs [1, 0, 1]) 0 1 = (0 : Ped).number ∧ fieldAt (bs [1, 0, 1]) 1 2 ≠ 0 ∧ fieldAt (bs [1, 0, 0]) 1 2 = 0
      ∧ fieldAt [0#8] 0 1 = 0 ∧ 16 < fieldAt [17#8] 0 1
      ∧ ((holding waiting).session 0).opening.map (·.number) ≠ some (fieldAt (bs [1, 0, 2]) 1 2)
      ∧ (holding {}).Ready 1 ∧ ((holding {}).session 0).state.isOpen = false := by decide +kernel

theorem witness_SessionCapSetsTheHostCap :
    let named := bs [1, 3, 0, 1, 0, 50]
    (holding dispensing).Ready 1 ∧ named.length = 6 ∧ fieldAt named 0 1 = (0 : Ped).number ∧ fieldAt named 1 1 ≤ 3
      ∧ (fieldAt named 1 1).testBit 0 = true ∧ (fieldAt named 1 1).testBit 1 = true
      ∧ ((holding dispensing).session 0).state.isOpen = true
      ∧ ((holding dispensing).session 0).opening.map (·.number) = some (fieldAt named 2 2)
      ∧ ((holding dispensing).entry 0).floor = fieldAt named 4 2
      ∧ fieldAt (bs [1, 2, 0, 0, 0, 49]) 4 2 < ((holding dispensing).entry 0).floor
      ∧ (fieldAt (bs [1, 0, 0, 0, 0, 0]) 1 1).testBit 1 = false ∧ fieldAt (bs [1, 4, 0, 0, 0, 0]) 1 1 > 3
      ∧ ((holding dispensing).session 0).opening.map (·.number) ≠ some (fieldAt (bs [1, 1, 0, 2, 0, 0]) 2 2)
      ∧ (holding {}).Ready 1 ∧ ((holding {}).session 0).state.isOpen = false := by decide +kernel

theorem witness_SettlementRecordsAreFetchedAndConfirmed :
    queueing.Ready 1 ∧ queueing.settlement.queue = [queued 398 .delivered] ++ queued 412 .pending :: []
      ∧ (∀ q ∈ [queued 398 .delivered], q.delivery = .delivered) ∧ (queued 412 .pending).delivery = .pending
      ∧ State.reset.Ready 1 ∧ (∀ r ∈ State.reset.settlement.queue, r.delivery = .delivered) := by decide +kernel

theorem witness_SettlementRecordsAreFetchedAndConfirmed_named :
    queueing.Ready 1 ∧ fieldAt (zeros 2) 0 2 = 0 ∧ fieldAt (bs [255, 255]) 0 2 ≠ 0
      ∧ (∀ r ∈ queueing.settlement.queue, r.number ≠ fieldAt (bs [255, 255]) 0 2)
      ∧ queueing.settlement.queue = [] ++ queued 398 .delivered :: [queued 412 .pending]
      ∧ (queued 398 .delivered).number = fieldAt (bs [1, 142]) 0 2 ∧ (queued 398 .delivered).delivery = .delivered
      ∧ queueing.settlement.queue = [queued 398 .delivered] ++ queued 412 .pending :: []
      ∧ (∀ q ∈ [queued 398 .delivered], q.number ≠ fieldAt (bs [1, 156]) 0 2)
      ∧ (queued 412 .pending).number = fieldAt (bs [1, 156]) 0 2 := by decide +kernel

theorem witness_ConditionsAreReadClearedAndMasked :
    State.reset.Ready 1 ∧ 16 < fieldAt [17#8] 0 1 ∧ fieldAt [0#8] 0 1 = 0 ∧ fieldAt [16#8] 0 1 = (15 : Ped).number
      ∧ 16 < fieldAt (bs [17, 0, 1]) 0 1 ∧ fieldAt (bs [0, 0, 0]) 1 2 = 0 ∧ fieldAt (bs [0, 0, 32]) 1 2 = 2 ^ 5
      ∧ fieldAt (bs [16, 8, 0]) 1 2 = 2 ^ 11 ∧ fieldAt (bs [0, 0, 31]) 1 2 < 2 ^ 5 ∧ fieldAt (bs [16, 7, 255]) 1 2 < 2 ^ 11
      ∧ fieldAt (bs [8, 0, 0]) 0 2 = 2 ^ 11 ∧ fieldAt (bs [0, 0, 32]) 2 1 = 2 ^ 5 ∧ fieldAt (bs [7, 255, 31]) 0 2 < 2 ^ 11
      ∧ fieldAt (bs [7, 255, 31]) 2 1 < 2 ^ 5 := by decide +kernel

theorem witness_GrantsAreCheckedAndTaken :
    ((holding waiting).session 0).state = .authorizing ∧ ((holding waiting).tariffs.get 1).defined = false
      ∧ ((holding waiting).tariffs.get 0).defined = true ∧ 99 < ((holding waiting).tariffs.get 0).startFee
      ∧ ((holding waiting).tariffs.get 0).startFee ≤ 100 ∧ ((holding waiting).session 0).hasPlug ≠ .yes
      ∧ ((holding { waiting with hasPlug := .yes }).session 0).hasPlug = .yes
      ∧ ((holding { waiting with hasPlug := .yes }).session 0).state = .authorizing := by decide +kernel

theorem witness_CancelAndCloseFreeTheRecord :
    ((holding waiting).session 0).state ≠ .free ∧ (∀ m, m ≠ 0 → ((holding waiting).session m).state = .free)
      ∧ ((holding waiting).session 0).hasPlug = .no ∧ ((holding dispensing).session 0).opening = some opening1
      ∧ ((holding dispensing).session 0).grant = some grant1 ∧ ((holding dispensing).session 0).hasPlug = .yes
      ∧ ((holding authorized).session 0).grant = some grant1 ∧ ((holding authorized).session 0).hasPlug = .no
      ∧ ((holding authorized).setSession 1 released).session 1 = released := by decide +kernel

theorem witness_SettlementRecordCarriesTheSession :
    ending.meter.startFeeCharged = ending.state.energyFlow ∧ ending.meter.costWhole < 4294967295 := by decide +kernel

theorem witness_EnergyCostRoundsHalfUp :
    ({ costWhole := 4294967294, costRemainder := 500000 } : Meter).costWhole < 4294967295
      ∧ 500000 ≤ ({ costWhole := 4294967294, costRemainder := 500000 } : Meter).costRemainder
      ∧ ({ costWhole := 0, costRemainder := 499999 } : Meter).costRemainder < 500000
      ∧ ({ costWhole := 4294967295, costRemainder := 999999 } : Meter).costWhole = 4294967295 := by decide +kernel

theorem witness_HaltClosesOrCancelsEverySession :
    (∀ r ∈ [waiting, authorized, dispensing, ending, released], (holding r).RecordsShaped)
      ∧ ((holding authorized).session 0).hasPlug = .no ∧ ((holding dispensing).session 0).hasPlug ≠ .no
      ∧ (holding authorized).closingRecords .supplyLoss ≠ []
      ∧ (∀ n, ((forPedestals (haltSession .supplyLoss) (holding authorized)).session n).state = .free)
      ∧ (let s : State := { holding authorized with
            settlement := { queue := List.replicate 19 (queued 398 .pending), reserved := 1, counter := 2 } };
          s.RecordsShaped ∧ (s.settlement.queue ++ s.closingRecords .supplyLoss).length = s.settings.highMark) := by
  decide +kernel

def newsAt16 : State :=
  { State.reset with conds := { ped := State.reset.conds.ped.set 15 ((State.reset.conds.ped.get 15).set 0 (some ⟨false, .none⟩)),
                                lastNotice := some 3 } }

theorem witness_FramesFollowEachOther :
    replying.line.sending = some (.reply ⟨0x81#8, 1#8, [0#8]⟩) ∧ replying.line.replyWaiting = none ∧ replying.line.busyList = []
      ∧ noticing.line.sending = some (.notice ⟨0, 9, [0#8, 0#8]⟩) ∧ noticing.line.replyWaiting = some ⟨0x81#8, 1#8, [0#8]⟩
      ∧ fullList.line.replyWaiting = none
      ∧ fullList.line.busyList = ⟨0x81#8, 1#8, [2#8]⟩ :: List.replicate 7 ⟨0x81#8, 1#8, [2#8]⟩
      ∧ State.reset.line.sending = none ∧ State.reset.supply.runState = .running
      ∧ newsAt16.line.sending = none ∧ newsAt16.line.replyWaiting = none ∧ newsAt16.line.busyList = []
      ∧ (newsAt16.conds.ped.get 15).toList[0]? = some (some ⟨false, .none⟩) ∧ newsAt16.conds.pedMask.getLsbD 0 = false
      ∧ (∀ m : Fin 17, (m - 4).val < (16 - 4 : Fin 17).val → ∀ f ∈ condFlags newsAt16.conds m, f = none)
      ∧ (∀ k, ∀ f ∈ condFlags ({} : Conditions) k, f = none) := by decide +kernel

theorem witness_LineBusAndDisplayTimersExpire :
    replying.supply.runState ≠ .halted ∧ replying.line.silenceTimer = some 5000
      ∧ { State.reset with bus := { quietTimer := some 60000 } }.bus.quietTimer = some 60000
      ∧ ((holding { refusal := some ⟨0x24#8, 5000⟩ }).session 0).refusal = some ⟨0x24#8, 5000⟩
      ∧ (holding { refusal := some ⟨0x24#8, 5000⟩ }).supply.runState ≠ .halted ∧ State.reset.supply.runState ≠ .halted
      ∧ State.reset.line.silenceTimer = none ∧ State.reset.bus.quietTimer = none ∧ (State.reset.session 0).refusal = none
      ∧ halted.supply.runState = .halted := by decide +kernel

theorem witness_SessionDeadlinesDecideCloseOrProbeAgain :
    (holding waiting).supply.runState ≠ .halted ∧ ((holding waiting).session 0).state = .authorizing
      ∧ ((holding waiting).session 0).authDeadline = some 20000
      ∧ ((holding waiting).session 0).captured = some ⟨.referFallback, some 2000, 0, 2, 8, some 1200⟩
      ∧ (⟨.refer, none, 0, 0, 15, none⟩ : CapturedTerms).mode ≠ .referFallback
      ∧ ((holding { waiting with captured := some noHitTerms }).session 0).captured = some noHitTerms := by decide +kernel

theorem witness_SessionDeadlinesDecideCloseOrProbeAgain_others :
    (holding authorized).supply.runState ≠ .halted ∧ ((holding authorized).session 0).state = .authorized
      ∧ ((holding authorized).session 0).plugDeadline = some 120000 ∧ ((holding ending).session 0).state = .ending
      ∧ ((holding ending).session 0).endingDeadline = some 5000 ∧ ((holding ending).session 0).endReason = some .userStop
      ∧ ((holding probing).session 0).probeDeadline = some 5000
      ∧ ((holding probing).session 0).probeAttempts < 1 + (holding probing).settings.probeRetries
      ∧ 1 + (holding { probing with probeAttempts := 3 }).settings.probeRetries ≤ 3
      ∧ ((holding { probing with probeAttempts := 3 }).session 0).probeAttempts = 3 := by decide +kernel

theorem witness_OneSecondTickAdvancesTheClock :
    State.reset.supply.mainSupply ≠ .absent ∧ State.reset.clock = none
      ∧ { State.reset with clock := some ⟨0, 86398⟩ }.clock = some ⟨0, 86398⟩
      ∧ { State.reset with clock := some ⟨65533, 86399⟩ }.clock = some ⟨65533, 86399⟩
      ∧ { State.reset with clock := some ⟨65534, 86399⟩ }.clock = some ⟨65534, 86399⟩
      ∧ ((holding occupying).session 0).state = .occupying ∧ ((holding ending).session 0).state ≠ .occupying := by decide +kernel

def idleAt (seconds fee : Nat) : State :=
  holding { occupying with meter := { occupying.meter with occupyingSeconds := seconds, idleFee := fee } }

theorem witness_SuspendLimitAndIdleMinuteAct :
    (holding suspended).supply.runState ≠ .halted ∧ ((holding suspended).session 0).state = .suspended
      ∧ ((holding suspended).session 0).suspendStart = some 0
      ∧ 0 + 60000 * (holding suspended).settings.suspendLimit ≤ 901000 - 1000
      ∧ ((idleAt 301 171).session 0).state = .occupying ∧ ((idleAt 301 171).session 0).grant = some grant1
      ∧ ((idleAt 301 171).session 0).meter.startFeeCharged = true ∧ ((idleAt 301 171).session 0).flags.idleCapped = false
      ∧ 60 * (((idleAt 301 171).tariffs.get 0).idleGrace + 0) < ((idleAt 301 171).session 0).meter.occupyingSeconds
      ∧ 100 + 2688 + 1 + 171 + 40 = grant1.hold ∧ grant1.hold < 100 + 2688 + 1 + 172 + 40
      ∧ ((idleAt 301 172).session 0).meter.idleFee = 172 := by decide +kernel

theorem witness_CommandFrameFollowsTheRecord :
    ((holding dispensing).session 0).alloc.grantState = .powered ∧ ((holding dispensing).entry 0).blocked = false
      ∧ ((holding dispensing).entry 0).estop = false
      ∧ ((holding { refusal := some ⟨0x24#8, 5000⟩ }).session 0).refusal = some ⟨0x24#8, 5000⟩
      ∧ ((holding released).session 0).endReason = some .userStop
      ∧ ((holding metered).session 0).alloc.grantState = .none := by decide +kernel

theorem witness_CycleStartsWithTheLowestPedestal :
    (holding {}).supply.runState = .running ∧ (holding {}).bus.phase = .idle ∧ (holding {}).NextTurn 0 0
      ∧ State.reset.supply.runState = .running ∧ State.reset.bus.phase = .idle
      ∧ (∀ n, (State.reset.entry n).enrolled = false)
      ∧ (let s : State := { holding dispensing with bus := { pace := .fast, cyclePace := .fast, nextCycle := 100 } };
          s.supply.runState = .running ∧ s.bus.phase = .idle ∧ s.NextTurn 0 0 ∧ s.bus.pace = .fast) := by decide +kernel

theorem witness_MissesAreCountedAndTheTurnGoesOn :
    (exchanging dispensing).bus.stopAllOwed = false
      ∧ { exchanging {} with bus := (exchanging {}).bus.askedToStop }.bus.stopAllOwed = true
      ∧ ({ exchanging {} with pedestals := Vector.replicate 16 entry1 } : State).NextTurn 1 1
      ∧ (∀ m : Ped, 0 < m → ((exchanging dispensing).entry m).enrolled = false)
      ∧ ({ exchanging {} with bus := { phase := .exchange ⟨0, true, true⟩ } } : State).bus.phase = .exchange ⟨0, true, true⟩
      ∧ ((exchanging {} { entry1 with misses := 3 }).entry 0).misses < 4
      ∧ ((exchanging {} { entry1 with link := .lost, misses := 255 }).entry 0).link = .lost
      ∧ (∀ r ∈ [{}, released, waiting, authorized, probing, dispensing, suspended, occupying, ending],
          (exchanging r { entry1 with misses := 4 }).bus.phase = .exchange ⟨0, false, false⟩
          ∧ ((exchanging r { entry1 with misses := 4 }).entry 0).link = .online
          ∧ 4 ≤ ((exchanging r { entry1 with misses := 4 }).entry 0).misses) := by decide +kernel

theorem witness_RepliesAccrueEnergyAndCost :
    (∀ r ∈ [metered, suspended, occupying, ending], ((accruing.setSession 0 { r with baseline := 10 }).session 0).state = r.state
        ∧ (r.state = .dispensing ∨ r.state = .suspended ∨ r.state = .occupying ∨ r.state = .ending) ∧ r.grant = some grant1)
      ∧ ((holding released).session 0).state = .released
      ∧ (10 + 16777216 - (accruing.session 0).baseline) % 16777216 = 23
      ∧ (47 + 16777216 - (accruing.session 0).baseline) % 16777216 = accruing.settings.plausibility
      ∧ accruing.settings.plausibility < (48 + 16777216 - (accruing.session 0).baseline) % 16777216
      ∧ ((accruing.session 0).baseline + 16777216 - (accruing.session 0).baseline) % 16777216 = 0
      ∧ 4294967295 < 4294967295 + (999999 + 1 * 73500) / 1000000 := by decide +kernel
theorem witness_RepliesAccrueEnergyAndCost_vehicle :
    (∀ r ∈ [metered, suspended, occupying, ending],
      let s := accruing.setSession 0 { r with baseline := 10 }
      s.bus.phase = .exchange ⟨0, false, false⟩ ∧ s.bus.stopAllOwed = false ∧ s.plugWas 0 = (quiet true).plug
        ∧ ((meterSteps 0 10 s).session 0).state ≠ .released ∧ ((meterSteps 0 10 s).session 0).Undecided (quiet true))
      ∧ (quiet true).Quiet entry1 ∧ ({ quiet true with request := 0 } : StatusReply).Quiet entry1
      ∧ ({ quiet true with complete := true } : StatusReply).Quiet entry1 ∧ (repeating true).Quiet entry1 ∧ accruing.entry 0 = entry1
      ∧ ({ accruing with bus := accruing.bus.askedToStop } : State).bus.stopAllOwed = true
      ∧ ({ accruing with bus := accruing.bus.askedToStop } : State).bus.phase = .exchange ⟨0, false, false⟩ := by decide +kernel
theorem witness_RepliesAccrueEnergyAndCost_price : accruing.PricedAt (accruing.tariffs.get grant1.tariff) 2 73500
    ∧ { accruing with clock := none }.PricedAt (accruing.tariffs.get grant1.tariff) 2 73500 := by
  have bands : (accruing.tariffs.get grant1.tariff).bands = [⟨0, 41000⟩, ⟨420, 58000⟩, ⟨1080, 73500⟩] := by decide +kernel
  unfold State.PricedAt
  rw [bands]
  refine ⟨⟨⟨1080, 73500⟩, rfl, rfl, ?_, fun h => ?_⟩, ⟨⟨1080, 73500⟩, rfl, rfl, ?_, ?_⟩⟩
  · rintro c h
    obtain rfl : (⟨0, 64800⟩ : Clock) = c := Option.some.inj h
    refine ⟨by decide, fun j x hj hx => ?_⟩
    match j, hj with
    | j + 3, _ => simp at hx
  · cases h
  · rintro c h
    cases h
  · intro _ j x hx
    match j with
    | 0 | 1 | 2 => obtain rfl := Option.some.inj hx; decide
    | j + 3 => simp at hx

/-- A park that is OPEN, with chapter 2's window 0 and a free pedestal 1. -/
def offering : State :=
  { exchanging {} unplugged1 with
    park := .opened
    windows := State.reset.windows.set 0
      { enabled := true, base := 0x5100000000000000#64, mask := 0xFF00000000000000#64, mode := .localMode, localHold := 3000,
        route := 1, baseRank := 2 } }

theorem witness_AcceptedTokensOpenAndDecideASession :
    let x : StatusReply := { quiet false with presentation := some ⟨8#8, 0x5100000000C39A11#64, .reader⟩ }
    offering.Exchanging 0 false ∧ x.fits = true ∧ x.faults = 0 ∧ x.plug = false ∧ (offering.entry 0).Steady false
      ∧ (offering.entry 0).blocked = false ∧ (offering.entry 0).lastPresentation = some 7#8 ∧ 8#8 ≠ 7#8
      ∧ offering.session 0 = { baseline := 0 } ∧ offering.park = .opened ∧ offering.settlement.full = false
      ∧ (∀ m, m ≠ 0 → (offering.session m).state.isOpen = false)
      ∧ offering.matchWindow 0x5100000000C39A11#64 = some 0 ∧ (offering.windows.get 0).mode = .localMode
      ∧ (offering.tariffs.get 0).defined = true ∧ (offering.tariffs.get 0).startFee ≤ min 3000 offering.settings.maxHold := by
  decide +kernel

/-- A window of a mode that every token hits. -/
def windowOf (mode : WindowMode) : Window := { enabled := true, mode := mode, localHold := 3000 }

/-- The token of the session in `opening1`, and another one, in presentation 8, which is new where 7 is held. -/
def ownToken : Presentation := ⟨8#8, 0x5100000000C39A11#64, .reader⟩
def otherToken : Presentation := ⟨8#8, 0x77#64, .vehicle⟩

theorem witness_AcceptedTokensOpenAndDecideASession_modes :
    let x : StatusReply := { quiet true with presentation := some otherToken }
    let plugged : Session := { state := .plugged, hasPlug := .yes }
    let s : State := { exchanging plugged with park := .opened }
    (s.Exchanging 0 false ∧ x.fits = true ∧ x.faults = 0 ∧ x.probe = .none ∧ s.plugWas 0 = x.plug
      ∧ (s.entry 0).lastPresentation = some 7#8 ∧ otherToken.number ≠ 7#8 ∧ (s.session 0).state = .plugged
      ∧ (s.entry 0).blocked = false ∧ (s.entry 0).link = .online ∧ (s.entry 0).estop = false
      ∧ (∀ m, m ≠ 0 → (s.session m).state.isOpen = false) ∧ s.settlement.full = false)
    ∧ (s.matchWindow otherToken.token = none ∧ s.line.mode = .standalone)
    ∧ (∀ mode ∈ [WindowMode.deny, .localMode, .refer, .referFallback],
        ({ s with windows := s.windows.set 11 (windowOf mode) } : State).matchWindow otherToken.token = some 11)
    ∧ ({ s with line := { mode := .attended } } : State).line.mode = .attended := by decide +kernel

/-- R5's example: the plug-in moves the FREE record to PLUGGED, and the token beside it opens a session with has-plug yes,
which its LOCAL window grants at once. -/
theorem test_statusReply_plugIn_with_token :
    let t := after (.statusReply (({ quiet true with presentation := some ownToken } : StatusReply).bytes 0)) offering
    (t.session 0).state = .probing ∧ (t.session 0).hasPlug = .yes
      ∧ (t.conds.ped.get 0).toList[0]? = some (some ⟨false, .none⟩) := by decide +kernel

theorem witness_AcceptedTokensOpenAndDecideASession_plugIn :
    let x : StatusReply := { quiet true with presentation := some ownToken }
    offering.Exchanging 0 false ∧ x.fits = true ∧ ({ x with probe := .openCircuit } : StatusReply).fits = true
      ∧ x.faults = 0 ∧ x.probe = .none ∧ offering.plugWas 0 = false ∧ x.plug = true
      ∧ (offering.entry 0).lastPresentation = some 7#8 ∧ ownToken.number ≠ 7#8 ∧ (offering.session 0).state = .free
      ∧ offering.park = .opened ∧ (offering.entry 0).blocked = false ∧ (offering.entry 0).link = .online
      ∧ (offering.entry 0).estop = false ∧ (∀ m, m ≠ 0 → (offering.session m).state.isOpen = false)
      ∧ offering.settlement.full = false ∧ offering.matchWindow ownToken.token = some 0
      ∧ (offering.windows.get 0).mode = .localMode := by decide +kernel

theorem witness_TokensAreRefusedOrStopTheSession :
    let own : StatusReply := { quiet true with presentation := some ownToken }
    let other : StatusReply := { quiet true with presentation := some otherToken }
    (own.fits = true ∧ own.faults = 0 ∧ other.fits = true ∧ other.faults = 0 ∧ ownToken.number ≠ 7#8)
    ∧ (({ own with power := 9 } : StatusReply).power < 10 ∧ ending.endReason = some .userStop
      ∧ ({ other with probe := .short } : StatusReply).fits = true)
    ∧ (∀ r ∈ [waiting, authorized, probing, dispensing, suspended, occupying, ending, released],
        let s := exchanging r
        let q := (meterSteps 0 10 s).session 0
        s.Exchanging 0 false ∧ s.plugWas 0 = own.plug ∧ (s.entry 0).lastPresentation = some 7#8 ∧ q.state = r.state
          ∧ q.opening.map (·.token) ≠ some otherToken.token ∧ q.Undecided other
          ∧ (r.state ≠ .released → q.opening.map (·.token) = some ownToken.token))
    ∧ ((exchanging {} { entry1 with lastPresentation := none }).entry 0).lastPresentation = none
    ∧ ((exchanging {} { entry1 with lastPresentation := some 8#8 }).entry 0).lastPresentation = some ownToken.number := by
  decide +kernel

theorem witness_TokensAreRefusedOrStopTheSession_checks :
    let plugged : Session := { state := .plugged, hasPlug := .yes }
    let s : State := { exchanging plugged with park := .opened }
    let taken : State := s.setSession 1 waiting
    ((exchanging plugged).park = .closed ∧ s.park = .opened ∧ s.plugWas 0 = true ∧ (s.session 0).state = .plugged)
    ∧ ((exchanging plugged { entry1 with blocked := true }).entry 0).blocked = true
    ∧ ((exchanging plugged { entry1 with estop := true }).entry 0).estop = true
    ∧ ((s.entry 0).blocked = false ∧ (s.entry 0).link = .online ∧ (s.entry 0).estop = false)
    ∧ ((taken.session 1).state.isOpen = true ∧ (taken.session 1).opening = some opening1 ∧ opening1.token = ownToken.token)
    ∧ (∀ m, m ≠ 0 → (s.session m).state.isOpen = false)
    ∧ ({ s with settlement := { reserved := 24 } } : State).settlement.full = true := by decide +kernel

theorem witness_PlugChangesMoveTheRecord :
    ((∀ x ∈ [quiet true, quiet false, repeating true, repeating false], ∀ e ∈ [entry1, unplugged1,
          { unplugged1 with estop := true }, { unplugged1 with blocked := true }], x.Quiet e) ∧ (quiet true).probe = .none)
    ∧ (∀ r ∈ [{}, waiting, authorized, { ending with hasPlug := .no }, { released with hasPlug := .unknown }],
        let s := exchanging r unplugged1
        s.Exchanging 0 false ∧ s.plugWas 0 = false ∧ ((meterSteps 0 10 s).session 0).state = r.state
          ∧ ((meterSteps 0 10 s).session 0).Undecided (quiet true))
    ∧ ((exchanging authorized { unplugged1 with estop := true }).entry 0).estop = true ∧ (quiet true).released = false
    ∧ ((exchanging authorized { unplugged1 with blocked := true }).entry 0).blocked = true ∧ unplugged1.blocked = false
    ∧ (∀ r ∈ [{ state := .plugged, hasPlug := .yes }, waiting, authorized, probing, dispensing, suspended, occupying, ending,
          released],
        (exchanging r).Exchanging 0 false ∧ (exchanging r).plugWas 0 = true
          ∧ ((meterSteps 0 10 (exchanging r)).session 0).state = r.state)
    ∧ (exchanging released unplugged1).plugWas 0 = (quiet false).plug ∧ 10 ≤ (quiet false).power
    ∧ (exchanging released).plugWas 0 = (repeating true).plug ∧ ((exchanging released).session 0).state = .released := by
  decide +kernel

theorem witness_PlugChangesMoveTheRecord_reduction :
    let x : StatusReply := { quiet true with presentation := some ownToken, probe := .short, power := 9 }
    (x.fits = true ∧ x.faults = 0 ∧ ({ x with plug := false } : StatusReply).fits = true)
    ∧ (∀ r ∈ [{}, waiting, authorized, { ending with hasPlug := .no }, { released with hasPlug := .unknown }],
        (exchanging r unplugged1).Exchanging 0 false ∧ (exchanging r unplugged1).plugWas 0 = false
          ∧ ((exchanging r unplugged1).session 0).state = r.state)
    ∧ (∀ r ∈ [{ state := .plugged, hasPlug := .yes }, waiting, authorized, probing, dispensing, suspended, occupying, ending,
          released],
        (exchanging r).Exchanging 0 false ∧ (exchanging r).plugWas 0 = true ∧ ((exchanging r).session 0).state = r.state)
    ∧ ((exchanging authorized { unplugged1 with estop := true }).entry 0).estop = true ∧ x.released = false
    ∧ ((exchanging authorized { unplugged1 with blocked := true }).entry 0).blocked = true ∧ unplugged1.blocked = false
    ∧ (exchanging released).plugWas 0 = x.plug ∧ ((exchanging released).session 0).state = .released
    ∧ (exchanging { released with hasPlug := .unknown } returning1).Exchanging 0 false
    ∧ (exchanging { released with hasPlug := .unknown } returning1).plugWas 0 = ({ x with plug := false } : StatusReply).plug := by
  decide +kernel

/-- R28, R154: at a pedestal that answers again without a plug, the RELEASED record becomes FREE, and the new token beside it is
refused OUT-OF-SERVICE, the pedestal being LOST while the reply is taken. -/
theorem test_statusReply_released_returns_with_token :
    let t := after (.statusReply (({ quiet false with presentation := some ownToken } : StatusReply).bytes 0))
      { exchanging { released with hasPlug := .unknown } returning1 with park := .opened }
    (t.session 0).state = .free ∧ (t.session 0).refusal = some ⟨0x21#8, 5000⟩ ∧ (t.entry 0).link = .online := by decide +kernel

theorem witness_RepliesProbeEnergizeAndClose :
    (∀ p ∈ [ProbeResult.openCircuit, .short, .matched 50, .matched 51], ({ quiet true with probe := p } : StatusReply).Quiet entry1
        ∧ ({ repeating true with probe := p } : StatusReply).Quiet entry1
        ∧ ({ repeating true with probe := p } : StatusReply).Quiet { entry1 with maxCable := 50 }
        ∧ ({ repeating true with probe := p } : StatusReply).Quiet { entry1 with lastPresentation := none })
      ∧ (exchanging probing).Exchanging 0 false ∧ (exchanging probing).plugWas 0 = true
      ∧ ((meterSteps 0 10 (exchanging probing)).session 0).state = .probing
      ∧ ((meterSteps 0 10 (exchanging { probing with probeAttempts := 2 })).session 0).probeAttempts
          < 1 + (exchanging probing).settings.probeRetries
      ∧ ((meterSteps 0 10 (exchanging { probing with probeAttempts := 3 })).session 0).probeAttempts
          = 1 + (exchanging probing).settings.probeRetries
      ∧ ((exchanging probing { entry1 with maxCable := 50 }).entry 0).maxCable = 50
      ∧ ((exchanging probing).entry 0).maxCable = 0
      ∧ ((meterSteps 0 10 (exchanging ending)).session 0).state = .ending
      ∧ ((meterSteps 0 10 (exchanging ending)).session 0).endReason = some .userStop
      ∧ ({ quiet true with power := 9 } : StatusReply).Quiet entry1 ∧ ({ repeating true with power := 9 } : StatusReply).Quiet entry1
      ∧ ({ repeating true with power := 9 } : StatusReply).power < 10 := by
  decide +kernel

theorem witness_FaultsBlockThePedestalAndStopTheSession :
    (∀ f : BitVec 4, ({ quiet true with faults := f } : StatusReply).fits = true)
      ∧ (quiet true).NoNewToken entry1 ∧ (repeating true).NoNewToken entry1
      ∧ (exchanging released unplugged1).plugWas 0 = (quiet false).plug
      ∧ (∀ r ∈ [waiting, authorized, probing, dispensing, suspended, occupying, ending, released],
        let q := (meterSteps 0 10 (exchanging r)).session 0
        (exchanging r).Exchanging 0 false ∧ (exchanging r).plugWas 0 = true ∧ q.state = r.state ∧ q.Undecided (quiet true))
      ∧ ((exchanging {} { entry1 with estop := true }).entry 0).estop = true
      ∧ ((meterSteps 0 10 (exchanging probing)).session 0).hasPlug = .yes
      ∧ (1#4).getLsbD 0 = true ∧ (1#4).getLsbD 1 = false ∧ (1#4).getLsbD 3 = false ∧ (4#4).getLsbD 2 = true
      ∧ (2#4).getLsbD 1 = true ∧ (8#4).getLsbD 3 = true := by decide +kernel

theorem witness_FaultsBlockThePedestalAndStopTheSession_reduction :
    (∀ f : BitVec 4, ({ quiet false with faults := f, presentation := some ownToken, power := 9 } : StatusReply).fits = true
        ∧ ({ quiet false with faults := f } : StatusReply).fits = true)
      ∧ (quiet false).NoNewToken entry1 ∧ (repeating false).NoNewToken entry1 ∧ (quiet false).plug = false
      ∧ (∀ r ∈ [{}, { state := .plugged, hasPlug := .yes }, waiting, authorized, probing, dispensing, suspended, occupying,
          ending, released],
        (exchanging r).Exchanging 0 false ∧ (exchanging r).plugWas 0 = true ∧ ((exchanging r).session 0).state = r.state)
      ∧ (0#4).getLsbD 0 = false ∧ (4#4).getLsbD 0 = false ∧ (4#4).getLsbD 1 = false ∧ (4#4).getLsbD 3 = false
      ∧ (1#4).getLsbD 0 = true ∧ (2#4).getLsbD 1 = true ∧ (8#4).getLsbD 3 = true ∧ (9#4).getLsbD 3 = true := by decide +kernel

/-- A reply with every field at its highest value. -/
def highest : StatusReply :=
  { plug := true, request := 65535, complete := true, power := 65535, meter := 16777215,
    presentation := some ⟨255#8, BitVec.allOnes 64, .vehicle⟩, probe := .matched 255, faults := 15, released := true }

theorem witness_StatusRepliesReadBackFromTheirBytes : (quiet true).fits = true ∧ highest.fits = true ∧ (1 : Ped) ≠ 0
    ∧ (exchanging dispensing).bus.phase = .exchange ⟨0, false, false⟩
    ∧ (let frame := highest.bytes 0
       frame.length = 26 ∧ frame.drop 24 = crcBytes (frame.take 24) ∧ fieldAt frame 0 1 = 1 ∧ fieldAt frame 10 1 = 3
        ∧ fieldAt frame 20 1 = 3 ∧ fieldAt frame 22 1 = 15
        ∧ (frame.set 5 0#8).drop 24 ≠ crcBytes ((frame.set 5 0#8).take 24) ∧ fieldAt (highest.bytes 1) 0 1 ≠ 1
        ∧ fieldAt (frame.set 1 2#8) 1 1 > 1 ∧ fieldAt (frame.set 10 4#8) 10 1 > 3) := by decide +kernel

/-- R194: a frame whose plug byte is 2, with its CRC right, is a miss: its meter count does not move the baseline, and the miss
is counted. -/
theorem test_statusReply_undefined_plug_byte :
    let core := ((quiet true).core 0).set 1 2#8
    let t := after (.statusReply (core ++ crcBytes core)) (exchanging dispensing)
    (t.session 0).baseline = 0 ∧ (t.entry 0).misses = 1 ∧ (t.entry 0).frameErrors = 1 := by decide +kernel

theorem witness_LowestContenderWinsTheAlertSlot :
    let s : State := { holding {} with bus := { phase := .alertSlot } }
    s.bus.phase = .alertSlot ∧ 1#5 ∈ [5#5, 1#5] ∧ (∀ c ∈ [5#5, 1#5], (1#5).toNat ≤ c.toNat) ∧ 1#5 ≠ 31
      ∧ (1#5).toNat = (0 : Ped).val + 1 ∧ (s.entry 0).enrolled = true
      ∧ (∀ n : Ped, (17#5).toNat = n.val + 1 → (s.entry n).enrolled = false)
      ∧ (∀ n : Ped, (0#5).toNat = n.val + 1 → (s.entry n).enrolled = false) := by decide +kernel

theorem tableLaw_holding : (holding dispensing).RecordsShaped ∧ (holding dispensing).TableLaw :=
  ⟨by decide +kernel, by decide +kernel, fun e h => by simp [holding, State.reset] at h⟩

theorem witness_RoundsStayWithinTheBudget : (holding dispensing).RecordsShaped ∧ (holding dispensing).TableLaw
    ∧ ((holding dispensing).session 0).state = .dispensing ∧ ((holding dispensing).entry 0).blocked = false :=
  ⟨tableLaw_holding.1, tableLaw_holding.2, by decide +kernel, by decide +kernel⟩

/-- Sessions in DISPENSING at pedestal 1 with a floor of 450 steps, at pedestal 2 YIELDING and at pedestal 3 blocked, with 499
steps to share. -/
def crowded : State :=
  { accruing with
    records := ((accruing.records.set 0 { accruing.session 0 with alloc := { request := 3500 } }).set 1
      { dispensing with alloc := { grantState := .yielding, yieldLeft := 2 } }).set 2 dispensing
    pedestals := ((accruing.pedestals.set 1 entry1).set 2 { entry1 with blocked := true }).set 0 { entry1 with floor := 450 }
    settings := { siteCap := 499, fallbackLoad := 0 } }

theorem witness_CoverAndYieldingPrepareTheRound :
    (∀ n ∈ [(0 : Ped), 1, 2], (crowded.session n).state = .dispensing ∧ (crowded.session n).grant = some grant1)
      ∧ crowded.PricedAt (crowded.tariffs.get grant1.tariff) 2 73500
      ∧ (crowded.entry 0).floor ≤ crowded.capAtPrice (crowded.session 0) grant1 73500
      ∧ crowded.capAtPrice { crowded.session 0 with meter := { costWhole := 3000 } } grant1 73500 < (crowded.entry 0).floor
      ∧ (crowded.entry 2).blocked = true ∧ (crowded.entry 1).blocked = false
      ∧ (crowded.session 1).alloc.grantState = .yielding ∧ 1 < (crowded.session 1).alloc.yieldLeft
      ∧ (crowded.session 0).alloc.grantState ≠ .yielding ∧ crowded.ruleBudget = 499 ∧ (crowded.session 3).state ≠ .dispensing :=
  ⟨by decide +kernel, witness_RepliesAccrueEnergyAndCost_price.1, by decide +kernel⟩

theorem witness_RoundsFillTheBudgetFairly :
    let s := { crowded with records := crowded.records.set 1 dispensing }
    (State.candidates crowded.coverFigure (prepareRound crowded)).map (·.pedestal) = [0]
      ∧ (State.candidates s.coverFigure (prepareRound s)).map (·.pedestal) = [0, 1]
      ∧ ((allocationRound s).session 0).alloc.grantState = .powered ∧ ((allocationRound s).session 0).alloc.share = 499
      ∧ ((allocationRound s).session 1).alloc.grantState = .parked ∧ (allocationRound s).conds.park.get 2 = some ⟨false, .none⟩ := by
  decide +kernel

theorem witness_RestartRequestsEnterRestarting :
    (holding dispensing).Ready 1 ∧ fieldAt [0#8] 0 1 = 0 ∧ fieldAt [1#8] 0 1 = 1
      ∧ ((holding dispensing).session 0).state.isOpen = true ∧ State.reset.Ready 1
      ∧ (∀ n, (State.reset.session n).state.isOpen = false) ∧ 1 < fieldAt [2#8] 0 1 := by decide +kernel

theorem witness_StopCausesHaltTheDevice :
    (holding dispensing).supply.runState ≠ .halted ∧ (restarting .soft).supply.runState ≠ .halted
      ∧ halted.supply.runState = .halted := by decide +kernel

theorem witness_ResetObeysEveryLaw :
    let h : State := { halted with settlement := { markerValid := false } }
    h.supply.runState = .halted ∧ h.settlement.markerValid = false ∧ h.timebase = 0 ∧ h.tickDue = 1000 ∧ h.pending = []
      ∧ h.line.strap = .baud115200 := by decide +kernel

/-- R141, R146: the defaults and the not-enrolled values of some fields after a WARM start that found others. -/
theorem test_powerOn_defaults :
    let t := after .powerOn { halted with settings := { fallbackLoad := 3, yieldOff := 1 }, pedestals := Vector.replicate 16 entry1 }
    t.settings.fallbackLoad = 65535 ∧ t.settings.yieldOff = 600 ∧ t.settings.maxHold = 100000 ∧ (t.entry 0).rating = 0
      ∧ (t.entry 15).link = .lost := by decide +kernel

theorem witness_StartsBringEveryBlockToItsValues :
    halted.supply.runState = .halted ∧ halted.settlement.markerValid = true ∧ halted.supply.mainSupply ≠ .absent
      ∧ { halted with settlement := { markerValid := false } }.settlement.markerValid = false
      ∧ (restarting .soft).supply.runState = .restarting ∧ (restarting .soft).line.sending = none
      ∧ (restarting .soft).line.replyWaiting = none ∧ (restarting .soft).supply.pendingRestart = some .soft
      ∧ (restarting .hard).supply.pendingRestart = some .hard := by decide +kernel

/-! The laws hold of a park with a session in DISPENSING, in which a step goes on. -/

theorem witness_StepsKeepRecordsShaped :
    (holding dispensing).RecordsShaped ∧ ∃ t, step (holding dispensing) = .next t := ⟨by decide +kernel, _, rfl⟩
theorem witness_StepsKeepRecordsShaped_metered (n : Ped) : ((holding dispensing).session n).MeteredByState := by
  refine ⟨?_, ?_, ?_, ?_, ?_, ?_, ?_, ?_, fun g h => ?_⟩
  all_goals revert n
  any_goals decide +kernel
  intro n
  have zero : ∀ m, ((holding dispensing).session m).meter.idleFee = 0 := by decide +kernel
  intro h
  rw [zero n]
  exact Nat.zero_le _
theorem witness_StepsKeepSlotsAndNumbers :
    (holding dispensing).RecordsShaped ∧ (holding dispensing).SlotLaw ∧ (holding dispensing).NumbersLaw := by decide +kernel
theorem witness_StepsKeepTokensApart : (holding dispensing).RecordsShaped ∧ (holding dispensing).TokensLaw := by decide +kernel
theorem witness_StepsKeepTheQueueSound : queueing.QueueLaw ∧ queueing.settlement.queue.length = 2 := by decide +kernel
theorem witness_StepsKeepGrantsCovered :
    (∀ i, ((holding dispensing).tariffs.get i).Valid) ∧ (holding dispensing).GrantLaw := by
  refine ⟨by decide +kernel, fun n g h => ?_⟩
  have only : ∀ m, ((holding dispensing).session m).grant = some g → m = 0 := by
    intro m hm
    by_contra hne
    have none' : ∀ k : Ped, k ≠ 0 → ((holding dispensing).session k).grant = none := by decide +kernel
    rw [none' m hne] at hm
    cases hm
  obtain rfl := only n h
  obtain rfl : grant1 = g := Option.some.inj h
  decide +kernel
theorem witness_StepsKeepTheTableAndTheBudget :
    let s := { holding dispensing with alloc := { lastBudget := 400 } }
    s.RecordsShaped ∧ s.TableLaw ∧ s.ShareLaw ∧ s.BudgetLaw ∧ s.setpointSum = 400 :=
  ⟨by decide +kernel, ⟨by decide +kernel, fun e h => by simp [holding, State.reset] at h⟩, by decide +kernel, by decide +kernel,
    by decide +kernel⟩
theorem witness_StepsKeepThePace : State.reset.PaceLaw ∧ (exchanging dispensing).PaceLaw := by decide +kernel
theorem witness_StepsKeepLineAndRunStates :
    (holding dispensing).settings.InRange ∧ (holding dispensing).LinkLaw ∧ (holding dispensing).LineLaw
      ∧ (holding dispensing).RunLaw :=
  ⟨by decide +kernel, by decide +kernel, ⟨fun h => by simp [holding, State.reset] at h, by decide +kernel⟩,
    fun h => absurd rfl h, by decide +kernel⟩

end Sys2Proof.Tests
end

section
/-! SUPPORT. Every operation keeps each record as its life-cycle state asks (the statement StepsKeepRecordsShaped). -/

namespace Sys2Proof.Machine

/-! ## Sound records -/

@[simp] theorem million_pos : 0 < Config.million := by decide

/-- A record holds what its life-cycle state asks, the metering fields included. -/
def Session.Sound (r : Session) : Prop := r.Shaped ∧ r.MeteredByState

/-- The demands on a record, field by field. -/
theorem Session.sound_iff (r : Session) : r.Sound ↔
    (r.opening.isSome ↔ r.state.isOpen) ∧ (r.captured.isSome ↔ r.state = .authorizing)
    ∧ (r.grant.isSome ↔ r.state.granted) ∧ (r.endReason.isSome ↔ r.state = .ending ∨ r.state = .released)
    ∧ (r.authDeadline.isSome → r.state = .authorizing) ∧ (r.plugDeadline.isSome ↔ r.state = .authorized)
    ∧ (r.probeDeadline.isSome → r.state = .probing) ∧ (r.suspendStart.isSome ↔ r.state = .suspended)
    ∧ (r.endingDeadline.isSome ↔ r.state = .ending) ∧ (r.probeSend → r.state = .probing) ∧ r.plugAllowed = true
    ∧ (r.state ≠ .dispensing → r.alloc = {}) ∧ (r.alloc.share ≠ 0 → r.alloc.grantState = .powered)
    ∧ (r.alloc.yieldLeft ≠ 0 → r.alloc.grantState = .yielding)
    ∧ r.alloc.waitRounds ≤ Config.max16 ∧ r.alloc.servedRounds ≤ Config.max16
    ∧ (r.state.energyFlow = false → r.meter = {} ∧ r.flags = {} ∧ r.energized = none)
    ∧ (r.meter.startFeeCharged ↔ r.state.energyFlow) ∧ (r.energized.isSome ↔ r.state.energyFlow)
    ∧ r.baseline < Config.meterModulus ∧ r.meter.energyTotal ≤ Config.max32 ∧ r.meter.costWhole ≤ Config.max32
    ∧ r.meter.costRemainder < Config.million ∧ r.meter.occupyingSeconds ≤ Config.max32
    ∧ (∀ g, r.grant = some g → r.meter.idleFee ≤ g.hold) := by
  have by_bool : ∀ {a b : Bool}, a = b ↔ (a = true ↔ b = true) := Bool.eq_iff_iff
  unfold Session.Sound Session.Shaped Session.HoldsByState Session.DeadlinesByState Session.AllocByState Session.MeteredByState
  rw [by_bool (a := r.opening.isSome), by_bool (a := r.captured.isSome), by_bool (a := r.grant.isSome),
    by_bool (a := r.endReason.isSome), by_bool (a := r.plugDeadline.isSome), by_bool (a := r.suspendStart.isSome),
    by_bool (a := r.endingDeadline.isSome), by_bool (a := r.meter.startFeeCharged), by_bool (a := r.energized.isSome)]
  simp only [and_assoc, beq_iff_eq, Bool.or_eq_true]

theorem Session.Sound.baseline_lt {r : Session} (h : r.Sound) : r.baseline < Config.meterModulus := h.2.2.2.2.1

/-- A refusal display has no part in soundness. -/
theorem Session.Sound.withRefusal {r : Session} (h : r.Sound) (d : Option RefusalDisplay) :
    Session.Sound { r with refusal := d } := h

/-- The record of R2 in FREE is sound. -/
theorem Session.sound_free {b : Nat} (hb : b < Config.meterModulus) : Session.Sound { baseline := b } := by
  simp [Session.sound_iff, hb, SessionState.energyFlow, SessionState.isOpen, SessionState.granted, Session.plugAllowed]

theorem Session.sound_cancelled {r : Session} (h : r.baseline < Config.meterModulus) : r.toCancelled.Sound := by
  unfold Session.toCancelled
  by_cases hp : r.hasPlug = .yes
  · simp [hp, Session.sound_iff, h, SessionState.energyFlow, SessionState.isOpen, SessionState.granted, Session.plugAllowed]
  · simpa only [hp, if_false] using Session.sound_free h

theorem Session.sound_closed {r : Session} (h : r.baseline < Config.meterModulus) (he : r.endReason.isSome) :
    r.toClosed.Sound := by
  unfold Session.toClosed
  cases hp : r.hasPlug
  case no => exact Session.sound_free h
  all_goals
    simp [Session.sound_iff, Session.toReleased, hp, he, h, SessionState.energyFlow, SessionState.isOpen, SessionState.granted, Session.plugAllowed]

theorem Session.Sound.ended {r : Session} {q : HasPlug} (h : Session.Sound { r with hasPlug := q }) (hf : r.state.energyFlow = true)
    (hp : r.hasPlug ≠ .unknown) (why : EndReason) (d : Point) : (r.ended why d).Sound := by
  cases hs : r.state <;> cases hq : r.hasPlug <;> simp_all [Session.sound_iff, Session.ended, SessionState.energyFlow, SessionState.isOpen, SessionState.granted, Session.plugAllowed]

/-- The record of a session whose token has been accepted (R11, R42). -/
theorem Session.Sound.opened {r : Session} (h : r.Sound) (hs : r.state = .free ∨ r.state = .plugged) (o : Opening)
    (c : CapturedTerms) :
    Session.Sound { r.enter .authorizing with
      hasPlug := if r.state = .plugged then .yes else .no, opening := some o, captured := some c } := by
  rcases hs with hs | hs <;>
    simp_all [Session.sound_iff, Session.enter, SessionState.energyFlow, SessionState.isOpen, SessionState.granted,
      Session.plugAllowed]

/-- The record of a session that is referred (R44). -/
theorem Session.Sound.referred {r : Session} (h : r.Sound) (hs : r.state = .authorizing) (p : Point) :
    Session.Sound { r with authDeadline := some p } := by
  simp_all [Session.sound_iff, Session.plugAllowed]

/-- The record that enters PROBING, its first attempt started (R16, R163). -/
def Session.probed (r : Session) (deadline : Point) : Session :=
  { r with
    state := .probing, refusal := none, alloc := {}, suspendStart := none, plugDeadline := none, authDeadline := none,
    probeAttempts := 1, probeSend := true, probeDeadline := some deadline }

theorem Session.Sound.probed_of_grant {r : Session} (h : r.Sound) (hs : r.state = .authorizing) (hp : r.hasPlug = .yes)
    (g : Grant) (p : Point) :
    (Session.probed { r with grant := some g, captured := none, authDeadline := none } p).Sound := by
  simp_all [Session.sound_iff, Session.probed, SessionState.energyFlow, SessionState.isOpen, SessionState.granted,
    Session.plugAllowed]

theorem Session.Sound.probed_of_plugIn {r : Session} (h : r.Sound) (hs : r.state = .authorized) (p : Point) :
    (Session.probed { r with hasPlug := .yes, refusal := none } p).Sound := by
  simp_all [Session.sound_iff, Session.probed, SessionState.energyFlow, SessionState.isOpen, SessionState.granted,
    Session.plugAllowed]

/-- The record of a grant taken without the plug (R15). -/
theorem Session.Sound.authorized {r : Session} (h : r.Sound) (hs : r.state = .authorizing) (hp : r.hasPlug ≠ .yes)
    (g : Grant) (p : Point) :
    Session.Sound { Session.enter .authorized { r with grant := some g, captured := none, authDeadline := none } with
      plugDeadline := some p } := by
  have hno : r.hasPlug = .no := by
    cases hq : r.hasPlug <;> simp_all [Session.sound_iff, Session.plugAllowed]
  simp_all [Session.sound_iff, Session.enter, SessionState.energyFlow, SessionState.isOpen, SessionState.granted,
    Session.plugAllowed]

/-- The record of a probe attempt that starts, or that has ended (R163, R166). -/
theorem Session.Sound.attempt {r : Session} (h : r.Sound) (hs : r.state = .probing) (k : Nat) (b : Bool)
    (d : Option Point) : Session.Sound { r with probeAttempts := k, probeSend := b, probeDeadline := d } := by
  simp_all [Session.sound_iff, Session.plugAllowed]

/-- A PROBE owed is taken off (R164). -/
theorem Session.Sound.probeSent {r : Session} (h : r.Sound) : Session.Sound { r with probeSend := false } := by
  simp_all [Session.sound_iff, Session.plugAllowed]

/-- The record at the first entry to DISPENSING (R18, R65, R167). -/
theorem Session.Sound.energized {r : Session} (h : r.Sound) (hs : r.state = .probing) {count : Nat}
    (hc : count < Config.meterModulus) (t : Stamp) :
    Session.Sound { r.enter .dispensing with
      baseline := count, meter := { r.meter with startFeeCharged := true }, energized := some t, probeDeadline := none,
      probeSend := false } := by
  cases hp : r.hasPlug <;>
  simp_all [Session.sound_iff, Session.enter, SessionState.energyFlow, SessionState.isOpen, SessionState.granted,
    Session.plugAllowed]

/-- The record after the vehicle's fields (R19 to R21, R94). -/
theorem Session.Sound.driven {r : Session} (h : r.Sound) (x : StatusReply) (now : Point) : (r.driven x now).Sound := by
  unfold Session.driven
  cases hs : r.state <;> simp only []
  case dispensing | suspended | occupying =>
    cases hp : r.hasPlug <;> repeat' split
    all_goals
    simp_all [Session.sound_iff, SessionState.energyFlow, SessionState.isOpen, SessionState.granted,
      Session.plugAllowed]
  all_goals exact h

/-- New allocation fields of a record in DISPENSING (R88). -/
theorem Session.Sound.withAlloc {r : Session} (h : r.Sound) (hs : r.state = .dispensing) {a : Alloc}
    (hshare : a.share ≠ 0 → a.grantState = .powered) (hyield : a.yieldLeft ≠ 0 → a.grantState = .yielding)
    (hw : a.waitRounds ≤ Config.max16) (hv : a.servedRounds ≤ Config.max16) : Session.Sound { r with alloc := a } := by
  simp_all [Session.sound_iff, Session.plugAllowed]

/-- A SUSPENDED record moved to OCCUPYING (R20, R143). -/
theorem Session.Sound.limited {r : Session} (h : r.Sound) (hs : r.state = .suspended) : (r.enter .occupying).Sound := by
  cases hp : r.hasPlug <;>
  simp_all [Session.sound_iff, Session.enter, SessionState.energyFlow, SessionState.isOpen, SessionState.granted,
    Session.plugAllowed]

theorem Session.Sound.tickOccupying {r : Session} (h : r.Sound) : r.tickOccupying.Sound := by
  unfold Session.tickOccupying
  split
  · rename_i hs
    simp_all [Session.sound_iff, Session.plugAllowed, satAdd_le, SessionState.energyFlow]
  · exact h

/-- An idle minute is charged within the hold (R68). -/
theorem Session.Sound.idleMinute {r : Session} (h : r.Sound) (hs : r.state = .occupying) {g : Grant}
    (hg : r.grant = some g) (t : Tariff) : (r.chargeIdleMinute t g.hold).Sound := by
  unfold Session.chargeIdleMinute
  split
  · rename_i hle
    have : r.meter.idleFee + t.idleFeePerMinute ≤ g.hold := by unfold idleTestSum at hle; omega
    simp_all [Session.sound_iff, Session.plugAllowed, SessionState.energyFlow]
  · simp_all [Session.sound_iff, Session.plugAllowed, SessionState.energyFlow]

/-! ## The meter -/

/-- The cost counters of an accrual stay in their ranges (R62, R63). -/
theorem addCost_le (d p whole rest : Nat) :
    (addCost d p whole rest).1 ≤ Config.max32 ∧ (addCost d p whole rest).2 < Config.million := by
  unfold addCost
  simp only []
  split
  · exact ⟨le_rfl, by decide⟩
  · exact ⟨by omega, Nat.mod_lt _ million_pos⟩

/-- The record after the meter count of a reply (R55 to R58). -/
theorem Session.Sound.accrued {r : Session} (h : r.Sound) (hf : r.state.energyFlow = true) (clock : Option Clock)
    (t : Tariff) (d : Nat) : (r.accrueDelta clock t d).Sound := by
  unfold Session.accrueDelta
  split
  · exact h
  · split
    · exact h
    · rename_i band price _
      have hc := addCost_le d price r.meter.costWhole r.meter.costRemainder
      simp_all [Session.sound_iff, Session.plugAllowed, Meter.accrue, satAdd_le]

theorem Session.Sound.withBaseline {r : Session} (h : r.Sound) {count : Nat} (hc : count < Config.meterModulus) :
    Session.Sound { r with baseline := count } := by
  simp_all [Session.sound_iff, Session.plugAllowed]

theorem Session.Sound.withFlags {r : Session} (h : r.Sound) (hf : r.state.energyFlow = true) (f : SessionFlags) :
    Session.Sound { r with flags := f } := by
  simp_all [Session.sound_iff, Session.plugAllowed]

end Sys2Proof.Machine
end

section
/-! SUPPORT. The operations on one record keep every record sound: cancel, close, ENDING, grant, probe and token. -/

namespace Sys2Proof.Machine

variable {s t : State} {n : Ped}

/-! ## Operations on one record -/

/-- Every record is sound. -/
def State.AllSound (s : State) : Prop := ∀ n, (s.session n).Sound

/-- Every record but one is sound. -/
def State.SoundBeside (n : Ped) (s : State) : Prop := ∀ m, m ≠ n → (s.session m).Sound

theorem State.AllSound.beside (h : s.AllSound) (n : Ped) : s.SoundBeside n := fun m _ => h m

/-- An operation on one record keeps all sound when it leaves that one sound. -/
theorem State.SoundBeside.update (h : s.SoundBeside n) (hne : ∀ m, m ≠ n → t.session m = s.session m)
    (hn : (t.session n).Sound) : t.AllSound := by
  intro m
  by_cases hm : m = n
  · subst hm; exact hn
  · rw [hne m hm]; exact h m hm

theorem State.SoundBeside.of_ne (h : s.SoundBeside n) (hne : ∀ m, m ≠ n → t.session m = s.session m) :
    t.SoundBeside n := fun m hm => by rw [hne m hm]; exact h m hm

/-- What leaves the records alone keeps them sound. -/
theorem State.AllSound.of_records (h : s.AllSound) (e : t.records = s.records) : t.AllSound := by
  intro m
  have : t.session m = s.session m := by unfold State.session; rw [e]
  rw [this]
  exact h m

theorem State.SoundBeside.setSession (h : s.SoundBeside n) {r : Session} (hr : r.Sound) : (s.setSession n r).AllSound :=
  h.update (fun _ hm => State.session_setSession_ne s hm r) (by simpa using hr)

theorem State.SoundBeside.putSession (h : s.SoundBeside n) {r : Session} (hr : r.Sound) : (putSession n r s).AllSound :=
  h.update (fun _ hm => putSession_session_ne hm r) (by simpa using hr)

theorem cancelSession_sound (h : s.SoundBeside n) (hb : (s.session n).baseline < Config.meterModulus) (reason : Byte) :
    (cancelSession n reason s).AllSound := by
  refine h.update (fun _ hm => cancelSession_session_ne hm reason) ?_
  rw [cancelSession_session_self]
  exact (Session.sound_cancelled hb).withRefusal _

theorem closeSession_sound (h : s.SoundBeside n) (hb : (s.session n).baseline < Config.meterModulus) (why : EndReason) :
    (closeSession n why s).AllSound := by
  refine h.update (fun _ hm => closeSession_session_ne hm why) ?_
  rw [closeSession_session_self]
  exact Session.sound_closed hb rfl

theorem refuseToken_sound (h : s.AllSound) (n : Ped) (reason : Byte) : (refuseToken n reason s).AllSound :=
  (h.beside n).setSession ((h n).withRefusal _)

/-- The record that enters ENDING (R23). -/
theorem enterEnding_eq_put (n : Ped) (why : EndReason) (s : State) :
    enterEnding n why s = putSession n ((s.session n).ended why (s.after s.settings.endingTimeout)) s := rfl

theorem enterEnding_sound {q : HasPlug} (h : s.SoundBeside n) (hr : Session.Sound { s.session n with hasPlug := q })
    (hf : (s.session n).state.energyFlow = true) (hp : (s.session n).hasPlug ≠ .unknown) (why : EndReason) :
    (enterEnding n why s).AllSound :=
  h.putSession (hr.ended hf hp _ _)

/-- The has-plug of a sound record is known unless it is RELEASED. -/
theorem Session.Sound.hasPlug_known {r : Session} (h : r.Sound) (hs : r.state ≠ .released) : r.hasPlug ≠ .unknown := by
  intro hp
  cases hq : r.state <;> simp_all [Session.sound_iff, Session.plugAllowed]

/-- A stop cause keeps records sound, the one at the pedestal up to a has-plug that the same reply has changed. -/
theorem stopSession_sound {q : HasPlug} (h : s.SoundBeside n) (hr : Session.Sound { s.session n with hasPlug := q })
    (hp : (s.session n).hasPlug ≠ .unknown)
    (hself : (s.session n).state.granted = false ∨ (s.session n).state = .ending → (s.session n).Sound) (why : EndReason) :
    (stopSession n why s).AllSound := by
  unfold stopSession
  cases hs : (s.session n).state <;> simp only []
  case authorized | probing => exact closeSession_sound h hr.baseline_lt why
  case dispensing | suspended | occupying => exact enterEnding_sound h hr (by simp [hs, SessionState.energyFlow]) hp why
  all_goals exact h.update (fun _ _ => rfl) (hself (by simp [hs, SessionState.granted]))

/-- A stop cause keeps records sound. -/
theorem State.AllSound.stopSession (h : s.AllSound) (n : Ped) (why : EndReason) : (stopSession n why s).AllSound := by
  by_cases hs : (s.session n).state = .released
  · simpa [Machine.stopSession, hs] using h
  · exact stopSession_sound (q := (s.session n).hasPlug) (h.beside n) (h n) ((h n).hasPlug_known hs) (fun _ => h n) why

theorem State.AllSound.haltSession (h : s.AllSound) (why : EndReason) (n : Ped) : (haltSession why n s).AllSound := by
  unfold Machine.haltSession
  cases (s.session n).state <;> simp only []
  case authorizing => exact cancelSession_sound (h.beside n) (h n).baseline_lt _
  case free | plugged | released => exact h
  all_goals exact closeSession_sound (h.beside n) (h n).baseline_lt _

theorem State.AllSound.loseSession (h : s.AllSound) (n : Ped) : (loseSession n s).AllSound := by
  have close : ∀ r : Session, r.baseline = (s.session n).baseline →
      (closeSession n .pedestalLost (s.setSession n r)).AllSound := fun r hr =>
    closeSession_sound ((h.beside n).of_ne fun _ hm => State.session_setSession_ne s hm r)
      (by simpa [hr] using (h n).baseline_lt) _
  unfold Machine.loseSession
  simp only []
  split
  case h_1 => exact cancelSession_sound (h.beside n) (h n).baseline_lt _
  case h_2 => exact closeSession_sound (h.beside n) (h n).baseline_lt _
  case h_8 | h_9 | h_10 => exact h
  all_goals exact close _ rfl

/-! ## The probe sequence and the grant -/

/-- The record that enters PROBING has its first attempt started (R16, R163). -/
theorem enterProbing_session (n : Ped) (s : State) :
    (enterProbing n s).session n = (s.session n).probed (s.timebase + 5000) := by
  have ht : (Machine.putSession n { (s.session n).enter .probing with plugDeadline := none, authDeadline := none, probeAttempts := 0 } s).timebase
    = s.timebase := (putSession_frame _ _ _).1
  simp only [enterProbing, startAttempt_eq, putSession_session_self, State.session_setSession_self, ht]
  rfl

theorem enterProbing_session_ne {m : Ped} (h : m ≠ n) (s : State) : (enterProbing n s).session m = s.session m := by
  simp [enterProbing, startAttempt_eq, State.session_setSession_ne _ h, putSession_session_ne h]

theorem takeGrant_sound (h : s.AllSound) (hs : (s.session n).state = .authorizing) (g : Grant) :
    (takeGrant n g s).AllSound := by
  unfold takeGrant
  simp only []
  have hb : (s.setSession n { s.session n with grant := some g, captured := none, authDeadline := none }).SoundBeside n :=
    (h.beside n).of_ne fun _ hm => State.session_setSession_ne s hm _
  split
  · rename_i hp
    refine hb.update (fun _ hm => enterProbing_session_ne hm _) ?_
    rw [enterProbing_session, State.session_setSession_self]
    exact (h n).probed_of_grant hs hp g _
  · rename_i hp
    exact hb.putSession ((h n).authorized hs hp g _)

theorem offerGrant_sound (h : s.AllSound) (hs : (s.session n).state = .authorizing) (o : GrantOffer) :
    (offerGrant n o s).AllSound := by
  unfold offerGrant
  split
  · exact takeGrant_sound h hs _
  · exact cancelSession_sound (h.beside n) (h n).baseline_lt _

theorem authExpired_sound (h : s.AllSound) (hs : (s.session n).state = .authorizing) : (authExpired n s).AllSound := by
  unfold authExpired
  have cancel : ∀ reason, (cancelSession n reason s).AllSound := cancelSession_sound (h.beside n) (h n).baseline_lt
  split
  · split
    · exact offerGrant_sound h hs _
    · exact cancel _
  · exact cancel _

theorem decideSession_sound (h : s.AllSound) (hs : (s.session n).state = .authorizing) (o : Opening) (c : CapturedTerms) :
    (decideSession n o c s).AllSound := by
  have cancel : ∀ reason, (cancelSession n reason s).AllSound := cancelSession_sound (h.beside n) (h n).baseline_lt
  have refer : (referSession n o s).AllSound := (h.beside n).setSession ((h n).referred hs _)
  unfold decideSession
  split
  case h_1 | h_4 => exact cancel _
  case h_2 | h_3 => exact offerGrant_sound h hs _
  case h_5 | h_6 => exact refer

theorem attemptFailed_sound (h : s.AllSound) (hs : (s.session n).state = .probing) : (attemptFailed n s).AllSound := by
  have h' : (s.setSession n { s.session n with probeDeadline := none }).AllSound :=
    (h.beside n).setSession ((h n).attempt hs _ _ _)
  unfold attemptFailed
  simp only []
  split
  · refine (h'.beside n).setSession ?_
    rw [State.session_setSession_self]
    exact (h n).attempt hs _ _ _
  · exact closeSession_sound (h'.beside n) (h' n).baseline_lt _

theorem energize_sound (h : s.AllSound) (hs : (s.session n).state = .probing) {count : Nat}
    (hc : count < Config.meterModulus) : (energize n count s).AllSound := by
  have hb : (latchPed n .energized .none s).SoundBeside n := (h.beside n).of_ne fun _ _ => rfl
  exact hb.putSession ((h n).energized hs hc _)

/-! ## The token -/

theorem acceptToken_sound (h : s.AllSound) (hs : (s.session n).state = .free ∨ (s.session n).state = .plugged)
    (token : Token) (source : TokenSource) : (acceptToken n token source s).AllSound := by
  unfold acceptToken
  simp only []
  have hb : (reserveSlot s).SoundBeside n := (h.beside n).of_ne fun _ _ => rfl
  refine decideSession_sound (hb.putSession ((h n).opened hs _ _)) ?_ _ _
  simp [Session.enter]

theorem takeToken_sound (h : s.AllSound) (n : Ped) (token : Token) (source : TokenSource) :
    (takeToken n token source s).AllSound := by
  have offer : (s.session n).state = .free ∨ (s.session n).state = .plugged → (offerToken n token source s).AllSound := by
    intro hs
    unfold offerToken
    split
    · exact refuseToken_sound h n _
    · exact acceptToken_sound h hs token source
  unfold takeToken
  simp only []
  split
  · exact offer (by simp [*])
  · exact offer (by simp [*])
  case h_10 => exact refuseToken_sound h n _
  all_goals
    split
    · first | exact h | exact h.stopSession n _
    · exact refuseToken_sound h n _

theorem quietActivity_records (s : State) : (quietActivity s).records = s.records := by
  obtain ⟨p, hp, _⟩ := paceFast_eq s
  rcases quietActivity_cases s with ⟨_, h⟩ | ⟨_, h⟩ <;> rw [h]
  simp [hp]

theorem takePresentation_sound (h : s.AllSound) (n : Ped) (p : Presentation) : (takePresentation n p s).AllSound := by
  unfold takePresentation
  simp only []
  have h' : (s.setEntry n { s.entry n with lastPresentation := some p.number }).AllSound := h
  split
  · split
    · exact h'
    · exact takeToken_sound (h'.of_records (quietActivity_records _)) n _ _
  · exact h'

end Sys2Proof.Machine
end

section
/-! SUPPORT. The exchanges of a scan cycle keep every record sound. -/

namespace Sys2Proof.Machine

variable {s t : State} {n : Ped}

/-! ## A good reply -/

/-- A record with its plug reported in, its state not one that reacts (R6). -/
theorem Session.Sound.plugIn {r : Session} (h : r.Sound) (h1 : r.state ≠ .free) (h2 : r.state ≠ .authorized) :
    Session.Sound { r with hasPlug := .yes, refusal := none } := by
  cases hs : r.state <;> simp_all [Session.sound_iff, Session.plugAllowed]

/-- A FREE record whose plug comes in (R7). -/
theorem Session.Sound.plugged {r : Session} (h : r.Sound) (hs : r.state = .free) :
    (Session.enter .plugged { r with hasPlug := .yes, refusal := none }).Sound := by
  simp_all [Session.sound_iff, Session.plugAllowed, Session.enter, SessionState.energyFlow, SessionState.isOpen,
    SessionState.granted]

/-- A record with its plug reported out, its state not one that reacts (R6). -/
theorem Session.Sound.plugOut {r : Session} (h : r.Sound)
    (hs : r.state = .free ∨ r.state = .authorizing ∨ r.state = .authorized ∨ r.state = .ending) :
    Session.Sound { r with hasPlug := .no, refusal := none } := by
  rcases hs with hs | hs | hs | hs <;> simp_all [Session.sound_iff, Session.plugAllowed]

theorem meterReply_sound (h : s.AllSound) {count : Nat} (hc : count < Config.meterModulus) (n : Ped) :
    (meterReply n count s).AllSound := by
  unfold meterReply
  simp only []
  split
  · rename_i hf
    split
    · refine (h.beside n).setSession (Session.Sound.withBaseline ?_ hc)
      split
      · exact (h n).accrued hf _ _ _
      · exact h n
    · exact (h.beside n).setSession (((h n).withFlags hf { (s.session n).flags with meterJump := true }).withBaseline hc)
  · exact (h.beside n).setSession ((h n).withBaseline hc)

theorem meterSteps_sound (h : s.AllSound) {count : Nat} (hc : count < Config.meterModulus) (n : Ped) :
    (meterSteps n count s).AllSound :=
  meterReply_sound (s := s.setEntry n _) h hc n

theorem faultSteps_sound (h : s.AllSound) (n : Ped) (x : StatusReply) :
    (sessionFaults n x (tableFaults n x s)).AllSound := by
  have h' : (tableFaults n x s).AllSound := h.of_records (by rw [tableFaults_eq])
  have stop : ∀ why, (faultStop n why (tableFaults n x s)).AllSound := by
    intro why
    unfold faultStop
    split
    · exact h'
    · exact h'.stopSession n why
  unfold sessionFaults
  simp only []
  split
  · exact stop _
  · split
    · exact stop _
    · exact h'

/-- The reaction to a plug-in, has-plug set already, of a record that was sound before (R7, R14). -/
theorem reactPlugIn_sound (h : s.SoundBeside n) {r : Session} (hr : r.Sound)
    (e : s.session n = { r with hasPlug := .yes, refusal := none }) : (reactPlugIn n s).AllSound := by
  have hst : (s.session n).state = r.state := by rw [e]
  have stay : r.state ≠ .free → r.state ≠ .authorized → s.AllSound := fun h1 h2 =>
    h.update (fun _ _ => rfl) (by rw [e]; exact hr.plugIn h1 h2)
  have hb : (s.session n).baseline < Config.meterModulus := by rw [e]; exact hr.baseline_lt
  unfold reactPlugIn
  rw [hst]
  split
  case h_1 hs => exact h.putSession (by rw [e]; exact hr.plugged hs)
  case h_2 hs =>
    split
    · exact closeSession_sound h hb _
    · split
      · exact closeSession_sound h hb _
      · refine h.update (fun _ hm => enterProbing_session_ne hm s) ?_
        rw [enterProbing_session, e]
        exact hr.probed_of_plugIn hs _
  all_goals exact stay (by simp [*]) (by simp [*])

/-- The reaction to a plug-out, has-plug cleared already, of a record that was sound before (R8, R17, R19 to R21, R24, R27). -/
theorem reactPlugOut_sound (h : s.SoundBeside n) {r : Session} (hr : r.Sound)
    (e : s.session n = { r with hasPlug := .no, refusal := none }) : (reactPlugOut n s).AllSound := by
  have hst : (s.session n).state = r.state := by rw [e]
  have stay : (r.state = .free ∨ r.state = .authorizing ∨ r.state = .authorized ∨ r.state = .ending) → s.AllSound :=
    fun hs => h.update (fun _ _ => rfl) (by rw [e]; exact hr.plugOut hs)
  have free : (putSession n (s.session n).toFree s).AllSound :=
    h.putSession (Session.sound_free (by rw [e]; exact hr.baseline_lt))
  have stop : (r.state = .probing ∨ r.state = .dispensing ∨ r.state = .suspended ∨ r.state = .occupying) →
      (stopSession n .vehicleUnplug s).AllSound := fun hs =>
    stopSession_sound (q := r.hasPlug) h (by rw [e]; exact hr.withRefusal none) (by rw [e]; simp)
      (by rw [hst]; rcases hs with hs | hs | hs | hs <;> simp [hs, SessionState.granted]) _
  unfold reactPlugOut
  rw [hst]
  split
  case h_1 | h_2 => exact free
  case h_3 | h_4 | h_5 | h_6 => exact stop (by simp [*])
  all_goals exact stay (by simp [*])

theorem Session.Sound.released {r : Session} (h : r.Sound) (hs : r.state = .released) :
    Session.Sound { r with hasPlug := .yes } := by
  simp_all [Session.sound_iff, Session.plugAllowed]

theorem takePlug_sound (h : s.AllSound) (n : Ped) (plug : Bool) : (takePlug n plug s).AllSound := by
  unfold takePlug
  simp only []
  split
  · have h' : (quietActivity (latchPed n .plugIn .none s)).AllSound := h.of_records (quietActivity_records _)
    exact reactPlugIn_sound ((h'.beside n).of_ne fun _ hm => State.session_setSession_ne _ hm _) (h' n)
      (State.session_setSession_self _ _ _)
  · split
    · have h' : (latchPed n .plugOut .none s).AllSound := h.of_records rfl
      exact reactPlugOut_sound ((h'.beside n).of_ne fun _ hm => State.session_setSession_ne _ hm _) (h' n)
        (State.session_setSession_self _ _ _)
    · split
      · rename_i hs
        split
        · exact (h.beside n).setSession ((h n).released hs)
        · exact (h.beside n).putSession (Session.sound_free (h n).baseline_lt)
      · exact h

theorem takeProbe_sound (h : s.AllSound) {count : Nat} (hc : count < Config.meterModulus) (n : Ped) (p : ProbeResult) :
    (takeProbe n p count s).AllSound := by
  unfold takeProbe
  split
  · rename_i hs
    cases p <;> simp only []
    case none => exact h
    case openCircuit => exact attemptFailed_sound h hs
    case short =>
      have h' : (latchPed n .probeFault .none (s.setEntry n { s.entry n with blocked := true })).AllSound := h
      exact closeSession_sound (h'.beside n) (h' n).baseline_lt _
    case matched =>
      split
      · exact energize_sound h hs hc
      · exact closeSession_sound (h.beside n) (h n).baseline_lt _
  · exact h

/-- The vehicle's fields and the present power drive the record or close its session. -/
theorem vehicleSteps_sound (h : s.AllSound) (n : Ped) (we : Bool) (x : StatusReply) :
    (takePower n we x.power (takeVehicleRequest n x.request x.complete (takeComplete n x.complete s))).AllSound := by
  by_cases hw : we = true → (s.session n).state = .ending → 10 ≤ x.power
  · rw [vehicleSteps_eq n we x s hw]
    exact (h.beside n).setSession ((h n).driven x _)
  · have hst : (s.session n).state = .ending := by tauto
    have h1 : takeComplete n x.complete s = s := by simp [takeComplete, hst]
    have h2 : takeVehicleRequest n x.request x.complete s = s := by simp [takeVehicleRequest, hst]
    rw [h1, h2]
    unfold takePower
    split
    · exact closeSession_sound (h.beside n) (h n).baseline_lt _
    · exact h

theorem linkSteps_records (n : Ped) (plug : Bool) (s : State) : (linkSteps n plug s).records = s.records := by
  unfold linkSteps
  simp only []
  split <;> rfl

theorem takeReply_sound (h : s.AllSound) (n : Ped) {x : StatusReply} (hc : x.meter < Config.meterModulus) :
    (takeReply n x s).AllSound := by
  unfold takeReply sessionSteps
  simp only []
  refine State.AllSound.of_records ?_ (linkSteps_records _ _ _)
  refine vehicleSteps_sound (takeProbe_sound ?_ hc _ _) _ _ _
  have plugged := takePlug_sound (faultSteps_sound (meterSteps_sound h hc n) n x) n x.plug
  split
  · exact takePresentation_sound plugged n _
  · exact plugged

/-! ## The places of a scan cycle -/

theorem takeMiss_sound (h : s.AllSound) (n : Ped) : (takeMiss n s).AllSound := by
  unfold takeMiss
  simp only []
  split
  · apply State.AllSound.loseSession
    exact h
  · exact h.of_records rfl

theorem decodeReply_meter_lt {bytes : List Byte} {x : StatusReply} (h : decodeReply n bytes = some x) :
    x.meter < Config.meterModulus := by
  unfold decodeReply at h
  split at h
  · obtain rfl := Option.some.inj h
    exact fieldAt_lt bytes 7 3
  · cases h

theorem takeExchange_sound (h : s.AllSound) (e : Exchange) (reply : Option StatusReply)
    (hr : ∀ x, reply = some x → x.meter < Config.meterModulus) : (takeExchange e reply s).AllSound := by
  unfold takeExchange
  split
  · exact h
  · cases reply with
    | none => exact takeMiss_sound h _
    | some x =>
      simp only []
      split
      · exact meterSteps_sound h (hr x rfl) _
      · exact takeReply_sound h _ (hr x rfl)

theorem sendCommand_sound (h : s.AllSound) (n : Ped) (b : Bool) : (sendCommand n b s).AllSound := by
  unfold sendCommand
  simp only []
  split
  · exact ((h.of_records rfl : State.AllSound _).beside n).setSession (h n).probeSent
  · exact h.of_records rfl

theorem nextTurn_sound (h : s.AllSound) (l : List Ped) : (nextTurn l s).AllSound := by
  unfold nextTurn
  split
  · exact sendCommand_sound h _ _
  · exact h.of_records rfl

theorem endExchange_sound (h : s.AllSound) (e : Exchange) : (endExchange e s).AllSound := by
  unfold endExchange
  split
  · exact h.of_records rfl
  · split
    · exact h.of_records rfl
    · exact nextTurn_sound h _

theorem takeAlert_sound (h : s.AllSound) (reading : Nat) : (takeAlert reading s).AllSound := by
  have h' : (quietActivity s).AllSound := h.of_records (quietActivity_records s)
  unfold takeAlert
  simp only []
  split
  · exact h
  · split
    · split
      · exact sendCommand_sound h' _ _
      · exact h'
    · exact h'

end Sys2Proof.Machine
end

section
/-! SUPPORT. An allocation round keeps every record sound: it writes allocation fields of records in DISPENSING alone. -/

namespace Sys2Proof.Machine

variable {s t : State} {n : Ped}

/-! ## The allocation round -/

/-- New allocation fields within their laws for a record in DISPENSING (R88, R107). -/
theorem State.AllSound.setAlloc (h : s.AllSound) (hs : (s.session n).state = .dispensing) {a : Alloc}
    (hshare : a.share ≠ 0 → a.grantState = .powered) (hyield : a.yieldLeft ≠ 0 → a.grantState = .yielding)
    (hw : a.waitRounds ≤ Config.max16) (hv : a.servedRounds ≤ Config.max16) : (s.setAlloc n a).AllSound :=
  (h.beside n).setSession ((h n).withAlloc hs hshare hyield hw hv)

/-- A record set aside keeps its request alone (R93). -/
theorem State.AllSound.setAside (h : s.AllSound) (hs : (s.session n).state = .dispensing) :
    (s.setAlloc n (s.session n).alloc.setAside).AllSound :=
  h.setAlloc hs (by simp [Alloc.setAside]) (by simp [Alloc.setAside]) (by simp [Alloc.setAside]) (by simp [Alloc.setAside])

theorem Session.Sound.counters_le {r : Session} (h : r.Sound) :
    r.alloc.waitRounds ≤ Config.max16 ∧ r.alloc.servedRounds ≤ Config.max16 := h.1.2.2.2.2.2.2

theorem Session.yielding_iff (r : Session) :
    r.yielding = true ↔ r.state = .dispensing ∧ r.alloc.grantState = .yielding := by
  simp [Session.yielding]

theorem blockedStage_sound (h : s.AllSound) (n : Ped) : (blockedStage n s).AllSound := by
  unfold blockedStage
  split
  · rename_i hc
    exact h.setAside hc.1
  · exact h

theorem countdownStage_sound (h : s.AllSound) (n : Ped) : (countdownStage n s).AllSound := by
  unfold countdownStage
  simp only []
  split
  · rename_i hy
    obtain ⟨hs, hg⟩ := (Session.yielding_iff _).1 hy
    obtain ⟨hw, hv⟩ := (h n).counters_le
    split
    · exact h.setAside hs
    · exact h.setAlloc hs (by simp) (fun _ => hg) hw hv
  · exact h

theorem releaseYielder_sound (h : s.AllSound) (n : Ped) : (releaseYielder n s).AllSound := by
  unfold releaseYielder
  split
  · rename_i hy
    exact h.setAside ((Session.yielding_iff _).1 hy).1
  · exact h

/-- An exhausted figure is that of a record in DISPENSING (R75). -/
theorem State.coverFigure_some {f : CoverFigure} (h : s.coverFigure n = some f) : (s.session n).state = .dispensing := by
  unfold State.coverFigure at h
  cases hs : (s.session n).state <;> simp [hs] at h ⊢

/-- A record in ENDING is in an energy-flow state. -/
theorem enterEnding_energyFlow {m : Ped} (why : EndReason) (h : (s.session m).state.energyFlow = true) :
    ((enterEnding n why s).session m).state.energyFlow = true := by
  rw [enterEnding_eq_put]
  by_cases hm : m = n
  · subst hm; simp [Session.ended, SessionState.energyFlow]
  · rwa [putSession_session_ne hm]

/-- Stage 1: an exhausted record, in an energy-flow state since the round's start, enters ENDING (R82). -/
theorem coverStages_sound (h : s.AllSound) :
    (forPedestals (fun n => coverStage (s.coverFigure n) n) s).AllSound := by
  have key := forPedestals_induction (s := s) (f := fun n => coverStage (s.coverFigure n) n)
    (P := fun u => u.AllSound ∧ ∀ m, s.coverFigure m = some .exhausted → (u.session m).state.energyFlow = true)
    ⟨h, fun m hm => by rw [State.coverFigure_some hm]; rfl⟩ ?_
  · exact key.1
  · rintro n u ⟨hu, hflow⟩
    unfold coverStage
    split
    · rename_i hx
      have hp := (hu n).hasPlug_known (by intro hr; have := hflow n hx; simp [hr, SessionState.energyFlow] at this)
      exact ⟨enterEnding_sound (q := (u.session n).hasPlug) (hu.beside n) (hu n) (hflow n hx) hp _,
        fun m hm => enterEnding_energyFlow _ (hflow m hm)⟩
    · exact ⟨hu, hflow⟩

theorem prepareRound_sound (h : s.AllSound) : (prepareRound s).AllSound := by
  unfold prepareRound releaseStage
  simp only []
  have h3 := forPedestals_induction (f := countdownStage)
    (forPedestals_induction (f := blockedStage) (coverStages_sound h) fun n _ hu => blockedStage_sound hu n)
    fun n _ hu => countdownStage_sound hu n
  split
  · exact forPedestals_induction h3 fun n _ hu => releaseYielder_sound hu n
  · exact h3

/-! ### Candidates are records in DISPENSING -/

theorem State.candidate_drawing {f : Option CoverFigure} {c : Candidate} (h : s.candidate f n = some c) :
    (s.session c.pedestal).state = .dispensing := by
  unfold State.candidate at h
  simp only [] at h
  split at h
  · split at h
    · rename_i hd
      obtain rfl := Option.some.inj h
      simp only [State.drawing, Bool.and_eq_true, beq_iff_eq] at hd
      exact hd.1.1
    · cases h
  · cases h

theorem State.candidates_dispensing {figure : Ped → Option CoverFigure} {c : Candidate} (h : c ∈ s.candidates figure) :
    (s.session c.pedestal).state = .dispensing := by
  unfold State.candidates at h
  rw [List.mem_insertionSort, List.mem_filterMap] at h
  obtain ⟨n, _, hn⟩ := h
  exact State.candidate_drawing hn

/-- The floor pass sorts the candidates into two lists (R101). -/
theorem mem_floorPass (cs : List Candidate) : ∀ (left : Nat) {c : Candidate},
    (c ∈ (floorPass left cs).1 → c ∈ cs) ∧ (c ∈ (floorPass left cs).2.1 → c ∈ cs) := by
  induction cs with
  | nil => intro left c; simp [floorPass]
  | cons a cs ih =>
    intro left c
    unfold floorPass
    simp only []
    split
    · have := ih (left - a.floor) (c := c)
      simp only [List.mem_cons]
      tauto
    · have := ih left (c := c)
      simp only [List.mem_cons]
      tauto

theorem mem_sharesAtLevel {x : Ped × Nat} (level : Nat) (cs : List Candidate) : ∀ leftover : Nat,
    x ∈ sharesAtLevel level leftover cs → ∃ c ∈ cs, c.pedestal = x.1 := by
  induction cs with
  | nil => intro leftover h; simp [sharesAtLevel] at h
  | cons a cs ih =>
    intro leftover h
    unfold sharesAtLevel at h
    split at h <;> rcases List.mem_cons.1 h with rfl | h
    · exact ⟨a, by simp, rfl⟩
    · obtain ⟨c, hc, e⟩ := ih _ h
      exact ⟨c, by simp [hc], e⟩
    · exact ⟨a, by simp, rfl⟩
    · obtain ⟨c, hc, e⟩ := ih _ h
      exact ⟨c, by simp [hc], e⟩

/-- Every share of the fill pass is that of a POWERED candidate (R102, R103). -/
theorem mem_fillPass {x : Ped × Nat} {left : Nat} {powered : List Candidate} (h : x ∈ fillPass left powered) :
    ∃ c ∈ powered, c.pedestal = x.1 := by
  unfold fillPass at h
  simp only [] at h
  split at h
  · obtain ⟨c, hc, rfl⟩ := List.mem_map.1 h
    exact ⟨c, hc, rfl⟩
  · exact mem_sharesAtLevel _ _ _ h

/-- A change of allocation fields leaves every life-cycle state. -/
theorem State.setAlloc_state (a : Alloc) (m : Ped) : ((s.setAlloc n a).session m).state = (s.session m).state := by
  by_cases hm : m = n
  · subst hm
    show ((s.setSession m _).session m).state = _
    simp
  · show ((s.setSession n _).session m).state = _
    rw [State.session_setSession_ne s hm]

/-- POWERED and YIELDING keep the laws of the allocation fields (R105, R106). -/
theorem State.AllSound.power (h : s.AllSound) (hs : (s.session n).state = .dispensing) (share : Nat) (b : Bool)
    (on off : Nat) : (s.setAlloc n ((s.session n).alloc.power share b on off)).AllSound := by
  have served : (if b then satAdd Config.max16 (s.session n).alloc.servedRounds 1 else 0) ≤ Config.max16 := by
    split
    · exact satAdd_le _ _ _
    · exact Nat.zero_le _
  unfold Alloc.power
  simp only []
  generalize (if b then satAdd Config.max16 (s.session n).alloc.servedRounds 1 else 0) = k at served ⊢
  split
  · exact h.setAlloc hs (by simp) (by simp) (by simp) (by simp)
  · exact h.setAlloc hs (by simp) (by simp) (by simp) served

/-- PARKED keeps the laws of the allocation fields (R101, R105). -/
theorem State.AllSound.park (h : s.AllSound) (hs : (s.session n).state = .dispensing) :
    (s.setAlloc n (s.session n).alloc.park).AllSound :=
  h.setAlloc hs (by simp [Alloc.park]) (by simp [Alloc.park]) (satAdd_le _ _ _) (h n).counters_le.2

theorem applyPowered_sound (b : Bool) (shares : List (Ped × Nat)) : ∀ s : State, s.AllSound →
    (∀ x ∈ shares, (s.session x.1).state = .dispensing) →
    (applyPowered b shares s).AllSound ∧ ∀ m, ((applyPowered b shares s).session m).state = (s.session m).state := by
  unfold applyPowered
  induction shares with
  | nil => exact fun s h _ => ⟨h, fun _ => rfl⟩
  | cons x xs ih =>
    intro s h hd
    have hx := h.power (hd x (by simp)) x.2 b s.settings.yieldOn s.settings.yieldOff
    obtain ⟨h1, h2⟩ := ih _ hx fun y hy => by rw [State.setAlloc_state]; exact hd y (by simp [hy])
    exact ⟨h1, fun m => (h2 m).trans (State.setAlloc_state _ m)⟩

theorem applyParked_sound (parked : List Candidate) : ∀ s : State, s.AllSound →
    (∀ c ∈ parked, (s.session c.pedestal).state = .dispensing) → (applyParked parked s).AllSound := by
  unfold applyParked
  induction parked with
  | nil => exact fun s h _ => h
  | cons c cs ih =>
    intro s h hd
    exact ih _ (h.park (hd c (by simp))) fun y hy => by rw [State.setAlloc_state]; exact hd y (by simp [hy])

theorem reportRound_records (budget k p : Nat) (s : State) : (reportRound budget k p s).records = s.records := by
  unfold reportRound
  simp only []
  split <;> rfl

theorem divideBudget_sound (h : s.AllSound) (figure : Ped → Option CoverFigure) : (divideBudget figure s).AllSound := by
  unfold divideBudget
  simp only []
  have hpass := @mem_floorPass (s.candidates figure) s.roundBudget
  generalize floorPass s.roundBudget (s.candidates figure) = pass at hpass ⊢
  refine State.AllSound.of_records ?_ (reportRound_records _ _ _ _)
  obtain ⟨h1, h2⟩ := applyPowered_sound (!pass.2.1.isEmpty) (fillPass pass.2.2 pass.1) s h fun x hx => by
    obtain ⟨c, hc, e⟩ := mem_fillPass hx
    rw [← e]
    exact State.candidates_dispensing (hpass.1 hc)
  exact applyParked_sound _ _ h1 fun c hc => by
    rw [h2]
    exact State.candidates_dispensing (hpass.2 hc)

theorem allocationRound_sound (h : s.AllSound) : (allocationRound s).AllSound :=
  divideBudget_sound (prepareRound_sound h) _

/-- Changes of table entries keep every record sound. -/
theorem State.AllSound.mapEntries (h : s.AllSound) (f : PedestalEntry → PedestalEntry) :
    (forPedestals (fun n s => s.setEntry n (f (s.entry n))) s).AllSound := by
  rw [forPedestals_setEntry]
  exact h

theorem startCycle_sound (h : s.AllSound) : (startCycle s).AllSound := by
  unfold startCycle
  refine nextTurn_sound (State.AllSound.mapEntries (f := fun e => { e with missMark := false }) ?_) _
  split
  · exact allocationRound_sound (h.of_records rfl)
  · exact h.of_records rfl

end Sys2Proof.Machine
end

section
/-! SUPPORT. Requests, characters, timers and starts keep every record sound, and with them every step (R1, R2). -/

namespace Sys2Proof.Machine

variable {s t : State} {n : Ped}

/-! ## Requests -/

/-- A request's act keeps every record sound. -/
def Request.KeepsSound (q : Request) : Prop := ∀ (body : List Byte) (s : State), s.AllSound → (q.act body s).2.AllSound

theorem linkFrame_records (s : State) : (linkFrame s).records = s.records := by
  rcases linkFrame_cases s with ⟨_, h⟩ | ⟨_, h⟩ <;> rw [h] <;> rfl

theorem sendReply_sound (h : s.AllSound) (r : Reply) : (sendReply r s).AllSound := by
  obtain ⟨l, e⟩ := sendReply_eq r s
  exact h.of_records (by rw [e]; rfl)

theorem takeFrame_sound (h : s.AllSound) (kind tag : Byte) (body : List Byte) {q : Option Request}
    (hq : ∀ r, q = some r → r.KeepsSound) : (takeFrame kind tag body q s).AllSound := by
  unfold takeFrame
  split
  · have h' : (linkFrame (s.withLine { s.line with parser := .hunt false })).AllSound :=
      h.of_records (linkFrame_records _)
    generalize linkFrame _ = u at h' ⊢
    unfold answerFrame
    split
    · unfold refuseBusy
      split
      · exact h'.of_records rfl
      · exact h'.of_records rfl
    · split
      · exact sendReply_sound h' _
      · split
        · exact sendReply_sound h' _
        · rename_i r
          split
          · exact sendReply_sound (hq r rfl _ _ h') _
          · exact sendReply_sound h' _
  · exact h

theorem statusRead_sound : statusRead.KeepsSound := fun _ _ h => h.of_records rfl

theorem parkSet_sound : parkSet.KeepsSound := by
  intro body s h
  unfold parkSet
  simp only []
  split <;> exact h.of_records rfl

theorem parkRead_sound : parkRead.KeepsSound := fun _ _ h => h

theorem parkOpen_sound : parkOpen.KeepsSound := by
  intro body s h
  unfold parkOpen
  simp only []
  split <;> exact h.of_records rfl

theorem parkClose_sound : parkClose.KeepsSound := fun _ _ h => h.of_records rfl

theorem clockSet_sound : clockSet.KeepsSound := by
  intro body s h
  unfold clockSet
  simp only []
  split <;> exact h.of_records rfl

theorem siteLoad_sound : siteLoad.KeepsSound := fun _ _ h => h.of_records rfl

theorem tariffWrite_sound : tariffWrite.KeepsSound := by
  intro body s h
  unfold tariffWrite
  simp only []
  split
  · exact h
  · repeat' split
    all_goals exact h.of_records rfl

theorem tariffRead_sound : tariffRead.KeepsSound := by
  intro body s h
  unfold tariffRead
  simp only []
  split <;> exact h

theorem tariffClear_sound : tariffClear.KeepsSound := by
  intro body s h
  unfold tariffClear
  simp only []
  repeat' split
  all_goals exact h.of_records rfl

theorem windowWrite_sound : windowWrite.KeepsSound := by
  intro body s h
  unfold windowWrite
  simp only []
  split <;> exact h.of_records rfl

theorem windowRead_sound : windowRead.KeepsSound := by
  intro body s h
  unfold windowRead
  simp only []
  split <;> exact h

theorem windowClear_sound : windowClear.KeepsSound := by
  intro body s h
  unfold windowClear
  simp only []
  split <;> exact h.of_records rfl

theorem dropShare_sound (h : s.AllSound) (n : Ped) : (dropShare n s).AllSound := by
  unfold dropShare
  simp only []
  split
  · rename_i hc
    obtain ⟨hs, hg⟩ := hc
    obtain ⟨hw, hv⟩ := (h n).counters_le
    have hy : (s.session n).alloc.yieldLeft = 0 := by
      by_contra h0
      have := (h n).1.2.2.2.2.2.1 h0
      simp [hg] at this
    exact h.setAlloc hs (by simp) (by simp [hy]) hw hv
  · exact h

theorem enrol_sound : enrol.KeepsSound := by
  intro body s h
  unfold enrol
  simp only []
  split
  · exact h
  · rename_i n _
    split
    · exact h
    · split
      · exact (dropShare_sound h n).of_records rfl
      · exact h.of_records rfl

theorem voidExchange_records (n : Ped) (s : State) : (voidExchange n s).records = s.records := by
  unfold voidExchange
  split
  · split <;> rfl
  all_goals rfl

theorem withdraw_sound : withdraw.KeepsSound := by
  intro body s h
  unfold withdraw
  simp only []
  split
  · exact h
  · split
    · exact h
    · split
      · exact h
      · exact h.of_records (voidExchange_records _ _)

theorem unblock_sound : unblock.KeepsSound := by
  intro body s h
  unfold unblock
  simp only []
  repeat' split
  all_goals exact h.of_records rfl

theorem pedestalRead_sound : pedestalRead.KeepsSound := by
  intro body s h
  unfold pedestalRead
  simp only []
  split <;> exact h

theorem countersRead_sound : countersRead.KeepsSound := fun _ _ h =>
  h.mapEntries fun e => { e with frameErrors := 0, missMark := false }

theorem sessionRead_sound : sessionRead.KeepsSound := by
  intro body s h
  unfold sessionRead
  simp only []
  split <;> exact h

theorem hostStop_sound (h : s.AllSound) (n : Ped) : (hostStop n s).AllSound := by
  unfold hostStop
  split
  · exact cancelSession_sound (h.beside n) (h n).baseline_lt _
  · exact h.stopSession n _

theorem sessionStop_sound : sessionStop.KeepsSound := by
  intro body s h
  unfold sessionStop
  simp only []
  generalize (if body.length = 3 then some (fieldAt body 1 2) else none) = given
  split
  · exact h
  · split
    · exact h
    · split
      · exact h
      · exact hostStop_sound h _

theorem State.AllSound.setHostCap (h : s.AllSound) (n : Ped) (cap : Option Nat) : (s.setHostCap n cap).AllSound :=
  (h.beside n).setSession (r := { s.session n with hostCap := cap }) (h n)

theorem sessionCap_sound : sessionCap.KeepsSound := by
  intro body s h
  unfold sessionCap
  simp only []
  split
  · exact h
  · split
    · exact h
    · split
      · exact h
      · split
        · exact h.setHostCap _ _
        · split
          · exact h.setHostCap _ _
          · exact h.setHostCap _ _

theorem State.waiting_authorizing {k : Nat} (h : s.waiting k = some n) : (s.session n).state = .authorizing := by
  have := List.find?_some h
  simp only [Bool.and_eq_true, beq_iff_eq] at this
  exact this.1

theorem authDecision_sound : authDecision.KeepsSound := by
  intro body s h
  unfold authDecision
  simp only []
  split
  · exact h
  · rename_i n hn
    split
    · exact h
    · split
      · exact h
      · exact cancelSession_sound (h.beside n) (h n).baseline_lt _
      · split
        · exact h
        · exact offerGrant_sound h (State.waiting_authorizing hn) _

theorem queryList_sound : queryList.KeepsSound := fun _ _ h => h

theorem settleFetch_sound : settleFetch.KeepsSound := by
  intro body s h
  unfold settleFetch fetchUnnamed fetchNamed
  simp only []
  repeat' split
  all_goals exact h.of_records rfl

theorem settleConfirm_sound : settleConfirm.KeepsSound := by
  intro body s h
  unfold settleConfirm
  simp only []
  repeat' split
  all_goals exact h.of_records rfl

theorem conditionsRead_sound : conditionsRead.KeepsSound := by
  intro body s h
  unfold conditionsRead
  simp only []
  split <;> exact h.of_records rfl

theorem conditionsClear_sound : conditionsClear.KeepsSound := by
  intro body s h
  unfold conditionsClear
  simp only []
  repeat' split
  all_goals exact h.of_records rfl

theorem conditionsMask_sound : conditionsMask.KeepsSound := by
  intro body s h
  unfold conditionsMask
  simp only []
  split <;> exact h.of_records rfl

theorem haltAll_sound (h : s.AllSound) (why : EndReason) : (forPedestals (haltSession why) s).AllSound :=
  forPedestals_induction h fun n _ hu => hu.haltSession why n

theorem requestStopAll_sound (h : s.AllSound) : (requestStopAll s).AllSound := by
  rw [requestStopAll_eq]
  exact h.of_records rfl

theorem enterRestarting_sound (h : s.AllSound) (kind : RestartKind) : (enterRestarting kind s).AllSound :=
  (requestStopAll_sound h).of_records rfl

theorem restart_sound : restart.KeepsSound := by
  intro body s h
  unfold restart
  simp only []
  split
  · exact enterRestarting_sound (haltAll_sound h _) _
  · split
    · exact h
    · exact enterRestarting_sound h _
  · exact h

/-- Every request of the catalogue keeps the records sound. -/
theorem catalogue_sound (kind : Byte) (q : Request) (h : catalogue kind = some q) : q.KeepsSound := by
  unfold catalogue at h
  split at h <;> cases h
  exacts [statusRead_sound, parkSet_sound, parkRead_sound, parkOpen_sound, parkClose_sound, clockSet_sound, siteLoad_sound,
    tariffWrite_sound, tariffRead_sound, tariffClear_sound, windowWrite_sound, windowRead_sound, windowClear_sound,
    enrol_sound, withdraw_sound, unblock_sound, pedestalRead_sound, countersRead_sound, sessionRead_sound,
    sessionStop_sound, sessionCap_sound, authDecision_sound, queryList_sound, settleFetch_sound, settleConfirm_sound,
    conditionsRead_sound, conditionsClear_sound, conditionsMask_sound, restart_sound]

/-! ## Characters -/

theorem parseByte_sound (h : s.AllSound) (b : Byte) : (parseByte b s).AllSound := by
  unfold parseByte
  split
  · split
    · exact h.of_records rfl
    · unfold badSyncByte
      split <;> exact h.of_records rfl
  · split <;> exact h.of_records rfl
  · exact h.of_records rfl
  · exact h.of_records rfl
  · exact h.of_records rfl
  · exact h.of_records rfl
  · unfold endFrame
    split
    · exact takeFrame_sound h _ _ _ (catalogue_sound _)
    · exact h.of_records rfl

theorem receiveChar_sound (h : s.AllSound) (c : RxChar) : (receiveChar c s).AllSound := by
  unfold receiveChar
  split
  · split
    · exact parseByte_sound h _
    · unfold badStop badSyncByte
      repeat' split
      all_goals exact h.of_records rfl
  · exact h

theorem receive_sound (h : s.AllSound) (received : List RxChar) : (receive received s).AllSound := by
  unfold receive
  induction received generalizing s with
  | nil => exact h
  | cons c cs ih => exact ih (receiveChar_sound h c)

/-! ## Starts and stops -/

theorem latchStart_records (kind : StartKind) (cause : StartCause) (s : State) :
    (latchStart kind cause s).records = s.records := by
  unfold latchStart
  simp only []
  split <;> rfl

/-- A start leaves every record FREE (R32). -/
theorem State.AllSound.of_free (h : s.records = Vector.replicate 16 {}) : s.AllSound := by
  intro n
  have : s.session n = {} := by unfold State.session; rw [h]; simp [Vector.get]
  rw [this]
  exact Session.sound_free (b := 0) (by decide)

theorem freshStart_sound (kind : StartKind) (cause : StartCause) (q : Settlement) (s : State) :
    (freshStart kind cause q s).AllSound :=
  State.AllSound.of_free (latchStart_records _ _ _)

theorem softStart_sound (s : State) : (softStart s).AllSound :=
  State.AllSound.of_free (latchStart_records _ _ _)

theorem markerStart_sound (cause : StartCause) (s : State) : (markerStart cause s).AllSound := by
  unfold markerStart
  split <;> exact freshStart_sound _ _ _ _

theorem haltDevice_sound (h : s.AllSound) : (haltDevice s).AllSound := by
  have stopped := requestStopAll_sound (haltAll_sound h .supplyLoss)
  unfold haltDevice
  generalize requestStopAll _ = u at stopped ⊢
  exact stopped.of_records rfl

theorem stopCause_sound (h : s.AllSound) : (stopCause s).AllSound := by
  unfold stopCause
  split
  · exact h
  · exact haltDevice_sound h

/-! ## Commands and steps -/

/-- What a command makes of a state, its refusals and faults aside: no arm of `exec` has any. -/
def KeepsSound (i : Instr) : Prop := ∀ s t : State, s.AllSound → exec i s = .next t → t.AllSound

/-- A command whose outcome is a state with sound records keeps records sound. -/
theorem KeepsSound.of_next {i : Instr} {f : State → State} (e : ∀ s, exec i s = .next (f s))
    (h : ∀ s, s.AllSound → (f s).AllSound) : KeepsSound i := by
  intro s t hs ht
  rw [e s] at ht
  obtain rfl := Host.Outcome.next.inj ht
  exact h s hs

/-- A request row is a frame of its kind. -/
theorem KeepsSound.of_request {i : Instr} {kind tag : Byte} {body : List Byte} {q : Request}
    (e : ∀ s, exec i s = .next (takeFrame kind tag body (some q) s)) (hq : q.KeepsSound) : KeepsSound i :=
  of_next e fun _ hs => takeFrame_sound hs _ _ _ fun r hr => by obtain rfl := Option.some.inj hr; exact hq

/-- Every request row keeps records sound. -/
theorem requestRows_sound {i : Instr} (h : (requestFrame i).isSome) : KeepsSound i := by
  cases i
  case statusRead => exact .of_request (fun _ => rfl) statusRead_sound
  case parkSet => exact .of_request (fun _ => rfl) parkSet_sound
  case parkRead => exact .of_request (fun _ => rfl) parkRead_sound
  case parkOpen => exact .of_request (fun _ => rfl) parkOpen_sound
  case parkClose => exact .of_request (fun _ => rfl) parkClose_sound
  case clockSet => exact .of_request (fun _ => rfl) clockSet_sound
  case siteLoad => exact .of_request (fun _ => rfl) siteLoad_sound
  case tariffWrite => exact .of_request (fun _ => rfl) tariffWrite_sound
  case tariffRead => exact .of_request (fun _ => rfl) tariffRead_sound
  case tariffClear => exact .of_request (fun _ => rfl) tariffClear_sound
  case windowWrite => exact .of_request (fun _ => rfl) windowWrite_sound
  case windowRead => exact .of_request (fun _ => rfl) windowRead_sound
  case windowClear => exact .of_request (fun _ => rfl) windowClear_sound
  case enrol => exact .of_request (fun _ => rfl) enrol_sound
  case withdraw => exact .of_request (fun _ => rfl) withdraw_sound
  case unblock => exact .of_request (fun _ => rfl) unblock_sound
  case pedestalRead => exact .of_request (fun _ => rfl) pedestalRead_sound
  case countersRead => exact .of_request (fun _ => rfl) countersRead_sound
  case sessionRead => exact .of_request (fun _ => rfl) sessionRead_sound
  case sessionStop => exact .of_request (fun _ => rfl) sessionStop_sound
  case sessionCap => exact .of_request (fun _ => rfl) sessionCap_sound
  case authDecision => exact .of_request (fun _ => rfl) authDecision_sound
  case queryList => exact .of_request (fun _ => rfl) queryList_sound
  case settleFetch => exact .of_request (fun _ => rfl) settleFetch_sound
  case settleFetchNamed => exact .of_request (fun _ => rfl) settleFetch_sound
  case settleConfirm => exact .of_request (fun _ => rfl) settleConfirm_sound
  case conditionsRead => exact .of_request (fun _ => rfl) conditionsRead_sound
  case conditionsClear => exact .of_request (fun _ => rfl) conditionsClear_sound
  case conditionsMask => exact .of_request (fun _ => rfl) conditionsMask_sound
  case restartSoft => exact .of_request (fun _ => rfl) restart_sound
  case restartHard => exact .of_request (fun _ => rfl) restart_sound
  case badKind => exact .of_next (fun _ => rfl) fun _ hs => takeFrame_sound hs _ _ _ (catalogue_sound _)
  all_goals exact absurd h (by simp [requestFrame])

/-- The events of the pedestal bus keep records sound. -/
theorem statusReply_sound (bytes : List Byte) : KeepsSound (.statusReply bytes) :=
  .of_next (fun _ => rfl) fun s hs => by
    split
    · rename_i e _
      exact endExchange_sound (takeExchange_sound hs e _ fun x hx => decodeReply_meter_lt hx) e
    all_goals exact hs

theorem exchangeMiss_sound (cause : MissCause) : KeepsSound (.exchangeMiss cause) :=
  .of_next (fun _ => rfl) fun s hs => by
    split
    · rename_i e _
      exact endExchange_sound (takeExchange_sound hs e none fun x hx => by cases hx) e
    all_goals exact hs

theorem cycleStart_sound : KeepsSound .cycleStart :=
  .of_next (fun _ => rfl) fun s hs => by
    split
    · exact startCycle_sound hs
    · exact hs

theorem alertSlot_sound (nodes : List BusAddress) : KeepsSound (.alertSlot nodes) :=
  .of_next (fun _ => rfl) fun s hs => by
    split
    · exact takeAlert_sound hs _
    all_goals exact hs

theorem quietTimerExpiry_sound : KeepsSound .quietTimerExpiry :=
  .of_next (fun _ => rfl) fun s hs => by
    split
    · split
      · exact hs.of_records rfl
      · exact hs
    · exact hs

/-! ### The host line's own events -/

theorem startNotice_sound (h : s.AllSound) : (startNotice s).AllSound := by
  rcases startNotice_cases s with e | ⟨_, _, _, e⟩ <;> rw [e]
  · exact h
  · exact h.of_records rfl

theorem frameSent_sound (h : s.AllSound) : (frameSent s).AllSound := by
  unfold frameSent
  split
  · exact h.of_records rfl
  · exact h.of_records rfl
  · exact startNotice_sound (h.of_records rfl)

theorem replySent_sound : KeepsSound .replySent :=
  .of_next (fun _ => rfl) fun s hs => by
    split
    · exact frameSent_sound hs
    all_goals exact hs

theorem noticeSent_sound : KeepsSound .noticeSent :=
  .of_next (fun _ => rfl) fun s hs => by
    split
    · exact frameSent_sound hs
    all_goals exact hs

theorem linkSilenceExpiry_sound : KeepsSound .linkSilenceExpiry :=
  .of_next (fun _ => rfl) fun s hs => by
    split
    · split
      · exact hs.of_records rfl
      · exact hs
    · exact hs

theorem frameGapTimeout_sound (received : List RxChar) : KeepsSound (.frameGapTimeout received) :=
  .of_next (fun _ => rfl) fun s hs => by
    have h := receive_sound hs received
    unfold gapExpired
    split
    · exact h.of_records rfl
    · exact h

/-! ### Deadlines and ticks -/

theorem State.authDeadlineOf_some {p : Point} (h : s.authDeadlineOf n = some p) : (s.session n).state = .authorizing := by
  unfold State.authDeadlineOf at h
  split at h
  · rename_i hc; exact hc.2
  · cases h

theorem State.probeDeadlineOf_some {p : Point} (h : s.probeDeadlineOf n = some p) : (s.session n).state = .probing := by
  unfold State.probeDeadlineOf at h
  split at h
  · rename_i hc; exact hc.2
  · cases h

theorem State.AllSound.reach (h : s.AllSound) (p : Point) : (s.reach p).AllSound := h

theorem authDeadlineExpiry_sound (n : Ped) : KeepsSound (.authDeadlineExpiry n) :=
  .of_next (fun _ => rfl) fun s hs => by
    split
    · rename_i p hp
      exact authExpired_sound (hs.reach p) (State.authDeadlineOf_some hp)
    · exact hs

theorem plugDeadlineExpiry_sound (n : Ped) : KeepsSound (.plugDeadlineExpiry n) :=
  .of_next (fun _ => rfl) fun s hs => by
    split
    · rename_i p _
      exact closeSession_sound ((hs.reach p).beside n) (hs n).baseline_lt _
    · exact hs

theorem probeDeadlineExpiry_sound (n : Ped) : KeepsSound (.probeDeadlineExpiry n) :=
  .of_next (fun _ => rfl) fun s hs => by
    split
    · rename_i p hp
      exact attemptFailed_sound (hs.reach p) (State.probeDeadlineOf_some hp)
    · exact hs

theorem endingDeadlineExpiry_sound (n : Ped) : KeepsSound (.endingDeadlineExpiry n) :=
  .of_next (fun _ => rfl) fun s hs => by
    split
    · rename_i p _
      exact closeSession_sound ((hs.reach p).beside n) (hs n).baseline_lt _
    · exact hs

theorem refusalDisplayExpiry_sound (n : Ped) : KeepsSound (.refusalDisplayExpiry n) :=
  .of_next (fun _ => rfl) fun s hs => by
    split
    · split
      · exact ((hs.reach _).beside n).setSession ((hs n).withRefusal none)
      · exact hs
    · exact hs

theorem oneSecondTick_sound : KeepsSound .oneSecondTick :=
  .of_next (fun _ => rfl) fun s hs => by
    split
    · exact hs
    · intro n
      have : (tickSecond s).session n = (s.session n).tickOccupying := by
        simp [tickSecond, reachTick, State.reach, State.session, Vector.get] <;> rfl
      rw [this]
      exact (hs n).tickOccupying

theorem suspendLimit_sound (n : Ped) : KeepsSound (.suspendLimit n) :=
  .of_next (fun _ => rfl) fun s hs => by
    split
    · rename_i hc
      have hst : (s.session n).state = .suspended := by
        have := hc.2
        simp only [State.suspendLimitReached, Bool.and_eq_true, beq_iff_eq] at this
        exact this.1
      exact (hs.beside n).putSession ((hs n).limited hst)
    · exact hs

theorem idleMinute_sound (n : Ped) : KeepsSound (.idleMinute n) :=
  .of_next (fun _ => rfl) fun s hs => by
    split
    · unfold idleMinuteOf
      split
      · rename_i g hg
        split
        · rename_i hd
          have hst : (s.session n).state = .occupying := by
            simp only [Session.idleMinuteDue, Bool.and_eq_true, beq_iff_eq] at hd
            exact hd.1.1
          exact (hs.beside n).setSession ((hs n).idleMinute hst hg _)
        · exact hs
      · exact hs
    · exact hs

/-! ### Supply and starts -/

theorem supplyFail_sound : KeepsSound .supplyFail :=
  .of_next (fun _ => rfl) fun s hs => by
    split
    · exact hs.of_records rfl
    · have h := haltDevice_sound hs
      generalize haltDevice s = u at h ⊢
      exact h.of_records rfl

theorem retentionLoss_sound : KeepsSound .retentionLoss :=
  .of_next (fun _ => rfl) fun s hs => by
    split
    · exact hs.of_records rfl
    · exact hs

/-- An input asserted after the stop cause has been acted on. -/
theorem stopCause_withSupply_sound (h : s.AllSound) (f : Supply → Supply) :
    ((stopCause s).withSupply (f (stopCause s).supply)).AllSound := by
  have h := stopCause_sound h
  generalize stopCause s = u at h ⊢
  exact h.of_records rfl

/-- A start that may not be due. -/
theorem startIf_sound {p : Prop} [Decidable p] (h : s.AllSound) (ht : t.AllSound) : (if p then t else s).AllSound := by
  split
  · exact ht
  · exact h

/-- Every command keeps the records sound. -/
theorem exec_sound (i : Instr) : KeepsSound i := by
  cases i
  case frameDiscarded received => exact .of_next (fun _ => rfl) fun s hs => receive_sound hs received
  case badSyncRun received => exact .of_next (fun _ => rfl) fun s hs => receive_sound hs received
  case frameGapTimeout received => exact frameGapTimeout_sound received
  case linkSilenceExpiry => exact linkSilenceExpiry_sound
  case replySent => exact replySent_sound
  case notice => exact .of_next (fun _ => rfl) fun s hs => startNotice_sound hs
  case noticeSent => exact noticeSent_sound
  case softRestart => exact .of_next (fun _ => rfl) fun s hs => startIf_sound hs (softStart_sound s)
  case hardRestart => exact .of_next (fun _ => rfl) fun s hs => startIf_sound hs (freshStart_sound _ _ _ s)
  case cycleStart => exact cycleStart_sound
  case statusReply bytes => exact statusReply_sound bytes
  case exchangeMiss cause => exact exchangeMiss_sound cause
  case alertSlot nodes => exact alertSlot_sound nodes
  case quietTimerExpiry => exact quietTimerExpiry_sound
  case authDeadlineExpiry n => exact authDeadlineExpiry_sound n
  case plugDeadlineExpiry n => exact plugDeadlineExpiry_sound n
  case probeDeadlineExpiry n => exact probeDeadlineExpiry_sound n
  case endingDeadlineExpiry n => exact endingDeadlineExpiry_sound n
  case refusalDisplayExpiry n => exact refusalDisplayExpiry_sound n
  case oneSecondTick => exact oneSecondTick_sound
  case suspendLimit n => exact suspendLimit_sound n
  case idleMinute n => exact idleMinute_sound n
  case supplyWarning =>
    exact .of_next (fun _ => rfl) fun s hs => stopCause_withSupply_sound hs fun u => { u with warningInput := true }
  case reset =>
    exact .of_next (fun _ => rfl) fun s hs =>
      stopCause_withSupply_sound hs fun u => { u with resetInput := true, resetSeen := true }
  case supplyFail => exact supplyFail_sound
  case retentionLoss => exact retentionLoss_sound
  case powerOn => exact .of_next (fun _ => rfl) fun s hs => startIf_sound hs (markerStart_sound _ s)
  case haltedStart => exact .of_next (fun _ => rfl) fun s hs => startIf_sound hs (markerStart_sound _ s)
  all_goals exact requestRows_sound rfl

/-- Every step keeps the records sound. -/
theorem step_sound (h : s.AllSound) (e : step s = .next t) : t.AllSound := by
  unfold step at e
  split at e
  · obtain rfl := Host.Outcome.next.inj e
    unfold idle
    split
    · exact h
    · exact h.of_records rfl
  · rename_i c rest _
    have h' : State.AllSound { s with pending := rest } := h.of_records rfl
    exact exec_sound c _ t h' e

/-- Settles O53: what a record holds in each life-cycle state is kept by every command, operation by operation. -/
theorem stepsKeepRecordsShaped : Obligations.StepsKeepRecordsShaped := by
  intro s t hshape hmeter e
  have h : t.AllSound := step_sound (fun n => ⟨hshape n, hmeter n⟩) e
  exact ⟨fun n => (h n).1, fun n => (h n).2⟩

end Sys2Proof.Machine
end

section
/-! SUPPORT. The state after reset, and the four starts (R32, R128, R129, R187, R190 to R192). -/

namespace Sys2Proof.Machine

/-! ## The state after reset -/

theorem get_replicate {α : Type} {k : Nat} (x : α) (i : Fin k) : (Vector.replicate k x).get i = x := by
  simp [Vector.get]

@[simp] theorem reset_session (n : Ped) : State.reset.session n = {} := get_replicate _ _

@[simp] theorem reset_entry (n : Ped) : State.reset.entry n = {} := get_replicate _ _

@[simp] theorem reset_tariff (i : Fin 8) : State.reset.tariffs.get i = {} := get_replicate _ _

@[simp] theorem reset_window (i : Fin 12) : State.reset.windows.get i = {} := get_replicate _ _

theorem reset_allSound : State.reset.AllSound := .of_free rfl

/-- Reset is the COLD start that POWER_ON makes of a HALTED device without a valid marker. -/
theorem powerOn_reset {h : State} (hr : h.supply.runState = .halted) (hm : h.settlement.markerValid = false)
    (ht : h.timebase = 0) (hd : h.tickDue = 1000) (hp : h.pending = []) (hs : h.line.strap = .baud115200) :
    exec .powerOn h = .next State.reset := by
  show Host.Outcome.next (if h.supply.runState = .halted then markerStart .powerOn h else h) = _
  rw [if_pos hr]
  unfold markerStart freshStart latchStart
  simp only [hm, ht, hd, hp, hs]
  rfl

theorem reset_tariff_valid (i : Fin 8) : (State.reset.tariffs.get i).Valid := by
  rw [reset_tariff]
  decide

theorem reset_tableLaw : State.reset.TableLaw := by
  refine ⟨fun n => ?_, fun e h => by cases h⟩
  rw [reset_entry, reset_session]
  decide

/-- Settles O4: the records, tables and lines of reset stand at their default values, and the laws hold of those. -/
theorem resetObeysEveryLaw : Obligations.ResetObeysEveryLaw := by
  unfold Obligations.ResetObeysEveryLaw
  simp only []
  refine ⟨fun n => (reset_allSound n).1, fun n => (reset_allSound n).2, by decide, by decide, ?tokens, ?queue,
    reset_tariff_valid, ?grants, by decide, reset_tableLaw, ?shares, by decide, by decide, rfl, ?line, ?run,
    fun i => by rw [reset_window], fun i => by rw [reset_tariff], fun n => by rw [reset_entry, reset_session]; exact ⟨rfl, rfl⟩,
    rfl, rfl, rfl, rfl, rfl, rfl, rfl, rfl, rfl, fun h => powerOn_reset⟩
  case tokens => intro m n _ hm; rw [reset_session] at hm; cases hm
  case queue => intro r hr; cases hr
  case grants => intro n g hg; rw [reset_session] at hg; cases hg
  case shares => intro n hn; rw [reset_session] at hn; cases hn
  case line => exact ⟨fun h => absurd h Bool.false_ne_true, by decide⟩
  case run => exact ⟨fun h => absurd rfl h, by decide⟩

/-! ## Starts -/

/-- Settles O52: each start is `freshStart` or `softStart`, whose fields are the defaults of the blocks. -/
theorem startsBringEveryBlockToItsValues : Obligations.StartsBringEveryBlockToItsValues := by
  intro s
  simp only []
  have warm : ∀ cause, s.settlement.markerValid = true → markerStart cause s = freshStart .warm cause s.settlement.kept s :=
    fun cause hm => by rw [markerStart, if_pos hm]
  have cold : ∀ cause, s.settlement.markerValid = false → markerStart cause s = freshStart .cold cause {} s :=
    fun cause hm => by rw [markerStart, if_neg (by rw [hm]; exact Bool.false_ne_true)]
  have powerOn : s.supply.runState = .halted → exec .powerOn s = .next (markerStart .powerOn s) := fun h => by
    show Host.Outcome.next (if _ then _ else _) = _
    rw [if_pos h]
  have haltedStart : s.supply.runState = .halted → s.supply.mainSupply ≠ .absent →
      exec .haltedStart s = .next (markerStart (if s.supply.resetSeen then .resetInput else .supplyRelease) s) := fun h h' => by
    show Host.Outcome.next (if _ then _ else _) = _
    rw [if_pos ⟨h, h'⟩]
  have due : ∀ kind, s.supply.runState = .restarting ∧ s.line.sending = none ∧ s.line.replyWaiting = none →
      s.supply.pendingRestart = some kind → s.restartDue kind = true := by
    rintro kind ⟨h1, h2, h3⟩ h4
    simp [State.restartDue, h1, h2, h3, h4]
  refine ⟨fun h => ⟨fun hm => ?_, fun hm => ?_, fun hs => ⟨fun hm => ?_, fun hm => ?_⟩⟩, fun hg hp => ?_, fun hg hp => ?_⟩
  · rw [powerOn h, warm _ hm]; rfl
  · rw [powerOn h, cold _ hm]; rfl
  · rw [haltedStart h hs, warm _ hm]; rfl
  · rw [haltedStart h hs, cold _ hm]; rfl
  · show Host.Outcome.next (if _ then _ else _) = _
    rw [if_pos (due _ hg hp)]; rfl
  · show Host.Outcome.next (if _ then _ else _) = _
    rw [if_pos (due _ hg hp)]
    unfold softStart latchStart
    cases s.clock <;> rfl

end Sys2Proof.Machine
end

section
/-! SUPPORT. The requests that read counters, queries and sessions, and SESSION-STOP (R30, R31, R52, R156). -/

namespace Sys2Proof.Machine

variable {s : State} {n : Ped}

/-! ## A request that is taken -/

/-- Serving the link touches the host line and the conditions alone. -/
theorem State.served_eq (s : State) : ∃ l c, s.served = { s with line := l, conds := c } := by
  unfold State.served
  rcases linkFrame_cases (s.withLine { s.line with parser := .hunt false }) with ⟨_, h⟩ | ⟨_, h⟩ <;> rw [h] <;>
    exact ⟨_, _, rfl⟩

@[simp] theorem State.served_session (s : State) (m : Ped) : s.served.session m = s.session m := by
  obtain ⟨l, c, h⟩ := s.served_eq; rw [h]; rfl
@[simp] theorem State.served_entry (s : State) (m : Ped) : s.served.entry m = s.entry m := by
  obtain ⟨l, c, h⟩ := s.served_eq; rw [h]; rfl
@[simp] theorem State.served_records (s : State) : s.served.records = s.records := by
  obtain ⟨l, c, h⟩ := s.served_eq; rw [h]
@[simp] theorem State.served_pedestals (s : State) : s.served.pedestals = s.pedestals := by
  obtain ⟨l, c, h⟩ := s.served_eq; rw [h]
@[simp] theorem State.served_timebase (s : State) : s.served.timebase = s.timebase := by
  obtain ⟨l, c, h⟩ := s.served_eq; rw [h]
@[simp] theorem State.served_settings (s : State) : s.served.settings = s.settings := by
  obtain ⟨l, c, h⟩ := s.served_eq; rw [h]

/-- Serving the link leaves the interface as busy as it was. -/
@[simp] theorem State.served_busy (s : State) : s.served.line.busy = s.line.busy := by
  unfold State.served
  rcases linkFrame_cases (s.withLine { s.line with parser := .hunt false }) with ⟨_, h⟩ | ⟨_, h⟩ <;> rw [h] <;> rfl

/-- A request of the right length on a ready device is answered by its owner (R177). -/
theorem takeFrame_ready {kind tag : Byte} {body : List Byte} {q : Request} (h : s.Ready tag) (hk : kind.toNat < 0x80)
    (hl : body.length ∈ q.lengths) :
    takeFrame kind tag body (some q) s =
      State.answering (kind + 0x80#8) tag (q.act body s.served).1.code (q.act body s.served).1.data
        (q.act body s.served).2 := by
  obtain ⟨hrun, hbusy, htag⟩ := h
  have taken := answerFrame_taken (kind := kind) (s := s.served) (by rw [State.served_busy]; exact hbusy) htag hl
  unfold takeFrame
  rw [if_pos hrun]
  refine taken.trans ?_
  unfold replyOf replyKind State.answering
  rw [if_pos hk]

/-! ## COUNTERS-READ and QUERY-LIST -/

theorem countersRead_answer (tag : Byte) (h : s.Ready tag) :
    exec (.countersRead tag []) s = .next (State.answering 0x92#8 tag .done
      (Ped.all.flatMap fun n => bytesOf 1 (s.entry n).frameErrors)
      { s.served with pedestals := s.pedestals.map fun e => { e with frameErrors := 0, missMark := false } }) := by
  have act : countersRead.act [] s.served =
      (⟨.done, Ped.all.flatMap fun n => bytesOf 1 (s.entry n).frameErrors⟩,
        { s.served with pedestals := s.pedestals.map fun e => { e with frameErrors := 0, missMark := false } }) := by
    show (_, forPedestals _ _) = _
    rw [forPedestals_setEntry (fun e => { e with frameErrors := 0, missMark := false })]
    simp
  show Host.Outcome.next (takeFrame _ _ _ (some countersRead) _) = _
  rw [takeFrame_ready h (by decide) (by simp [countersRead]), act]
  rfl

/-- The bytes of a query entry, field by field (section 12.2). -/
theorem QueryEntry.bytes_queryOf (n : Ped) (o : Opening) :
    (queryOf n o).bytes = bytesOf 2 o.number ++ bytesOf 1 n.number ++ bytesOf 8 o.token.toNat
      ++ bytesOf 1 (if o.source = .vehicle then 1 else 0) ++ bytesOf 1 (o.window.elim 0xFF (·.val)) := by
  obtain ⟨number, token, source, window, account, opened⟩ := o
  cases source <;> cases window <;> rfl

theorem queryList_answer (tag : Byte) (h : s.Ready tag) (queries : List (Ped × Opening))
    (hq : queries = Ped.all.filterMap fun n =>
      if (s.session n).state = .authorizing ∧ (s.session n).authDeadline ≠ none then
        (s.session n).opening.map fun o => (n, o) else none) :
    exec (.queryList tag []) s = .next (State.answering 0x97#8 tag .done
      (bytesOf 1 queries.length ++ queries.flatMap fun q =>
        bytesOf 2 q.2.number ++ bytesOf 1 q.1.number ++ bytesOf 8 q.2.token.toNat
          ++ bytesOf 1 (if q.2.source = .vehicle then 1 else 0) ++ bytesOf 1 (q.2.window.elim 0xFF (·.val))) s.served) := by
  have listed : s.served.queries = queries.map fun q => queryOf q.1 q.2 := by
    rw [hq, List.map_filterMap]
    unfold State.queries
    refine List.filterMap_congr fun n _ => ?_
    simp only [State.served_session, Option.isSome_iff_ne_none]
    split
    · rw [Option.map_map]; rfl
    · rfl
  show Host.Outcome.next (takeFrame _ _ _ (some queryList) _) = _
  rw [takeFrame_ready h (by decide) (by simp [queryList])]
  simp only [queryList, listed, List.length_map, List.flatMap_map, QueryEntry.bytes_queryOf]
  rfl

/-! ## SESSION-READ -/

theorem openingBytes_eq (o : Option Opening) :
    openingBytes o = bytesOf 2 (o.elim 0 (·.number)) ++ bytesOf 8 (o.elim 0 (·.token.toNat))
      ++ bytesOf 1 (o.elim 0 fun o => if o.source = .vehicle then 1 else 0)
      ++ bytesOf 1 ((o.bind (·.window)).elim 0xFF (·.val)) ++ bytesOf 8 (o.elim 0 (·.account.toNat)) := by
  rcases o with _ | ⟨number, token, source, window, account, opened⟩
  · rfl
  · cases source <;> cases window <;> rfl

theorem grantBytes_eq (g : Option Grant) :
    grantBytes g = bytesOf 1 (g.elim 0xFF (·.kind.code)) ++ bytesOf 1 (g.elim 0 (·.tariff.val))
      ++ bytesOf 4 (g.elim 0 (·.hold)) ++ bytesOf 1 (g.elim 0 (·.route.val)) ++ bytesOf 1 (g.elim 0 (·.baseRank.val))
      ++ bytesOf 2 ((g.bind (·.authCap)).elim 0 id) := by
  rcases g with _ | ⟨kind, tariff, hold, route, rank, cap⟩
  · rfl
  · cases cap <;> rfl

theorem SessionFlags.bits_eq (f : SessionFlags) :
    f.bits = (if f.clockUnset then 1 else 0) + (if f.idleCapped then 2 else 0) + (if f.meterJump then 4 else 0)
      + (if f.meterGap then 8 else 0) := by
  obtain ⟨a, b, c, d⟩ := f
  cases a <;> cases b <;> cases c <;> cases d <;> rfl

theorem stampBytes_eq (x : Option Stamp) :
    stampBytes x = x.elim (bytesOf 2 0xFFFF ++ bytesOf 3 0xFFFFFF) fun p => bytesOf 2 p.day ++ bytesOf 3 p.second := by
  cases x <;> rfl

theorem secondsLeft_eq (now : Point) (x : Option Point) :
    secondsLeft now x = x.elim 0xFFFF fun p => (p - now + 999) / 1000 := by
  cases x <;> rfl

theorem secondsSince_eq (now : Point) (x : Option Point) :
    secondsSince now x = x.elim 0xFFFF fun p => (now - p) / 1000 := by
  cases x <;> rfl

theorem refusalBytes_eq (now : Point) (x : Option RefusalDisplay) :
    refusalBytes now x = [x.elim 0 (·.reason)] ++ bytesOf 1 (x.elim 0 fun d => (d.until_ - now + 999) / 1000) := by
  cases x <;> rfl

theorem endReasonByte_eq (x : Option EndReason) : (x.map EndReason.code).getD noReason = x.elim 0 (·.code) := by
  cases x <;> rfl

theorem getD_eq_elim (x : Option Nat) : x.getD 0 = x.elim 0 id := by cases x <;> rfl

theorem yesNoByte_eq (b : Bool) : yesNoByte b = bytesOf 1 (if b then 1 else 0) := by cases b <;> rfl

/-- The bytes of a SESSION-READ reply are 121. -/
theorem length_sessionBytes (n : Ped) (now : Point) (r : Session) : (sessionBytes n now r).length = 121 := by
  unfold sessionBytes Meter.bytes Alloc.bytes
  rw [openingBytes_eq, grantBytes_eq, refusalBytes_eq, yesNoByte_eq]
  simp [List.length_flatMap]

theorem sessionRead_answer (tag : Byte) (h : s.Ready tag) {body : List Byte} (hl : body.length = 1)
    (hn : fieldAt body 0 1 = n.number) :
    exec (.sessionRead tag body) s =
      .next (State.answering 0x93#8 tag .done (sessionBytes n s.timebase (s.session n)) s.served) := by
  show Host.Outcome.next (takeFrame _ _ _ (some sessionRead) _) = _
  rw [takeFrame_ready h (by decide) (by simp [sessionRead, hl])]
  simp only [sessionRead, pedestalOf_some hn, State.served_session, State.served_timebase]
  rfl

theorem sessionRead_outOfRange (tag : Byte) (h : s.Ready tag) {body : List Byte} (hl : body.length = 1)
    (hn : fieldAt body 0 1 = 0 ∨ 16 < fieldAt body 0 1) :
    exec (.sessionRead tag body) s = .next (State.answering 0x93#8 tag .outOfRange [] s.served) := by
  show Host.Outcome.next (takeFrame _ _ _ (some sessionRead) _) = _
  rw [takeFrame_ready h (by decide) (by simp [sessionRead, hl])]
  simp only [sessionRead, pedestalOf_none hn]
  rfl

/-- Settles O21: each reply's data is the model's, spelt out field by field. -/
theorem countersQueriesAndSessionsAreRead : Obligations.CountersQueriesAndSessionsAreRead := by
  intro tag s h
  refine ⟨countersRead_answer tag h, queryList_answer tag h, fun body hl => ⟨sessionRead_outOfRange tag h hl, fun n hn => ?_⟩⟩
  have bytes := length_sessionBytes n s.timebase (s.session n)
  have answer := sessionRead_answer tag h hl hn
  unfold sessionBytes Meter.bytes Alloc.bytes at bytes answer
  rw [openingBytes_eq, grantBytes_eq, refusalBytes_eq, yesNoByte_eq, SessionFlags.bits_eq, endReasonByte_eq,
    getD_eq_elim, stampBytes_eq, stampBytes_eq, secondsSince_eq] at bytes answer
  simp only [secondsLeft_eq, ← List.append_assoc] at bytes answer
  exact ⟨bytes, answer⟩

/-! ## SESSION-STOP -/

/-- What the owner of SESSION-STOP answers for a pedestal's record (R30). -/
theorem sessionStop_exec (tag : Byte) (h : s.Ready tag) {body : List Byte} (hl : body.length = 1 ∨ body.length = 3) :
    exec (.sessionStop tag body) s = .next (State.answering 0x94#8 tag (sessionStop.act body s.served).1.code
      (sessionStop.act body s.served).1.data (sessionStop.act body s.served).2) := by
  show Host.Outcome.next (takeFrame _ _ _ (some sessionStop) _) = _
  rw [takeFrame_ready h (by decide) (by rcases hl with hl | hl <;> simp [sessionStop, hl])]
  rfl

/-- The session number that a SESSION-STOP carries. -/
def stopNumber (body : List Byte) : Option Nat := if body.length = 3 then some (fieldAt body 1 2) else none

theorem sessionStop_act (body : List Byte) (s : State) :
    sessionStop.act body s = match pedestalOf (fieldAt body 0 1) with
      | none => outOfRange s
      | some n =>
        if stopNumber body = some 0 then outOfRange s
        else match numberCheck (stopNumber body) (s.session n) with
          | some code => (⟨code, []⟩, s)
          | none => done (hostStop n s) := rfl

/-- A stop cause takes a record in an energy-flow state other than ENDING into ENDING (R23). -/
theorem stopSession_flow (n : Ped) (why : EndReason) (s : State)
    (hs : (s.session n).state = .dispensing ∨ (s.session n).state = .suspended ∨ (s.session n).state = .occupying) :
    stopSession n why s = { s with
      records := s.records.set n ((s.session n).ended why (s.timebase + 1000 * s.settings.endingTimeout)) } := by
  have stop : stopSession n why s = enterEnding n why s := by
    unfold stopSession
    rcases hs with hs | hs | hs <;> rw [hs]
  rw [stop, enterEnding_eq_put, putSession_plain _ _ _ (by rcases hs with hs | hs | hs <;> simp [hs]) (by simp [Session.ended])]
  rfl

theorem numberCheck_some (k : Nat) (r : Session) :
    numberCheck (some k) r = if r.state.isOpen = true ∧ r.opening.map (·.number) = some k then none else some .notFound := by
  unfold numberCheck Session.number
  cases r.state.isOpen <;> simp

theorem numberCheck_none (r : Session) : numberCheck none r = if r.state.isOpen then none else some .wrongState := rfl

/-- Settles O22: the rows of R30 in their order, and then what a stop does in each open state. -/
theorem sessionStopEndsTheSession : Obligations.SessionStopEndsTheSession := by
  intro tag body s h hl
  simp only [sessionStop_exec tag h hl, sessionStop_act]
  refine ⟨fun hout => ?_, fun n hn => ?_⟩
  · by_cases hp : fieldAt body 0 1 = 0 ∨ 16 < fieldAt body 0 1
    · rw [pedestalOf_none hp]; rfl
    · have hzero : stopNumber body = some 0 := by
        unfold stopNumber
        rcases hout with h0 | h0 | ⟨h3, h0⟩
        · exact absurd (.inl h0) hp
        · exact absurd (.inr h0) hp
        · rw [if_pos h3, h0]
      cases pedestalOf (fieldAt body 0 1) with
      | none => rfl
      | some n => simp only [if_pos hzero]; rfl
  · rw [pedestalOf_some hn]
    simp only []
    refine ⟨fun h3 h0 hno => ?_, fun h3 hclosed => ?_, fun hacc => ?_⟩
    · have hnum : stopNumber body = some (fieldAt body 1 2) := if_pos h3
      rw [hnum, if_neg (by simpa using h0), numberCheck_some, if_neg (by simpa using hno)]
    · have hnum : stopNumber body = none := if_neg h3
      rw [hnum, if_neg (by simp), numberCheck_none, if_neg (by simp [hclosed])]
    · have pass : (s.session n).state.isOpen = true →
          (if stopNumber body = some 0 then outOfRange s.served
          else match numberCheck (stopNumber body) (s.served.session n) with
            | some code => (⟨code, []⟩, s.served)
            | none => done (hostStop n s.served)) = done (hostStop n s.served) := by
        intro hopen
        by_cases h3 : body.length = 3
        · obtain ⟨h0, hh⟩ := hacc.resolve_left (not_not.2 h3)
          rw [show stopNumber body = some (fieldAt body 1 2) from if_pos h3, if_neg (by simpa using h0), numberCheck_some,
            if_pos (by simpa using hh)]
        · rw [show stopNumber body = none from if_neg h3, if_neg (by simp), numberCheck_none, if_pos (by simpa using hopen)]
      have stopped : (s.session n).state ≠ .authorizing → hostStop n s.served = stopSession n .hostStop s.served :=
        fun hs => if_neg (by simpa using hs)
      refine ⟨fun hs => ?_, fun hs => ?_, fun hs => ?_, fun hs => ?_⟩
      · rw [pass (by simp [hs, SessionState.isOpen]), show hostStop n s.served = _ from if_pos (by simpa using hs)]
        rfl
      · have hclose : stopSession n .hostStop s.served = closeSession n .hostStop s.served := by
          unfold stopSession
          rcases hs with hs | hs <;> rw [State.served_session, hs]
        rw [pass (by rcases hs with hs | hs <;> simp [hs, SessionState.isOpen]),
          stopped (by rcases hs with hs | hs <;> simp [hs]), hclose]
        rfl
      · rw [pass (by rcases hs with hs | hs | hs <;> simp [hs, SessionState.isOpen]),
          stopped (by rcases hs with hs | hs | hs <;> simp [hs]), stopSession_flow n _ _ (by simpa using hs)]
        simp [done]
      · have hstay : stopSession n .hostStop s.served = s.served := by
          unfold stopSession
          rw [State.served_session, hs]
        rw [pass (by simp [hs, SessionState.isOpen]), stopped (by simp [hs]), hstay]
        rfl

end Sys2Proof.Machine
end

section
/-! SUPPORT. Grants, cancels and closes (R12, R13, R26, R45), the timers of chapter 1, and command frames. -/

namespace Sys2Proof.Machine

variable {s : State} {n : Ped}

/-! ## Grants -/

/-- A record that enters PROBING from a state other than FREE: nothing but the record changes (R16, R163). -/
theorem enterProbing_eq (n : Ped) (s : State) (h : (s.session n).state ≠ .free) :
    enterProbing n s = { s with records := s.records.set n ((s.session n).probed (s.timebase + 5000)) } := by
  unfold enterProbing
  simp only []
  rw [putSession_plain n _ s h (by simp [Session.enter]), startAttempt_eq]
  simp [State.setSession, State.session, get_set_self, Session.probed, Session.enter, SessionState.keepsRefusal]

theorem takeGrant_plugged (n : Ped) (g : Grant) (s : State) (h : (s.session n).state ≠ .free)
    (hp : (s.session n).hasPlug = .yes) :
    takeGrant n g s = { s with records := s.records.set n (Session.probed
      { s.session n with grant := some g, captured := none, authDeadline := none } (s.timebase + 5000)) } := by
  unfold takeGrant
  simp only [hp, if_true]
  rw [enterProbing_eq n _ (by simpa using h)]
  simp [State.setSession, State.session, get_set_self, hp]

theorem takeGrant_unplugged (n : Ped) (g : Grant) (s : State) (h : (s.session n).state ≠ .free)
    (hp : (s.session n).hasPlug ≠ .yes) :
    takeGrant n g s = { s with records := s.records.set n { s.session n with
      state := .authorized, grant := some g, captured := none, authDeadline := none, alloc := {}, suspendStart := none,
      plugDeadline := some (s.timebase + 1000 * s.settings.plugWait) } } := by
  unfold takeGrant
  simp only [hp, if_false]
  rw [putSession_plain n _ _ (by simpa using h) (by simp [Session.enter])]
  simp [State.setSession, Session.enter, SessionState.keepsRefusal, State.after]

/-- The grant that passes the checks of R45, its cap raised to the floor. -/
def State.checkedGrant (n : Ped) (o : GrantOffer) (s : State) : Grant :=
  ⟨o.kind, o.tariff, min o.hold s.settings.maxHold, o.route, o.baseRank, o.cap.map fun c => max c (s.entry n).floor⟩

theorem offerGrant_noTariff (n : Ped) (o : GrantOffer) (s : State) (h : (s.tariffs.get o.tariff).defined = false) :
    offerGrant n o s = cancelSession n 0x26#8 s := by
  simp only [offerGrant, checkGrant, h, Bool.not_false, if_true]
  rfl

theorem offerGrant_holdTooSmall (n : Ped) (o : GrantOffer) (s : State) (h : (s.tariffs.get o.tariff).defined = true)
    (hf : min o.hold s.settings.maxHold < (s.tariffs.get o.tariff).startFee) :
    offerGrant n o s = cancelSession n 0x27#8 s := by
  simp only [offerGrant, checkGrant, h, hf, Bool.not_true, Bool.false_eq_true, if_false, if_true]
  rfl

theorem offerGrant_taken (n : Ped) (o : GrantOffer) (s : State) (h : (s.tariffs.get o.tariff).defined = true)
    (hf : (s.tariffs.get o.tariff).startFee ≤ min o.hold s.settings.maxHold) :
    offerGrant n o s = takeGrant n (s.checkedGrant n o) s := by
  simp only [offerGrant, checkGrant, h, Nat.not_lt.2 hf, Bool.not_true, Bool.false_eq_true, if_false]
  rfl

/-- Settles O26: the checks of R45 one by one, and then the grant with and without the plug. -/
theorem grantsAreCheckedAndTaken : Obligations.GrantsAreCheckedAndTaken := by
  intro n o s hs
  have clamp : (if s.settings.maxHold < o.hold then s.settings.maxHold else o.hold) = min o.hold s.settings.maxHold := by
    rw [min_def]
    split <;> split <;> omega
  have hfree : (s.session n).state ≠ .free := by simp [hs]
  simp only [clamp]
  refine ⟨offerGrant_noTariff n o s, offerGrant_holdTooSmall n o s, fun h hf hp => ?_, fun h hf hp => ?_⟩
  · rw [offerGrant_taken n o s h hf, takeGrant_plugged n _ s hfree hp]
    rfl
  · rw [offerGrant_taken n o s h hf, takeGrant_unplugged n _ s hfree hp]
    rfl

/-! ## Cancel and close -/

/-- A record that enters FREE: the quiet timer is started if the others are FREE (R151). -/
theorem putSession_free (n : Ped) (r : Session) (s : State) (h : (s.session n).state ≠ .free) (hr : r.state = .free) :
    putSession n r s = { s with records := s.records.set n r, bus := s.freedBus n } := by
  rw [putSession_toFree n r s h hr]
  unfold State.freedBus
  split <;> rfl

/-- A cancel is the release of the slot, the record's new contents, the latch and the display (R13). -/
theorem cancelSession_eq (n : Ped) (reason : Byte) (s : State) :
    cancelSession n reason s =
      let t := putSession n (s.session n).toCancelled (releaseSlot s)
      { t with
        conds := t.conds.withPed n 2 (.reason reason)
        records := t.records.set n
          { (s.session n).toCancelled with refusal := some ⟨reason, t.timebase + 5000⟩ } } := by
  unfold cancelSession
  simp only [releaseSlot_session, refuseToken_eq, putSession_session_self]
  rfl

theorem cancelSession_plugged (n : Ped) (reason : Byte) (s : State) (h : (s.session n).state ≠ .free)
    (hp : (s.session n).hasPlug = .yes) :
    cancelSession n reason s = { s with
      settlement := { s.settlement with reserved := s.settlement.reserved - 1 }
      conds := s.conds.withPed n 2 (.reason reason)
      records := s.records.set n
        { state := .plugged, hasPlug := .yes, baseline := (s.session n).baseline,
          refusal := some ⟨reason, s.timebase + 5000⟩ } } := by
  have hc : (s.session n).toCancelled = { state := .plugged, hasPlug := .yes, baseline := (s.session n).baseline } := by
    simp [Session.toCancelled, hp]
  rw [cancelSession_eq, hc, putSession_plain n _ _ (by simpa using h) (by simp)]
  simp only [releaseSlot_records, vector_set_set]
  rfl

theorem cancelSession_unplugged (n : Ped) (reason : Byte) (s : State) (h : (s.session n).state ≠ .free)
    (hp : (s.session n).hasPlug ≠ .yes) :
    cancelSession n reason s = { s with
      settlement := { s.settlement with reserved := s.settlement.reserved - 1 }
      conds := s.conds.withPed n 2 (.reason reason)
      records := s.records.set n
        { baseline := (s.session n).baseline, refusal := some ⟨reason, s.timebase + 5000⟩ }
      bus := s.freedBus n } := by
  have hc : (s.session n).toCancelled = { baseline := (s.session n).baseline } := by
    simp [Session.toCancelled, hp]
  rw [cancelSession_eq, hc, putSession_free n _ _ (by simpa using h) rfl]
  simp only [releaseSlot_records, vector_set_set]
  rfl

/-- What a close adds to the queue and latches, before the record's new contents (R26, R118, R126). -/
def State.joined (n : Ped) (q : SettlementRecord) (s : State) : State :=
  { s with
    settlement := { s.settlement with
      queue := s.settlement.queue ++ [q]
      reserved := s.settlement.reserved - 1 }
    conds := (if s.settings.highMark ≤ (s.settlement.queue ++ [q]).length then s.conds.withPark 1 .none
      else s.conds).withPed n 5 .none }

theorem latch_joinQueue (n : Ped) (q : SettlementRecord) (s : State) :
    latchPed n .sessionClosed .none (joinQueue q s) = s.joined n q := by
  unfold joinQueue State.joined
  by_cases h : s.settings.highMark ≤ (s.settlement.queue ++ [q]).length
  · simp only [State.withSettlement_settings, ge_iff_le, h, if_true]; rfl
  · simp only [State.withSettlement_settings, ge_iff_le, h, if_false]; rfl

/-- A close of a session with opening and grant: the record joins the queue, and the session's record its new contents. -/
theorem closeSession_joined {o : Opening} {g : Grant} (why : EndReason) (s : State) (ho : (s.session n).opening = some o)
    (hg : (s.session n).grant = some g) :
    closeSession n why s =
      putSession n (Session.toClosed { s.session n with endReason := some ((s.session n).endReason.getD why) })
        (s.joined n (buildRecord n (s.session n) o g ((s.session n).endReason.getD why) s)) := by
  have hq : closingRecord n why s = some (buildRecord n (s.session n) o g ((s.session n).endReason.getD why) s) := by
    unfold closingRecord
    rw [ho, hg]
    rfl
  rw [closeSession_eq, hq, ← latch_joinQueue]

@[simp] theorem State.joined_session (q : SettlementRecord) (m : Ped) : (s.joined n q).session m = s.session m := rfl

theorem closeSession_released {o : Opening} {g : Grant} (why : EndReason) (s : State) (h : (s.session n).state ≠ .free)
    (ho : (s.session n).opening = some o) (hg : (s.session n).grant = some g) (hp : (s.session n).hasPlug ≠ .no) :
    closeSession n why s =
      { s.joined n (buildRecord n (s.session n) o g ((s.session n).endReason.getD why) s) with
        records := s.records.set n
          { state := .released, hasPlug := (s.session n).hasPlug,
            endReason := some ((s.session n).endReason.getD why), baseline := (s.session n).baseline } } := by
  rw [closeSession_joined why s ho hg]
  simp only [Session.toClosed, hp, if_false]
  rw [putSession_plain n _ _ (by exact h) (by simp [Session.toReleased])]
  rfl

theorem closeSession_freed {o : Opening} {g : Grant} (why : EndReason) (s : State) (h : (s.session n).state ≠ .free)
    (ho : (s.session n).opening = some o) (hg : (s.session n).grant = some g) (hp : (s.session n).hasPlug = .no) :
    closeSession n why s =
      { s.joined n (buildRecord n (s.session n) o g ((s.session n).endReason.getD why) s) with
        records := s.records.set n { baseline := (s.session n).baseline }
        bus := s.freedBus n } := by
  rw [closeSession_joined why s ho hg]
  simp only [Session.toClosed, hp, if_true]
  rw [putSession_free n _ _ (by exact h) rfl]
  rfl

/-- Settles O27: a cancel and a close by has-plug and by whether the other records are FREE. -/
theorem cancelAndCloseFreeTheRecord : Obligations.CancelAndCloseFreeTheRecord := by
  intro n s hs
  have waits : (¬ ∀ m, m ≠ n → (s.session m).state = .free) → s.freedBus n = s.bus := fun h => if_neg h
  have last : (∀ m, m ≠ n → (s.session m).state = .free) → s.freedBus n = s.quietBus := fun h => if_pos h
  refine ⟨fun reason => ⟨cancelSession_plugged n reason s hs, fun hp ho => ?_, fun hp ho => ?_⟩,
    fun why o g ho hg => ⟨closeSession_released why s hs ho hg, fun hp hm => ?_, fun hp hm => ?_⟩⟩
  · rw [cancelSession_unplugged n reason s hs hp, waits ho]
  · rw [cancelSession_unplugged n reason s hs hp, last ho]
  · rw [closeSession_freed why s hs ho hg hp, waits hm]
    rfl
  · rw [closeSession_freed why s hs ho hg hp, last hm]
    rfl

/-! ## Timers -/

/-- A timer's expiry in a device that acts on events. -/
theorem State.active_of_running (h : s.supply.runState ≠ .halted) : s.active = true := by simp [State.active, h]

theorem State.inactive_of_halted (h : s.supply.runState = .halted) : s.active = false := by simp [State.active, h]

/-- Settles O32: each expiry acts while its timer runs and the device is not HALTED. -/
theorem lineBusAndDisplayTimersExpire : Obligations.LineBusAndDisplayTimersExpire := by
  intro s n
  refine ⟨fun p h hp => ?_, fun p h hp => ?_, fun d h hd => ?_, fun h => ?_, fun h => ?_, fun h => ?_⟩
  case refine_1 => simp only [exec, execLinkSilenceExpiry, hp, State.active_of_running h, if_true]; rfl
  case refine_2 => simp only [exec, execQuietTimerExpiry, hp, State.active_of_running h, if_true]; rfl
  case refine_3 => simp only [exec, execRefusalDisplayExpiry, hd, State.active_of_running h, if_true]; rfl
  all_goals rcases h with h | h
  · simp only [exec, execLinkSilenceExpiry, State.inactive_of_halted h, Bool.false_eq_true, if_false]
    cases s.line.silenceTimer <;> rfl
  · simp only [exec, execLinkSilenceExpiry, h]
  · simp only [exec, execQuietTimerExpiry, State.inactive_of_halted h, Bool.false_eq_true, if_false]
    cases s.bus.quietTimer <;> rfl
  · simp only [exec, execQuietTimerExpiry, h]
  · simp only [exec, execRefusalDisplayExpiry, State.inactive_of_halted h, Bool.false_eq_true, if_false]
    cases (s.session n).refusal <;> rfl
  · simp only [exec, execRefusalDisplayExpiry, h]

/-- A failed attempt with one left: the next one is started (R163, R166). -/
theorem attemptFailed_again (n : Ped) (s : State) (h : (s.session n).probeAttempts < 1 + s.settings.probeRetries) :
    attemptFailed n s = { s with records := s.records.set n { s.session n with
      probeAttempts := (s.session n).probeAttempts + 1, probeSend := true, probeDeadline := some (s.timebase + 5000) } } := by
  unfold attemptFailed
  simp only [State.session_setSession_self, State.attemptsAllowed, State.setSession_settings, h, if_true, startAttempt_eq]
  simp [State.setSession, State.session, get_set_self]

/-- The last attempt failed: the session closes with CABLE-OPEN (R17, R166). -/
theorem attemptFailed_last (n : Ped) (s : State) (h : 1 + s.settings.probeRetries ≤ (s.session n).probeAttempts) :
    attemptFailed n s =
      closeSession n .cableOpen { s with records := s.records.set n { s.session n with probeDeadline := none } } := by
  unfold attemptFailed
  simp only [State.session_setSession_self, State.attemptsAllowed, State.setSession_settings, Nat.not_lt.2 h, if_false]
  rfl

/-- Settles O33: each deadline acts in its own state, at its point. -/
theorem sessionDeadlinesDecideCloseOrProbeAgain : Obligations.SessionDeadlinesDecideCloseOrProbeAgain := by
  refine ⟨fun s n p c hrun hs hp hc => ?_, fun s n p hrun => ?_⟩
  · have expired : exec (.authDeadlineExpiry n) s = .next (authExpired n (s.reach p)) := by
      simp only [exec, execAuthDeadlineExpiry, State.authDeadlineOf, State.active_of_running hrun, hs, hp, and_self, if_true]
    simp only []
    rw [expired]
    unfold authExpired
    simp only [State.reach_session, hc]
    refine ⟨fun hm => ?_, fun hold hm hh => ?_⟩
    · rw [if_neg hm]; rfl
    · rw [if_pos hm]
      unfold CapturedTerms.ownOffer
      rw [hh]
      rfl
  · have plug : (s.session n).state = .authorized → (s.session n).plugDeadline = some p →
        exec (.plugDeadlineExpiry n) s = .next (closeSession n .noVehicle (s.reach p)) := fun hs hp => by
      simp only [exec, execPlugDeadlineExpiry, State.plugDeadlineOf, State.active_of_running hrun, hs, hp, and_self, if_true]
    have ending : (s.session n).state = .ending → (s.session n).endingDeadline = some p →
        exec (.endingDeadlineExpiry n) s = .next (closeSession n .userStop (s.reach p)) := fun hs hp => by
      simp only [exec, execEndingDeadlineExpiry, State.endingDeadlineOf, State.active_of_running hrun, hs, hp, and_self, if_true]
    have probe : (s.session n).state = .probing → (s.session n).probeDeadline = some p →
        exec (.probeDeadlineExpiry n) s = .next (attemptFailed n (s.reach p)) := fun hs hp => by
      simp only [exec, execProbeDeadlineExpiry, State.probeDeadlineOf, State.active_of_running hrun, hs, hp, and_self, if_true]
    refine ⟨plug, fun why hs hp hw => ?_, fun hs hp => ⟨fun ha => ?_, fun ha => ?_⟩⟩
    · rw [ending hs hp, closeSession_reason n why .userStop (s.reach p) hw]
      rfl
    · rw [probe hs hp, attemptFailed_again n (s.reach p) ha]
      rfl
    · rw [probe hs hp, attemptFailed_last n (s.reach p) ha]
      rfl

/-- The record moved to OCCUPYING (R20, R21). -/
theorem enterOccupying_eq (n : Ped) (s : State) (h : (s.session n).state ≠ .free) :
    enterOccupying n s = { s with records := s.records.set n ((s.session n).enter .occupying) } :=
  putSession_plain n _ s h (by simp [Session.enter])

/-- A minute is due when the occupying seconds pass the grace and the minutes charged (R67). -/
theorem lt_chargeableMinutes_iff (minutes seconds grace : Nat) :
    minutes < chargeableMinutes seconds grace ↔ 60 * (grace + minutes) < seconds := by
  unfold chargeableMinutes
  omega

/-- Settles O35: the suspend limit and the due idle minute, with the sums of R68. -/
theorem suspendLimitAndIdleMinuteAct : Obligations.SuspendLimitAndIdleMinuteAct := by
  intro s n hrun
  refine ⟨fun p hs hp hd => ?_, fun g hs hg hfee hcap hdue => ?_⟩
  · have reached : s.suspendLimitReached n = true := by
      simp only [State.suspendLimitReached, hs, hp, Option.any_some, beq_self_eq_true, Bool.true_and, decide_eq_true_eq]
      exact hd
    show Host.Outcome.next (if _ then _ else _) = _
    rw [if_pos ⟨State.active_of_running hrun, reached⟩, enterOccupying_eq n s (by simp [hs])]
    rfl
  · have due : (s.session n).idleMinuteDue (s.tariffOf g) = true := by
      simp [Session.idleMinuteDue, hs, hcap, lt_chargeableMinutes_iff, State.tariffOf, hdue]
    have spent : idleTestSum (s.tariffOf g) (s.session n).meter = (s.tariffs.get g.tariff).startFee
        + (s.session n).meter.costWhole + (if 500000 ≤ (s.session n).meter.costRemainder then 1 else 0)
        + (s.session n).meter.idleFee + (s.tariffs.get g.tariff).idleFeePerMinute := by
      simp only [idleTestSum, chargedStartFee, hfee, if_true, roundedCost, State.tariffOf, ge_iff_le]
      omega
    have charged : exec (.idleMinute n) s =
        .next (s.setSession n ((s.session n).chargeIdleMinute (s.tariffOf g) g.hold)) := by
      simp only [exec, execIdleMinute, State.active_of_running hrun, if_true, idleMinuteOf, hg, due]
    rw [charged]
    unfold Session.chargeIdleMinute
    rw [spent]
    refine ⟨fun h => ?_, fun h => ?_⟩
    · rw [if_pos h]; rfl
    · rw [if_neg (Nat.not_le.2 h)]; rfl

/-! ## Command frames -/

theorem commandOf_probe_iff (r : Session) : commandOf r = .probe ↔ r.state = .probing ∧ r.probeSend = true := by
  unfold commandOf
  cases r.state <;> simp

theorem commandOf_energize_iff (r : Session) :
    commandOf r = .energize ↔ r.state = .dispensing ∨ r.state = .suspended ∨ r.state = .occupying := by
  unfold commandOf
  cases r.state <;> simp
  cases r.probeSend <;> simp

theorem commandOf_stop_iff (r : Session) : commandOf r = .stop ↔ r.state = .ending ∨ r.state = .released := by
  unfold commandOf
  cases r.state <;> simp
  cases r.probeSend <;> simp

/-- The display of a pedestal that is out of service (R3). -/
theorem displayOf_outOfService {r : Session} {e : PedestalEntry} (h : e.blocked = true ∨ e.estop = true) :
    displayOf r e = (.outOfService, 0) := by
  unfold displayOf
  rw [if_pos (by simpa using h)]
  rfl

/-- The display of a refusal (R3, R10). -/
theorem displayOf_refused {r : Session} {e : PedestalEntry} (hb : e.blocked = false) (he : e.estop = false)
    {d : RefusalDisplay} (h : r.refusal = some d) : displayOf r e = (.refused, d.reason) := by
  simp [displayOf, hb, he, h]

/-- The display of the state (R3). -/
theorem displayOf_state {r : Session} {e : PedestalEntry} (hb : e.blocked = false) (he : e.estop = false)
    (h : r.refusal = none) : displayOf r e = r.display := by
  simp [displayOf, hb, he, h]

/-- Settles O36: the frame's fields are those of the command, the setpoint and the display of record and entry. -/
theorem commandFrameFollowsTheRecord : Obligations.CommandFrameFollowsTheRecord := by
  intro n s
  have shown : ∀ {d : DisplayCode} {reason : Byte}, displayOf (s.session n) (s.entry n) = (d, reason) →
      (formCommand n s).display = d ∧ (formCommand n s).reason = reason := fun h => by
    simp only [formCommand, h, and_self]
  refine ⟨⟨rfl, rfl⟩, fun hs hg hb => ?_, fun h => ?_, commandOf_probe_iff _, commandOf_energize_iff _, commandOf_stop_iff _,
    fun h => shown (displayOf_outOfService h), fun hb he => ⟨fun d hd => shown (displayOf_refused hb he hd), fun hr => ?_⟩⟩
  · simp [formCommand, setpointOf, hs, hg, hb]
  · show setpointOf _ _ = 0
    unfold setpointOf
    rw [if_neg]
    rintro ⟨h1, h2, h3⟩
    rcases h with h | h | h
    · exact h h1
    · exact h h2
    · simp [h] at h3
  · have state : ∀ {d : DisplayCode} {reason : Byte}, (s.session n).display = (d, reason) →
        (formCommand n s).display = d ∧ (formCommand n s).reason = reason := fun h =>
      shown ((displayOf_state hb he hr).trans h)
    have dispensing : (s.session n).state = .dispensing → (s.session n).display =
        match (s.session n).alloc.grantState with
        | .powered => (.charging, noReason)
        | .none | .parked => (.waitingForPower, reasonParked)
        | .yielding => (.waitingForPower, reasonYielding) := fun h => by
      simp only [Session.display, h] <;> rfl
    refine ⟨fun h => ?_, fun h => ?_, fun h => ?_, fun h => ?_, fun h => ?_, fun h => ?_, fun h => ?_,
      fun h => ⟨fun hg => state ?_, fun hg => state ?_, fun hg => state ?_⟩, fun why h hw => state ?_⟩
    case refine_3.refine_8 => rw [dispensing h, hg]; rfl
    case refine_3.refine_9 => rw [dispensing h]; rcases hg with hg | hg <;> rw [hg] <;> rfl
    case refine_3.refine_10 => rw [dispensing h, hg]; rfl
    case refine_3.refine_11 =>
      rcases h with h | h <;> simp only [Session.display, h, Session.endReasonByte, hw, Option.map_some, Option.getD_some]
    all_goals exact state (by simp only [Session.display, h]; rfl)

end Sys2Proof.Machine
end

section
/-! SUPPORT. Misses and the turn after an exchange (R28, R150, R155, R157, R160). -/

namespace Sys2Proof.Machine

variable {s : State} {n : Ped}

/-! ## After an exchange -/

theorem endExchange_stopAll (x : Exchange) (h : s.bus.stopAllOwed = true) :
    endExchange x s = { s with
      bus := { s.bus with lastFrame := some stopAllFrame, phase := .stopped, stopAllOwed := false } } := by
  unfold endExchange
  rw [if_pos h]
  rfl

theorem endExchange_outOfTurn (x : Exchange) (h : s.bus.stopAllOwed = false) (ho : x.outOfTurn = true) :
    endExchange x s = { s with bus := { s.bus with phase := .idle } } := by
  unfold endExchange
  rw [if_neg (by simp [h]), if_pos ho]
  rfl

theorem endExchange_inTurn (x : Exchange) (h : s.bus.stopAllOwed = false) (ho : x.outOfTurn = false) :
    endExchange x s = nextTurn (Ped.all.filter fun m => decide (x.pedestal < m)) s := by
  unfold endExchange
  rw [if_neg (by simp [h]), if_neg (by simp [ho])]

/-! ## A miss -/

theorem exchangeMiss_counted (cause : MissCause) (b : Bool) (h : s.bus.phase = .exchange ⟨n, b, false⟩) :
    exec (.exchangeMiss cause) s = .next (endExchange ⟨n, b, false⟩ (takeMiss n s)) := by
  simp only [exec, execExchangeMiss, h, takeExchange, Bool.false_eq_true, if_false]

/-- The entry after a miss, spelt out (R155). -/
theorem PedestalEntry.countMiss_eq (e : PedestalEntry) : e.countMiss = { e with
    misses := min 255 (e.misses + 1)
    frameErrors := if e.missMark then e.frameErrors else min 255 (e.frameErrors + 1)
    missMark := true } := rfl

theorem takeMiss_kept (n : Ped) (s : State) (h : (s.entry n).link = .lost ∨ (s.entry n).misses < 4) :
    takeMiss n s = { s with pedestals := s.pedestals.set n (s.entry n).countMiss } := by
  unfold takeMiss
  simp only []
  rw [if_neg]
  · rfl
  · rintro ⟨h1, h2⟩
    have h1 : (s.entry n).link = .online := h1
    have h2 : Config.lostMisses ≤ min 255 ((s.entry n).misses + 1) := h2
    simp only [Config.lostMisses] at h2
    rcases h with h | h
    · simp [h] at h1
    · omega

/-- The state in which a fifth miss leaves the session to be lost (R157). -/
def State.missedOut (n : Ped) (s : State) : State :=
  { s with
    pedestals := s.pedestals.set n { (s.entry n).countMiss with link := .lost, lastPlug := none }
    conds := s.conds.withPed n 8 .none }

theorem takeMiss_lost (n : Ped) (s : State) (h : (s.entry n).link = .online) (hm : 4 ≤ (s.entry n).misses) :
    takeMiss n s = loseSession n (s.missedOut n) := by
  unfold takeMiss
  simp only []
  rw [if_pos]
  · rfl
  · refine ⟨h, ?_⟩
    show Config.lostMisses ≤ min 255 ((s.entry n).misses + 1)
    simp only [Config.lostMisses]
    omega

/-- Settles O38: what follows an exchange, a void one, and a miss with the session lost by its state. -/
theorem missesAreCountedAndTheTurnGoesOn : Obligations.MissesAreCountedAndTheTurnGoesOn := by
  refine ⟨fun s x => ⟨endExchange_stopAll x, fun h => ⟨endExchange_outOfTurn x h, fun ho => ⟨fun m hm => ?_, fun hm => ?_⟩⟩⟩,
    fun s n b cause bytes h => ⟨?_, ?_⟩, fun s n b cause h => ?_⟩
  · rw [endExchange_inTurn x h ho]
    exact nextTurn_enrolled s (x.pedestal.val + 1) m hm _ rfl
  · rw [endExchange_inTurn x h ho]
    exact nextTurn_none s _ fun m hmem => hm m (by simpa using (List.mem_filter.1 hmem).2)
  · simp only [exec, execExchangeMiss, h, takeExchange, if_true]
  · simp only [exec, execStatusReply, h, takeExchange, if_true]
  · have lose : ∀ {z : State}, takeMiss n s = z →
        exec (.exchangeMiss cause) s = .next (endExchange ⟨n, b, false⟩ z) := fun hz => by
      rw [exchangeMiss_counted cause b h, hz]
    refine ⟨fun hk => lose (takeMiss_kept n s hk), fun ho hm => ?_⟩
    have lost := takeMiss_lost n s ho hm
    have session : (s.missedOut n).session n = s.session n := rfl
    unfold loseSession at lost
    simp only [session] at lost
    refine ⟨fun hs => lose ?_, fun hs => lose ?_, fun hs => lose ?_, fun hs => lose ?_, fun hs => lose ?_⟩
    · rw [lost]; rcases hs with hs | hs | hs <;> rw [hs] <;> rfl
    · rw [lost, hs]; rfl
    · rw [lost, hs]; rfl
    · rw [lost]; simp only [hs]; rfl
    · rw [lost]; rcases hs with hs | hs | hs | hs <;> simp only [hs] <;> rfl

end Sys2Proof.Machine
end

section
/-! SUPPORT. A stop of every session (R29, R32, R189): one halted record after the other, in pedestal order. -/

namespace Sys2Proof.Machine

variable {s t : State} {n : Ped} {why : EndReason}

/-! ## One halted session -/

/-- The record that a halt leaves (R13, R26, R29). -/
def Session.halted (why : EndReason) (now : Point) (r : Session) : Session :=
  if r.state = .authorizing then
    { state := if r.hasPlug = .yes then .plugged else .free, hasPlug := r.hasPlug, baseline := r.baseline,
      refusal := some ⟨why.code, now + 5000⟩ }
  else if r.state.granted then
    if r.hasPlug = .no then { baseline := r.baseline }
    else { state := .released, hasPlug := r.hasPlug, endReason := some (r.endReason.getD why), baseline := r.baseline }
  else r

/-- The settlement record that a halt hands to the queue (R118). -/
def State.closingOf (why : EndReason) (s : State) (n : Ped) : Option SettlementRecord :=
  match (s.session n).opening, (s.session n).grant with
  | some o, some g => some (buildRecord n (s.session n) o g ((s.session n).endReason.getD why) s)
  | _, _ => none

/-- The park's conditions once the queue has been tested against its mark (R126). -/
def State.markTested (q : Option SettlementRecord) (s : State) : Conditions :=
  if q.isSome ∧ s.settings.highMark ≤ (s.settlement.queue ++ q.toList).length then s.conds.withPark 1 .none else s.conds

/-- The latch of a halted session (R13, R26). -/
def Conditions.haltLatch (why : EndReason) (n : Ped) (r : Session) (c : Conditions) : Conditions :=
  if r.state = .authorizing then c.withPed n 2 (.reason why.code)
  else if r.state.granted then c.withPed n 5 .none else c

/-- The open states are AUTHORIZING and the granted ones. -/
theorem SessionState.isOpen_iff (st : SessionState) : st.isOpen = true ↔ st = .authorizing ∨ st.granted = true := by
  cases st <;> simp [SessionState.isOpen, SessionState.granted]

theorem State.closingOf_granted (h : (s.session n).Shaped) (hg : (s.session n).state.granted = true) :
    ∃ o g, (s.session n).opening = some o ∧ (s.session n).grant = some g
      ∧ s.closingOf why n = some (buildRecord n (s.session n) o g ((s.session n).endReason.getD why) s) := by
  obtain ⟨⟨hopen, -, hgrant, -⟩, -⟩ := h
  rw [hg] at hgrant
  rw [(SessionState.isOpen_iff _).2 (.inr hg)] at hopen
  obtain ⟨o, ho⟩ := Option.isSome_iff_exists.1 hopen
  obtain ⟨g, hg'⟩ := Option.isSome_iff_exists.1 hgrant
  refine ⟨o, g, ho, hg', ?_⟩
  unfold State.closingOf
  rw [ho, hg']

theorem State.closingOf_notGranted (h : (s.session n).Shaped) (hg : (s.session n).state.granted = false) :
    s.closingOf why n = none := by
  obtain ⟨⟨-, -, hgrant, -⟩, -⟩ := h
  rw [hg, Option.isSome_eq_false_iff, Option.isNone_iff_eq_none] at hgrant
  unfold State.closingOf
  rw [hgrant]
  cases (s.session n).opening <;> rfl

theorem State.set_session_self (s : State) (n : Ped) : s.records.set n (s.session n) = s.records := vector_set_get _ _

/-- What the halt of one session does: record, latches, slot, queue and quiet timer, and nothing else. -/
theorem haltSession_eq (why : EndReason) (h : (s.session n).Shaped) :
    haltSession why n s = { s with
      records := s.records.set n ((s.session n).halted why s.timebase)
      conds := (s.markTested (s.closingOf why n)).haltLatch why n (s.session n)
      settlement := { s.settlement with
        queue := s.settlement.queue ++ (s.closingOf why n).toList
        reserved := s.settlement.reserved - (if (s.session n).state.isOpen then 1 else 0) }
      bus := if (s.session n).state.isOpen = true ∧ ((s.session n).halted why s.timebase).state = .free then s.freedBus n
        else s.bus } := by
  by_cases hauth : (s.session n).state = .authorizing
  · have hhalt : haltSession why n s = cancelSession n why.code s := by unfold haltSession; rw [hauth]
    have hfree : (s.session n).state ≠ .free := by simp [hauth]
    have hnone : s.closingOf why n = none := State.closingOf_notGranted h (by simp [hauth, SessionState.granted])
    have hopen : (s.session n).state.isOpen = true := by rw [hauth]; rfl
    rw [hhalt, hnone]
    simp only [State.markTested, Conditions.haltLatch, Session.halted, hauth, if_true, Option.toList_none, List.append_nil,
      SessionState.isOpen, Option.isSome_none, Bool.false_eq_true, false_and, if_false, true_and]
    by_cases hp : (s.session n).hasPlug = .yes
    · rw [cancelSession_plugged n _ s hfree hp]
      simp [hp]
    · have hno : (s.session n).hasPlug = .no := by
        obtain ⟨-, -, hplug, -⟩ := h
        cases hq : (s.session n).hasPlug <;> simp_all [Session.plugAllowed]
      rw [cancelSession_unplugged n _ s hfree hp]
      simp [hno]
  · by_cases hg : (s.session n).state.granted = true
    · have hhalt : haltSession why n s = closeSession n why s := by
        unfold haltSession
        cases hs : (s.session n).state <;> simp_all [SessionState.granted]
      have hfree : (s.session n).state ≠ .free := by intro hs; simp [hs, SessionState.granted] at hg
      have hopen := (SessionState.isOpen_iff _).2 (.inr hg)
      obtain ⟨o, g, ho, hg', hq⟩ := State.closingOf_granted (why := why) h hg
      rw [hhalt, hq]
      simp only [State.markTested, Conditions.haltLatch, Session.halted, hauth, hg, hopen, if_true, if_false, Option.isSome_some,
        true_and, Option.toList_some]
      by_cases hp : (s.session n).hasPlug = .no
      · rw [closeSession_freed why s hfree ho hg' hp]
        simp [hp, State.joined]
      · rw [closeSession_released why s hfree ho hg' hp]
        simp [hp, State.joined]
    · have hg : (s.session n).state.granted = false := by simpa using hg
      have hhalt : haltSession why n s = s := by
        unfold haltSession
        cases hs : (s.session n).state <;> simp_all [SessionState.granted]
      have hopen : (s.session n).state.isOpen = false := by
        rw [← Bool.not_eq_true, SessionState.isOpen_iff]; simp [hauth, hg]
      rw [hhalt, State.closingOf_notGranted h hg]
      simp [State.markTested, Conditions.haltLatch, Session.halted, hauth, hg, hopen, State.set_session_self]

/-! ## One session after the other -/

/-- What the halts of the sessions at some pedestals have made of a state. -/
structure HaltedAt (why : EndReason) (l : List Ped) (s t : State) : Prop where
  frame : t = { s with
    records := t.records
    conds := { s.conds with ped := t.conds.ped, park := t.conds.park }
    bus := { s.bus with quietTimer := t.bus.quietTimer }
    settlement := { s.settlement with
      queue := s.settlement.queue ++ l.filterMap (s.closingOf why)
      reserved := s.settlement.reserved - l.countP fun n => (s.session n).state.isOpen } }
  session : ∀ n, t.session n = if n ∈ l then (s.session n).halted why s.timebase else s.session n
  ped : ∀ n, t.conds.ped.get n =
    if n ∈ l then (s.conds.haltLatch why n (s.session n)).ped.get n else s.conds.ped.get n
  park : t.conds.park = (if l.filterMap (s.closingOf why) ≠ []
      ∧ s.settings.highMark ≤ (s.settlement.queue ++ l.filterMap (s.closingOf why)).length then
    s.conds.withPark 1 .none else s.conds).park
  timer : t.bus.quietTimer = if (∃ n, (s.session n).state ≠ .free) ∧ ∀ n, (t.session n).state = .free then
    some (s.timebase + 1000 * s.settings.quietTime) else s.bus.quietTimer

theorem HaltedAt.nil (why : EndReason) (s : State) : HaltedAt why [] s s where
  frame := by simp
  session := by simp
  ped := by simp
  park := by simp
  timer := by
    rw [if_neg]
    rintro ⟨⟨n, hn⟩, h⟩
    exact hn (h n)

/-- A latch of one pedestal is read at that pedestal alone. -/
theorem Conditions.haltLatch_ped_ne {m : Ped} (h : m ≠ n) (c : Conditions) (r : Session) :
    (c.haltLatch why n r).ped.get m = c.ped.get m := by
  unfold Conditions.haltLatch Conditions.withPed
  split
  · exact get_set_ne _ h _
  · split
    · exact get_set_ne _ h _
    · rfl

theorem Conditions.haltLatch_park (c : Conditions) (r : Session) : (c.haltLatch why n r).park = c.park := by
  unfold Conditions.haltLatch
  split
  · rfl
  · split <;> rfl

/-- A latch keeps mask and last notice. -/
theorem Conditions.haltLatch_eq (c : Conditions) (r : Session) :
    c.haltLatch why n r = { c with ped := (c.haltLatch why n r).ped } := by
  unfold Conditions.haltLatch
  split
  · rfl
  · split <;> rfl

/-- The latch at a pedestal depends on that pedestal's flags alone. -/
theorem Conditions.haltLatch_ped_congr {c c' : Conditions} (h : c.ped.get n = c'.ped.get n) (r : Session) :
    (c.haltLatch why n r).ped.get n = (c'.haltLatch why n r).ped.get n := by
  unfold Conditions.haltLatch Conditions.withPed
  split
  · simp only [get_set_self, h]
  · split
    · simp only [get_set_self, h]
    · exact h

theorem State.markTested_eq (q : Option SettlementRecord) (s : State) :
    s.markTested q = { s.conds with park := (s.markTested q).park } := by
  unfold State.markTested
  split <;> rfl

theorem State.freedBus_eq (n : Ped) (s : State) : s.freedBus n = { s.bus with quietTimer := (s.freedBus n).quietTimer } := by
  unfold State.freedBus
  split <;> rfl

section
variable {l : List Ped} {m : Ped} (H : HaltedAt why l s t)
include H

theorem HaltedAt.closingOf (hm : m ∉ l) : t.closingOf why m = s.closingOf why m := by
  have hs : t.session m = s.session m := by rw [H.session, if_neg hm]
  unfold State.closingOf
  rw [hs]
  rw [H.frame]
  rfl

/-- The halt of one more session. -/
theorem HaltedAt.snoc (hm : m ∉ l) (h : (s.session m).Shaped) : HaltedAt why (l ++ [m]) s (haltSession why m t) := by
  have hs : t.session m = s.session m := by rw [H.session, if_neg hm]
  have htime : t.timebase = s.timebase := by rw [H.frame]
  have step := haltSession_eq (s := t) (n := m) why (by rw [hs]; exact h)
  rw [hs, H.closingOf hm, htime] at step
  have hqueue : t.settlement.queue = s.settlement.queue ++ l.filterMap (s.closingOf why) := by rw [H.frame]
  have hreserved : t.settlement.reserved = s.settlement.reserved - l.countP fun n => (s.session n).state.isOpen := by
    rw [H.frame]
  have hmark : t.settings.highMark = s.settings.highMark := by rw [H.frame]
  have session : ∀ n, (haltSession why m t).session n =
      if n ∈ l ++ [m] then (s.session n).halted why s.timebase else s.session n := by
    intro n
    rw [step]
    by_cases hn : n = m
    · subst hn
      simp [State.session, get_set_self]
    · have := H.session n
      simp only [State.session] at this ⊢
      rw [get_set_ne _ hn, this]
      simp [hn]
  have conds : (haltSession why m t).conds = (t.markTested (s.closingOf why m)).haltLatch why m (s.session m) := by rw [step]
  have bus : (haltSession why m t).bus =
      if (s.session m).state.isOpen = true ∧ ((s.session m).halted why s.timebase).state = .free then t.freedBus m
      else t.bus := by rw [step]
  refine ⟨?frame, session, ?ped, ?park, ?timer⟩
  case frame =>
    have hconds : (haltSession why m t).conds = { s.conds with
        ped := (haltSession why m t).conds.ped, park := (haltSession why m t).conds.park } := by
      rw [conds, Conditions.haltLatch_eq, State.markTested_eq, H.frame]
    have hbus : (haltSession why m t).bus = { s.bus with quietTimer := (haltSession why m t).bus.quietTimer } := by
      have hb : t.bus = { s.bus with quietTimer := t.bus.quietTimer } := by rw [H.frame]
      rw [bus]
      split
      · rw [State.freedBus_eq, hb]
      · exact hb
    have hsettlement : (haltSession why m t).settlement = { s.settlement with
        queue := s.settlement.queue ++ (l ++ [m]).filterMap (s.closingOf why)
        reserved := s.settlement.reserved - (l ++ [m]).countP fun n => (s.session n).state.isOpen } := by
      have hcounter : t.settlement.counter = s.settlement.counter := by rw [H.frame]
      have hmarker : t.settlement.markerValid = s.settlement.markerValid := by rw [H.frame]
      have joined : (haltSession why m t).settlement = { t.settlement with
          queue := t.settlement.queue ++ (s.closingOf why m).toList
          reserved := t.settlement.reserved - (if (s.session m).state.isOpen then 1 else 0) } := by rw [step]
      rw [joined]
      simp only [hqueue, hreserved, hcounter, hmarker]
      cases hq : s.closingOf why m <;> simp [hq, List.countP_append, List.countP_cons, Nat.sub_sub]
    have hrest : haltSession why m t = { t with
        records := (haltSession why m t).records, conds := (haltSession why m t).conds
        bus := (haltSession why m t).bus, settlement := (haltSession why m t).settlement } := by rw [step, htime]
    rw [← hconds, ← hbus, ← hsettlement]
    generalize haltSession why m t = u at hrest ⊢
    rw [hrest, H.frame]
  case ped =>
    intro n
    rw [conds]
    by_cases hn : n = m
    · subst hn
      rw [if_pos (by simp)]
      refine Conditions.haltLatch_ped_congr ?_ _
      rw [State.markTested_eq]
      simpa [hm] using H.ped n
    · rw [Conditions.haltLatch_ped_ne hn, State.markTested_eq]
      simpa [hn] using H.ped n
  case park =>
    rw [conds, Conditions.haltLatch_park]
    have park := H.park
    unfold State.markTested
    rw [hqueue, hmark]
    cases hq : s.closingOf why m with
    | none => simpa [hq, List.filterMap_append] using park
    | some q =>
      have hl : (l ++ [m]).filterMap (s.closingOf why) = l.filterMap (s.closingOf why) ++ [q] := by simp [hq]
      rw [hl, ← List.append_assoc]
      simp only [Option.isSome_some, true_and, Option.toList_some]
      by_cases hmark' : s.settings.highMark ≤ (s.settlement.queue ++ l.filterMap (s.closingOf why) ++ [q]).length
      · rw [if_pos hmark', if_pos ⟨by simp, hmark'⟩]
        show t.conds.park.set 1 _ = s.conds.park.set 1 _
        rw [park]
        split
        · exact vector_set_set s.conds.park (1 : Fin 5) _ _
        · rfl
      · rw [if_neg hmark', if_neg fun hc => hmark' hc.2, park, if_neg]
        rintro ⟨-, hc⟩
        simp only [List.length_append] at hc hmark'
        omega
  case timer =>
    rw [bus]
    have timer := H.timer
    have free_iff : (∀ n, ((haltSession why m t).session n).state = .free) ↔
        ((haltSession why m t).session m).state = .free ∧ ∀ n, n ≠ m → (t.session n).state = .free := by
      have same : ∀ n, n ≠ m → (haltSession why m t).session n = t.session n := by
        intro n hn
        rw [session, H.session]
        simp [hn]
      constructor
      · intro h
        exact ⟨h m, fun n hn => by rw [← same n hn]; exact h n⟩
      · rintro ⟨h1, h2⟩ n
        by_cases hn : n = m
        · rw [hn]; exact h1
        · rw [same n hn]; exact h2 n hn
    have hself : (haltSession why m t).session m = (s.session m).halted why s.timebase := by rw [session, if_pos (by simp)]
    have quiet : (t.freedBus m).quietTimer = if ∀ n, n ≠ m → (t.session n).state = .free then
        some (s.timebase + 1000 * s.settings.quietTime) else t.bus.quietTimer := by
      unfold State.freedBus State.quietBus
      rw [H.frame]
      split <;> rfl
    by_cases hopen : (s.session m).state.isOpen = true
    · have hm_free : (s.session m).state ≠ .free := by intro hf; simp [hf, SessionState.isOpen] at hopen
      have ht : ¬ ∀ n, (t.session n).state = .free := fun hall => hm_free (by rw [← hs]; exact hall m)
      rw [if_neg fun hc => ht hc.2] at timer
      by_cases hfree : ((s.session m).halted why s.timebase).state = .free ∧ ∀ n, n ≠ m → (t.session n).state = .free
      · rw [if_pos ⟨hopen, hfree.1⟩, quiet, if_pos hfree.2, if_pos ⟨⟨m, hm_free⟩, free_iff.2 (by rw [hself]; exact hfree)⟩]
      · have stays : (if (∃ n, (s.session n).state ≠ .free) ∧ ∀ n, ((haltSession why m t).session n).state = .free then
            some (s.timebase + 1000 * s.settings.quietTime) else s.bus.quietTimer) = s.bus.quietTimer :=
          if_neg fun hc => hfree (by rw [← hself]; exact free_iff.1 hc.2)
        rw [stays, ← timer]
        split
        · rename_i hc
          rw [quiet, if_neg fun ho => hfree ⟨hc.2, ho⟩]
        · rfl
    · have hsame : (s.session m).halted why s.timebase = s.session m := by
        have := (SessionState.isOpen_iff (s.session m).state).not.1 hopen
        simp only [not_or, Bool.not_eq_true] at this
        simp [Session.halted, this.1, this.2]
      have hiff : (∀ n, ((haltSession why m t).session n).state = .free) ↔ ∀ n, (t.session n).state = .free := by
        rw [free_iff, hself, hsame, ← hs]
        exact ⟨fun h n => if hn : n = m then by rw [hn]; exact h.1 else h.2 n hn, fun h => ⟨h m, fun n _ => h n⟩⟩
      rw [if_neg fun hc => hopen hc.1, timer]
      simp only [hiff]

end

/-- The halts of the sessions at pedestals that differ. -/
theorem HaltedAt.foldl (h : s.RecordsShaped) (l : List Ped) (hl : l.Nodup) :
    HaltedAt why l s (l.foldl (fun s n => haltSession why n s) s) := by
  induction l using List.reverseRecOn with
  | nil => exact HaltedAt.nil why s
  | append_singleton l m ih =>
    obtain ⟨hl', -, hm⟩ := List.nodup_append.1 hl
    rw [List.foldl_append]
    exact (ih hl').snoc (fun hmem => hm m hmem m (by simp) rfl) (h m)

theorem haltedAt_all (h : s.RecordsShaped) : HaltedAt why Ped.all s (forPedestals (haltSession why) s) :=
  HaltedAt.foldl h Ped.all (List.nodup_finRange 16)

/-- The records in pedestal order. -/
theorem State.records_toList (s : State) : s.records.toList = Ped.all.map s.session := by
  refine List.ext_getElem (by simp [Ped.all]) fun i h1 h2 => ?_
  simp only [Ped.all, List.getElem_map, List.getElem_finRange, State.session, Vector.getElem_toList]
  rfl

/-- The open sessions, counted over records or over pedestals. -/
theorem openCount_eq (s : State) : s.openCount = Ped.all.countP fun n => (s.session n).state.isOpen := by
  rw [State.openCount, s.records_toList, List.countP_map]
  rfl

/-- Settles O30, by induction on the pedestals halted: `HaltedAt` says what the halts so far have made of the state. -/
theorem haltClosesOrCancelsEverySession : Obligations.HaltClosesOrCancelsEverySession := by
  intro why s h t
  have H : HaltedAt why Ped.all s t := haltedAt_all h
  clear_value t
  have hconds : t.conds = { s.conds with ped := t.conds.ped, park := t.conds.park } := congrArg State.conds H.frame
  have session : ∀ n, t.session n = (s.session n).halted why s.timebase := fun n => by simp [H.session]
  refine ⟨?_, ⟨hconds, H.park⟩, H.timer, fun n => ⟨?_, ?_, ?_, ?_, ?_⟩⟩
  · rw [openCount_eq]
    have frame := H.frame
    rw [← hconds] at frame
    exact frame
  · have ped := H.ped n
    rw [if_pos (mem_all n)] at ped
    exact ped
  all_goals rw [session]; unfold Session.halted
  · intro hopen
    have := (SessionState.isOpen_iff (s.session n).state).not.1 (by simp [hopen])
    rw [if_neg fun hs => this (.inl hs), if_neg fun hs => this (.inr hs)]
  · exact fun hs => if_pos hs
  · intro hg hp
    rw [if_neg fun hs => by simp [hs, SessionState.granted] at hg, if_pos hg, if_pos hp]
  · intro hg hp
    rw [if_neg fun hs => by simp [hs, SessionState.granted] at hg, if_pos hg, if_neg hp]

end Sys2Proof.Machine
end

section
/-! SUPPORT. A status reply's frame reads back as the reply (section 12.4), and the command takes it by the five steps of R153. -/

namespace Sys2Proof.Machine

variable {s : State} {n : Ped} {x : StatusReply}

/-! ## Fields of a frame that is spelt field by field -/

theorem fieldAt_head (size v : Nat) (post : List Byte) : fieldAt (bytesOf size v ++ post) 0 size = v % 256 ^ size := by
  simp [fieldAt, natOf_bytesOf_mod]

theorem fieldAt_skip {k off : Nat} (v size : Nat) (post : List Byte) (h : k ≤ off) :
    fieldAt (bytesOf k v ++ post) off size = fieldAt post (off - k) size := by
  simp [fieldAt, List.drop_append, List.drop_eq_nil_of_le, h]

/-- The flags byte of a presentation. -/
def presentationFlags (q : Option Presentation) : Nat := q.elim 0 fun p => 1 + 2 * p.source.code

/-- The number byte of a presentation. -/
def presentationNumber (q : Option Presentation) : Nat := q.elim 0 fun p => p.number.toNat

/-- The token of a presentation, as a number. -/
def presentationToken (q : Option Presentation) : Nat := q.elim 0 fun p => p.token.toNat

theorem presentationBytes_eq (q : Option Presentation) :
    presentationBytes q =
      bytesOf 1 (presentationFlags q) ++ (bytesOf 1 (presentationNumber q) ++ bytesOf 8 (presentationToken q)) := by
  cases q with
  | none => rfl
  | some p => simp [presentationBytes, presentationFlags, presentationNumber, presentationToken, bytesOf]

/-- A reply's frame, field by field. -/
theorem StatusReply.bytes_eq (n : Ped) (x : StatusReply) :
    x.bytes n = bytesOf 1 n.number ++ (bytesOf 1 x.plug.toNat ++ (bytesOf 2 x.request ++ (bytesOf 1 x.complete.toNat
      ++ (bytesOf 2 x.power ++ (bytesOf 3 x.meter ++ (bytesOf 1 (presentationFlags x.presentation)
      ++ (bytesOf 1 (presentationNumber x.presentation) ++ (bytesOf 8 (presentationToken x.presentation)
      ++ (bytesOf 1 x.probe.classCode ++ (bytesOf 1 x.probe.lengthValue ++ (bytesOf 1 x.faults.toNat
      ++ (bytesOf 1 x.released.toNat ++ crcBytes (x.core n))))))))))))) := by
  simp only [StatusReply.bytes, StatusReply.core, presentationBytes_eq, List.append_assoc]

theorem StatusReply.length_core (n : Ped) (x : StatusReply) : (x.core n).length = 24 := by
  simp [StatusReply.core, presentationBytes_eq]

theorem presentationFlags_le (q : Option Presentation) : presentationFlags q ≤ 3 := by
  rcases q with _ | ⟨-, -, _ | _⟩ <;> simp [presentationFlags, TokenSource.code]

theorem presentationNumber_lt (q : Option Presentation) : presentationNumber q < 256 := by
  cases q with
  | none => decide
  | some p => exact p.number.isLt

theorem presentationToken_lt (q : Option Presentation) : presentationToken q < 256 ^ 8 := by
  cases q with
  | none => decide
  | some p => exact p.token.isLt

theorem ProbeResult.classCode_le (q : ProbeResult) : q.classCode ≤ 3 := by
  cases q <;> simp [ProbeResult.classCode]

/-- Every field of a reply whose values fit is read back from its frame. -/
theorem StatusReply.fieldAt_bytes (n : Ped) (h : x.fits = true) :
    fieldAt (x.bytes n) 0 1 = n.val + 1 ∧ fieldAt (x.bytes n) 1 1 = x.plug.toNat ∧ fieldAt (x.bytes n) 2 2 = x.request
      ∧ fieldAt (x.bytes n) 4 1 = x.complete.toNat ∧ fieldAt (x.bytes n) 5 2 = x.power ∧ fieldAt (x.bytes n) 7 3 = x.meter
      ∧ fieldAt (x.bytes n) 10 1 = presentationFlags x.presentation
      ∧ fieldAt (x.bytes n) 11 1 = presentationNumber x.presentation
      ∧ fieldAt (x.bytes n) 12 8 = presentationToken x.presentation ∧ fieldAt (x.bytes n) 20 1 = x.probe.classCode
      ∧ fieldAt (x.bytes n) 21 1 = x.probe.lengthValue ∧ fieldAt (x.bytes n) 22 1 = x.faults.toNat
      ∧ fieldAt (x.bytes n) 23 1 = x.released.toNat := by
  simp only [StatusReply.fits, Bool.and_eq_true, decide_eq_true_eq] at h
  obtain ⟨⟨⟨hrequest, hpower⟩, hmeter⟩, hlength⟩ := h
  have hmeter : x.meter < 16777216 := hmeter
  have hplug := x.plug.toNat_lt
  have hcomplete := x.complete.toNat_lt
  have hreleased := x.released.toNat_lt
  have hflags := presentationFlags_le x.presentation
  have hnumber := presentationNumber_lt x.presentation
  have htoken := presentationToken_lt x.presentation
  have hclass := x.probe.classCode_le
  have hfaults := x.faults.isLt
  have hn := n.isLt
  rw [x.bytes_eq n]
  refine ⟨?_, ?_, ?_, ?_, ?_, ?_, ?_, ?_, ?_, ?_, ?_, ?_, ?_⟩ <;>
    (simp (disch := decide) only [fieldAt_skip, Nat.reduceSub, fieldAt_head]
     refine Nat.mod_eq_of_lt ?_)
  case refine_1 => simp only [Ped.number]; omega
  all_goals omega

theorem presentationAt_bytes (n : Ped) (h : x.fits = true) : presentationAt (x.bytes n) = x.presentation := by
  obtain ⟨-, -, -, -, -, -, hflags, hnumber, htoken, -⟩ := StatusReply.fieldAt_bytes n h
  unfold presentationAt tokenAt
  rw [hflags, hnumber, htoken]
  rcases x.presentation with _ | ⟨number, token, source⟩
  · rfl
  · cases source <;>
      simp [presentationFlags, presentationNumber, presentationToken, TokenSource.code]

theorem ProbeResult.ofBytes_bytes (q : ProbeResult) : ProbeResult.ofBytes q.classCode q.lengthValue = q := by
  cases q <;> rfl

/-- The frame of a reply is good at its pedestal. -/
theorem StatusReply.bytes_good (n : Ped) (h : x.fits = true) : replyIsGood n (x.bytes n) = true := by
  obtain ⟨haddress, hplug, -, hcomplete, -, -, hflags, -, -, hclass, -, hfaults, hreleased⟩ := StatusReply.fieldAt_bytes n h
  have hcore := x.length_core n
  rw [replyIsGood_iff, haddress, hplug, hcomplete, hflags, hclass, hfaults, hreleased]
  refine ⟨?_, ?_, rfl, Bool.toNat_le _, Bool.toNat_le _, presentationFlags_le _, x.probe.classCode_le, ?_, Bool.toNat_le _⟩
  · simp [StatusReply.bytes, hcore]
  · simp [StatusReply.bytes, ← hcore]
  · have := x.faults.isLt
    omega

/-- A reply in its frame reads back as itself (R194, section 12.4). -/
theorem decodeReply_bytes (n : Ped) (h : x.fits = true) : decodeReply n (x.bytes n) = some x := by
  obtain ⟨-, hplug, hrequest, hcomplete, hpower, hmeter, -, -, -, hclass, hlength, hfaults, hreleased⟩ :=
    StatusReply.fieldAt_bytes n h
  have bit : ∀ b : Bool, (b.toNat == 1) = b := by decide
  unfold decodeReply
  rw [if_pos (StatusReply.bytes_good n h)]
  unfold StatusReply.ofBytes
  rw [hplug, hrequest, hcomplete, hpower, hmeter, presentationAt_bytes n h, hclass, hlength, hfaults, hreleased,
    ProbeResult.ofBytes_bytes, bit, bit, bit, BitVec.ofNat_toNat, BitVec.setWidth_eq]

/-! ## The command (R153, R160) -/

theorem statusReply_taken {b : Bool} (h : s.Exchanging n b) (hx : x.fits = true) :
    exec (.statusReply (x.bytes n)) s = .next (endExchange ⟨n, b, false⟩ (takeReply n x s)) := by
  obtain ⟨hphase, howed⟩ := h
  simp only [exec, execStatusReply, hphase, takeExchange, decodeReply_bytes n hx, howed, Bool.false_eq_true, if_false]

theorem statusReply_stopAllOwed {b : Bool} (hphase : s.bus.phase = .exchange ⟨n, b, false⟩) (howed : s.bus.stopAllOwed = true)
    (hx : x.fits = true) :
    exec (.statusReply (x.bytes n)) s = .next (endExchange ⟨n, b, false⟩ (meterSteps n x.meter s)) := by
  simp only [exec, execStatusReply, hphase, takeExchange, decodeReply_bytes n hx, howed, Bool.false_eq_true, if_false, if_true]

end Sys2Proof.Machine
end

section
/-! SUPPORT. The Metering Unit's step of a reply in closed form (R55 to R63): the record it leaves, and when it latches. -/

namespace Sys2Proof.Machine

variable {s : State} {n : Ped} {r : Session} {c : Nat}

/-! ## The record and the latch -/

/-- The meter delta of a count passes the plausibility limit in an energy-flow state (R58). -/
def Session.jumps (r : Session) (limit c : Nat) : Bool := r.state.energyFlow && decide (limit < meterDelta c r.baseline)

/-- The record once a plausible delta has been accrued (R59 to R63). -/
def State.accrued (s : State) (d : Nat) (r : Session) : Session :=
  match r.grant with
  | some g => r.accrueDelta s.clock (s.tariffOf g) d
  | none => r

/-- The record once the Metering Unit has taken a count (R55 to R63). -/
def State.metered (s : State) (c : Nat) (r : Session) : Session :=
  if r.state.energyFlow then
    if meterDelta c r.baseline ≤ s.settings.plausibility then
      { s.accrued (meterDelta c r.baseline) r with baseline := c }
    else { r with baseline := c, flags := { r.flags with meterJump := true } }
  else { r with baseline := c }

/-- The conditions once METER-JUMP is latched, if it is. -/
def Conditions.jumped (n : Ped) (jump : Bool) (c : Conditions) : Conditions := if jump then c.withPed n 10 .none else c

/-- The meter steps in closed form. -/
theorem meterSteps_eq (n : Ped) (c : Nat) (s : State) : meterSteps n c s = { s with
    pedestals := s.pedestals.set n ((s.entry n).metered c)
    records := s.records.set n (s.metered c (s.session n))
    conds := s.conds.jumped n ((s.session n).jumps s.settings.plausibility c) } := by
  have hput : meterSteps n c s = meterReply n c (s.setEntry n ((s.entry n).metered c)) := rfl
  have hr : (s.setEntry n ((s.entry n).metered c)).session n = s.session n := rfl
  rw [hput]
  unfold meterReply State.metered State.accrued Session.jumps Conditions.jumped
  simp only [hr]
  by_cases hflow : (s.session n).state.energyFlow = true
  · by_cases hd : meterDelta c (s.session n).baseline ≤ s.settings.plausibility
    · have hd' : ¬ s.settings.plausibility < meterDelta c (s.session n).baseline := by omega
      simp only [hflow, hd, hd', State.setEntry_settings, if_true, decide_false, Bool.and_false, Bool.false_eq_true, if_false]
      rfl
    · have hd' : s.settings.plausibility < meterDelta c (s.session n).baseline := by omega
      simp only [hflow, hd, hd', State.setEntry_settings, if_true, decide_true, Bool.and_true, if_false]
      rfl
  · have hflow : (s.session n).state.energyFlow = false := by simpa using hflow
    simp only [hflow, Bool.false_eq_true, if_false, Bool.false_and]
    rfl

theorem State.metered_outsideFlow (h : r.state.energyFlow = false) : s.metered c r = { r with baseline := c } := by
  unfold State.metered
  rw [if_neg (by simp [h])]

theorem Session.jumps_outsideFlow (limit : Nat) (h : r.state.energyFlow = false) : r.jumps limit c = false := by
  simp [Session.jumps, h]

theorem State.accrued_zero : s.accrued 0 r = r := by
  unfold State.accrued
  cases r.grant with
  | none => rfl
  | some g => simp [Session.accrueDelta]

theorem State.accrued_priced {g : Grant} {d band price : Nat} (hpos : d ≠ 0) (hg : r.grant = some g)
    (hprice : priceNow s.clock (s.tariffOf g) = some (band, price)) :
    s.accrued d r = { r with
      meter := r.meter.accrue d band price
      flags := { r.flags with clockUnset := r.flags.clockUnset || s.clock.isNone } } := by
  have haccrue : s.accrued d r = r.accrueDelta s.clock (s.tariffOf g) d := by
    unfold State.accrued
    rw [hg]
  rw [haccrue, Session.accrueDelta, if_neg hpos, hprice]

theorem State.metered_still (hf : r.state.energyFlow = true) (hd : meterDelta c r.baseline = 0) :
    s.metered c r = { r with baseline := c } := by
  unfold State.metered
  rw [if_pos hf, hd, if_pos (Nat.zero_le _), State.accrued_zero]

theorem State.metered_jump (hf : r.state.energyFlow = true) (hd : s.settings.plausibility < meterDelta c r.baseline) :
    s.metered c r = { r with baseline := c, flags := { r.flags with meterJump := true } } := by
  unfold State.metered
  rw [if_pos hf, if_neg (by omega)]

theorem State.metered_accrued {g : Grant} {band price : Nat} (hf : r.state.energyFlow = true)
    (hpos : 0 < meterDelta c r.baseline) (hd : meterDelta c r.baseline ≤ s.settings.plausibility) (hg : r.grant = some g)
    (hprice : priceNow s.clock (s.tariffOf g) = some (band, price)) :
    s.metered c r = { r with
      baseline := c
      meter := r.meter.accrue (meterDelta c r.baseline) band price
      flags := { r.flags with clockUnset := r.flags.clockUnset || s.clock.isNone } } := by
  unfold State.metered
  rw [if_pos hf, if_pos hd, State.accrued_priced (by omega) hg hprice]

/-! ## The price (R59, R60) -/

/-- No band has started. -/
theorem bandAt_none {minute : Nat} : ∀ (bands : List Band) (i : Nat),
    (∀ (j : Nat) (y : Band), bands[j]? = some y → minute < y.start) → bandAt minute i bands = none
  | [], _, _ => rfl
  | b :: bands, i, h => by
    have hb : ¬ b.start ≤ minute := by
      have := h 0 b rfl
      omega
    rw [bandAt, bandAt_none bands (i + 1) fun j y hy => h (j + 1) y hy, if_neg hb]
    rfl

/-- The highest-numbered band that has started. -/
theorem bandAt_eq {minute : Nat} {b : Band} : ∀ (bands : List Band) (i band : Nat), bands[band]? = some b → b.start ≤ minute →
    (∀ (j : Nat) (y : Band), band < j → bands[j]? = some y → minute < y.start) →
      bandAt minute i bands = some (i + band, b.price)
  | [], _, _, h, _, _ => by simp at h
  | a :: bands, i, 0, h, hs, hl => by
    obtain rfl : a = b := by simpa using h
    rw [bandAt, bandAt_none bands (i + 1) fun j y hy => hl (j + 1) y (by omega) hy, if_pos hs]
    rfl
  | a :: bands, i, band + 1, h, hs, hl => by
    rw [bandAt, bandAt_eq bands (i + 1) band h hs fun j y hj hy => hl (j + 1) y (by omega) hy, Option.some_or]
    congr 2
    omega

/-- The price that `dearestBand` gives is that of a band. -/
theorem dearestBand_mem : ∀ (bands : List Band) (i : Nat) {j p : Nat}, dearestBand i bands = some (j, p) →
    ∃ b ∈ bands, b.price = p
  | [], _, _, _, h => by simp [dearestBand] at h
  | a :: bands, i, j, p, h => by
    rw [dearestBand] at h
    cases htail : dearestBand (i + 1) bands with
    | none =>
      rw [htail] at h
      simp only [Option.some.injEq, Prod.mk.injEq] at h
      exact ⟨a, by simp, h.2⟩
    | some q =>
      obtain ⟨j', p'⟩ := q
      rw [htail] at h
      simp only [] at h
      split at h
      · simp only [Option.some.injEq, Prod.mk.injEq] at h
        exact ⟨a, by simp, h.2⟩
      · simp only [Option.some.injEq, Prod.mk.injEq] at h
        obtain ⟨b, hb, hp⟩ := dearestBand_mem bands (i + 1) htail
        exact ⟨b, by simp [hb], by omega⟩

/-- The lowest-numbered band of the highest price. -/
theorem dearestBand_eq {b : Band} : ∀ (bands : List Band) (i band : Nat), bands[band]? = some b →
    (∀ (j : Nat) (y : Band), bands[j]? = some y → y.price ≤ b.price ∧ (j < band → y.price < b.price)) →
      dearestBand i bands = some (i + band, b.price)
  | [], _, _, h, _ => by simp at h
  | a :: bands, i, 0, h, hl => by
    obtain rfl : a = b := by simpa using h
    rw [dearestBand]
    cases htail : dearestBand (i + 1) bands with
    | none => rfl
    | some q =>
      obtain ⟨y, hy, hp⟩ := dearestBand_mem bands (i + 1) htail
      obtain ⟨j, hj⟩ := List.getElem?_of_mem hy
      have := (hl (j + 1) y hj).1
      simp only []
      rw [if_pos (by omega)]
      rfl
  | a :: bands, i, band + 1, h, hl => by
    have hlt := (hl 0 a rfl).2 (by omega)
    rw [dearestBand, dearestBand_eq bands (i + 1) band h fun j y hy =>
      ⟨(hl (j + 1) y hy).1, fun hj => (hl (j + 1) y hy).2 (by omega)⟩]
    simp only []
    rw [if_neg (by omega)]
    congr 2
    omega

/-- The band and price of the rules are those of the model. -/
theorem priceNow_eq {t : Tariff} {band price : Nat} (h : s.PricedAt t band price) : priceNow s.clock t = some (band, price) := by
  obtain ⟨b, hb, rfl, hset, hunset⟩ := h
  unfold priceNow
  cases hclock : s.clock with
  | some c =>
    obtain ⟨hstart, hlater⟩ := hset c hclock
    simpa using bandAt_eq t.bands 0 band hb hstart hlater
  | none => simpa using dearestBand_eq t.bands 0 band hb (hunset hclock)

/-! ## The four cases of a count -/

theorem SessionState.energyFlow_iff (st : SessionState) :
    st.energyFlow = true ↔ st = .dispensing ∨ st = .suspended ∨ st = .occupying ∨ st = .ending := by
  cases st <;> simp [SessionState.energyFlow]

/-- The cost numerator grows by the delta at its price, and stays at its highest value (R62, R63). -/
theorem addCost_eq (d price whole remainder : Nat) :
    addCost d price whole remainder =
      (if whole + (remainder + d * price) / 1000000 ≤ 4294967295 then whole + (remainder + d * price) / 1000000 else 4294967295,
       if whole + (remainder + d * price) / 1000000 ≤ 4294967295 then (remainder + d * price) % 1000000 else 999999) := by
  have hmax : Config.max32 = 4294967295 := rfl
  have hmillion : Config.million = 1000000 := rfl
  simp only [addCost, hmax, hmillion]
  by_cases h : whole + (remainder + d * price) / 1000000 ≤ 4294967295
  · rw [if_neg (by omega), if_pos h, if_pos h]
  · rw [if_pos (by omega), if_neg h, if_neg h]

/-- The first part of O39: the meter count of a reply in every state. -/
theorem meterSteps_cases (s : State) (n : Ped) (count : Nat) :
    let r := s.session n
    let m := r.meter
    let flowing := r.state = .dispensing ∨ r.state = .suspended ∨ r.state = .occupying ∨ r.state = .ending
    let d := (count + 16777216 - r.baseline) % 16777216
    let put := fun (q : Session) => ({ s with
      pedestals := s.pedestals.set n ((s.entry n).metered count)
      records := s.records.set n { q with baseline := count } } : State)
    (¬ flowing → meterSteps n count s = put r)
    ∧ (flowing → d = 0 → meterSteps n count s = put r)
    ∧ (flowing → s.settings.plausibility < d → meterSteps n count s =
        { (put { r with flags := { r.flags with meterJump := true } }) with conds := s.conds.withPed n 10 .none })
    ∧ ∀ (g : Grant) (band price : Nat), flowing → 0 < d → d ≤ s.settings.plausibility → r.grant = some g →
      s.PricedAt (s.tariffs.get g.tariff) band price →
      let sum := m.costRemainder + d * price
      let whole := m.costWhole + sum / 1000000
      meterSteps n count s = put { r with
        meter := { m with
          energyTotal := min 4294967295 (m.energyTotal + d)
          bandEnergy := m.bandEnergy.mapIdx fun i e => if i = band then min 4294967295 (e + d) else e
          costWhole := if whole ≤ 4294967295 then whole else 4294967295
          costRemainder := if whole ≤ 4294967295 then sum % 1000000 else 999999 }
        flags := { r.flags with clockUnset := r.flags.clockUnset || s.clock.isNone } } := by
  intro r m flowing d put
  have hd : meterDelta count r.baseline = d := rfl
  have noJump : d ≤ s.settings.plausibility → r.jumps s.settings.plausibility count = false := by
    intro h
    simp only [Session.jumps, hd, Bool.and_eq_false_imp, decide_eq_false_iff_not]
    omega
  rw [meterSteps_eq]
  refine ⟨fun hflow => ?_, fun hflow hzero => ?_, fun hflow hjump => ?_, fun g band price hflow hpos hplaus hg hprice => ?_⟩
  · have hflow : r.state.energyFlow = false := by simpa using fun h => hflow ((SessionState.energyFlow_iff _).1 h)
    rw [State.metered_outsideFlow hflow, Session.jumps_outsideFlow _ hflow]
    rfl
  · have hflow := (SessionState.energyFlow_iff _).2 hflow
    rw [State.metered_still hflow hzero, noJump (by omega)]
    rfl
  · have hflow := (SessionState.energyFlow_iff _).2 hflow
    have hjumps : r.jumps s.settings.plausibility count = true := by
      simp only [Session.jumps, hflow, hd, Bool.true_and, decide_eq_true_eq]
      exact hjump
    rw [State.metered_jump hflow hjump, hjumps]
    rfl
  · have hflow := (SessionState.energyFlow_iff _).2 hflow
    rw [State.metered_accrued hflow hpos hplaus hg (priceNow_eq hprice), noJump hplaus]
    simp only [Meter.accrue, addCost_eq]
    rfl

end Sys2Proof.Machine
end

section
/-! SUPPORT. What the session operations read of the pedestal table: nothing, but for the floor of a grant and the three fields
that put a pedestal out of service. So the last plug state that a reply's link step writes (R153) can be written before them. -/

namespace Sys2Proof.Machine

variable {s : State} {n : Ped} {x : StatusReply} {v : Vector PedestalEntry 16}

/-! ## Operations that do not read the table -/

theorem refuseToken_withTable (v : Vector PedestalEntry 16) (n : Ped) (reason : Byte) (s : State) :
    refuseToken n reason (s.withTable v) = (refuseToken n reason s).withTable v := rfl

theorem enterEnding_withTable (v : Vector PedestalEntry 16) (n : Ped) (why : EndReason) (s : State) :
    enterEnding n why (s.withTable v) = (enterEnding n why s).withTable v := by
  unfold enterEnding
  rw [← putSession_withTable]
  rfl

theorem stopSession_withTable (v : Vector PedestalEntry 16) (n : Ped) (why : EndReason) (s : State) :
    stopSession n why (s.withTable v) = (stopSession n why s).withTable v := by
  unfold stopSession
  rw [State.withTable_session]
  cases (s.session n).state <;> simp only [closeSession_withTable, enterEnding_withTable]

theorem attemptFailed_withTable (v : Vector PedestalEntry 16) (n : Ped) (s : State) :
    attemptFailed n (s.withTable v) = (attemptFailed n s).withTable v := by
  unfold attemptFailed
  simp only []
  rw [apply_ite (State.withTable v), ← closeSession_withTable]
  rfl

theorem energize_withTable (v : Vector PedestalEntry 16) (n : Ped) (count : Nat) (s : State) :
    energize n count (s.withTable v) = (energize n count s).withTable v := by
  unfold energize
  simp only []
  rw [← putSession_withTable]
  rfl

theorem takeComplete_withTable (v : Vector PedestalEntry 16) (n : Ped) (complete : Bool) (s : State) :
    takeComplete n complete (s.withTable v) = (takeComplete n complete s).withTable v := by
  have henter : enterOccupying n (s.withTable v) = (enterOccupying n s).withTable v := by
    unfold enterOccupying
    rw [← putSession_withTable]
    rfl
  unfold takeComplete
  rw [State.withTable_session]
  cases (s.session n).state <;> cases complete <;> simp only [henter, if_true, Bool.false_eq_true, if_false]

theorem takeVehicleRequest_withTable (v : Vector PedestalEntry 16) (n : Ped) (request : Nat) (complete : Bool) (s : State) :
    takeVehicleRequest n request complete (s.withTable v) = (takeVehicleRequest n request complete s).withTable v := by
  have hsuspend : enterSuspended n (s.withTable v) = (enterSuspended n s).withTable v := by
    unfold enterSuspended
    rw [← putSession_withTable]
    rfl
  have hreturn : returnToDispensing n request (s.withTable v) = (returnToDispensing n request s).withTable v := by
    unfold returnToDispensing
    rw [← putSession_withTable]
    rfl
  have halloc : State.setAlloc n { (s.session n).alloc with request := request } (s.withTable v)
      = (State.setAlloc n { (s.session n).alloc with request := request } s).withTable v := rfl
  unfold takeVehicleRequest
  rw [State.withTable_session]
  cases (s.session n).state <;> simp only [hsuspend, hreturn, halloc]
  case dispensing =>
    split
    · split <;> rfl
    · rfl
  case suspended => split <;> rfl
  case occupying => split <;> rfl

theorem takePower_withTable (v : Vector PedestalEntry 16) (n : Ped) (wasEnding : Bool) (power : Nat) (s : State) :
    takePower n wasEnding power (s.withTable v) = (takePower n wasEnding power s).withTable v := by
  unfold takePower
  rw [State.withTable_session, closeSession_withTable]
  split <;> rfl

/-! ## Operations that read a part of it -/

theorem decideSession_withTable (o : Opening) (c : CapturedTerms) (h : (v.get n).floor = (s.entry n).floor) :
    decideSession n o c (s.withTable v) = (decideSession n o c s).withTable v := by
  have hrefer : referSession n o (s.withTable v) = (referSession n o s).withTable v := rfl
  have hline : (s.withTable v).line = s.line := rfl
  unfold decideSession
  rw [hline]
  cases c.mode <;> cases s.line.mode <;>
    simp only [hrefer, cancelSession_withTable, fun o => offerGrant_withTable v n o s h]

theorem acceptToken_withTable (token : Token) (source : TokenSource) (h : (v.get n).floor = (s.entry n).floor) :
    acceptToken n token source (s.withTable v) = (acceptToken n token source s).withTable v := by
  have hreserve : reserveSlot (s.withTable v) = (reserveSlot s).withTable v := rfl
  unfold acceptToken
  simp only []
  rw [hreserve, State.withTable_session, putSession_withTable]
  refine decideSession_withTable _ _ ?_
  simpa using h

theorem offerToken_withTable (token : Token) (source : TokenSource) (h : (v.get n).floor = (s.entry n).floor)
    (ho : (v.get n).outOfService = (s.entry n).outOfService) :
    offerToken n token source (s.withTable v) = (offerToken n token source s).withTable v := by
  have hcheck : acceptanceCheck n token (s.withTable v) = acceptanceCheck n token s := by
    have hentry : ((s.withTable v).entry n).outOfService = (s.entry n).outOfService := ho
    unfold acceptanceCheck
    rw [hentry]
    rfl
  unfold offerToken
  rw [hcheck]
  cases acceptanceCheck n token s with
  | some reason => rfl
  | none => exact acceptToken_withTable token source h

theorem takeToken_withTable (token : Token) (source : TokenSource) (h : (v.get n).floor = (s.entry n).floor)
    (ho : (v.get n).outOfService = (s.entry n).outOfService) :
    takeToken n token source (s.withTable v) = (takeToken n token source s).withTable v := by
  unfold takeToken
  simp only []
  rw [State.withTable_session, offerToken_withTable token source h ho, stopSession_withTable]
  simp only [refuseToken_withTable]
  cases (s.session n).state <;> simp only []
  all_goals split <;> rfl

end Sys2Proof.Machine
end

section
/-! SUPPORT. The steps of a good reply after the plug state (R5, R153), and that they may be taken with the new plug state
already held. -/

namespace Sys2Proof.Machine

variable {s z : State} {n : Ped} {x : StatusReply} {e : PedestalEntry}

/-! ## The steps by name -/

/-- The token step of a reply (R154). -/
def tokenStep (n : Ped) (x : StatusReply) (s : State) : State :=
  match x.presentation with
  | some p => takePresentation n p s
  | none => s

/-- The steps of a reply from the probe result on (R5, R153). -/
def closingSteps (n : Ped) (wasEnding : Bool) (x : StatusReply) (s : State) : State :=
  linkSteps n x.plug (takePower n wasEnding x.power
    (takeVehicleRequest n x.request x.complete (takeComplete n x.complete (takeProbe n x.probe x.meter s))))

/-- The steps of a reply on faults: table and session (R5, R168 to R172). -/
def faultSteps (n : Ped) (x : StatusReply) (s : State) : State := sessionFaults n x (tableFaults n x s)

/-- A good reply by its named steps. -/
theorem takeReply_eq (n : Ped) (x : StatusReply) (s : State) :
    takeReply n x s = closingSteps n ((s.session n).state == .ending) x
      (tokenStep n x (takePlug n x.plug (faultSteps n x (meterSteps n x.meter s)))) := rfl

/-! ## The plug state held beforehand -/

theorem State.pedestals_of_withTable {f : State → State} (h : f (s.withTable s.pedestals) = (f s).withTable s.pedestals) :
    (f s).pedestals = s.pedestals := by
  rw [State.withTable_self] at h
  rw [h]
  rfl

/-- A new entry is a new table. -/
theorem State.setEntry_eq_withTable (s : State) (n : Ped) (e : PedestalEntry) :
    s.setEntry n e = s.withTable (s.pedestals.set n e) := rfl

/-- An operation that reads of the table at most a floor and whether the pedestal is out of service commutes with a new entry
that keeps both. -/
theorem State.setEntry_of_withTable {f : State → State} (s : State) (e : PedestalEntry)
    (hf : ∀ v, (v.get n).floor = (s.entry n).floor → (v.get n).outOfService = (s.entry n).outOfService →
      f (s.withTable v) = (f s).withTable v)
    (hfloor : e.floor = (s.entry n).floor) (hservice : e.outOfService = (s.entry n).outOfService) :
    f (s.setEntry n e) = (f s).setEntry n e := by
  rw [State.setEntry_eq_withTable, hf _ (by rw [get_set_self, hfloor]) (by rw [get_set_self, hservice]),
    State.setEntry_eq_withTable, State.pedestals_of_withTable (hf _ rfl rfl)]

/-- An operation that does not read the table commutes with any new entry. -/
theorem State.setEntry_comm {f : State → State} (s : State) (n : Ped) (e : PedestalEntry)
    (hf : ∀ v, f (s.withTable v) = (f s).withTable v) : f (s.setEntry n e) = (f s).setEntry n e := by
  rw [State.setEntry_eq_withTable, hf, State.setEntry_eq_withTable, State.pedestals_of_withTable (hf _)]

/-- The state with a last plug state in the table. -/
def State.holdPlug (n : Ped) (plug : Bool) (s : State) : State := s.setEntry n { s.entry n with lastPlug := some plug }

/-- Such an operation may be taken with the plug state held. -/
theorem State.holdPlug_of_withTable {f : State → State} (plug : Bool) (s : State)
    (hf : ∀ v, (v.get n).floor = (s.entry n).floor → (v.get n).outOfService = (s.entry n).outOfService →
      f (s.withTable v) = (f s).withTable v) :
    f (s.holdPlug n plug) = (f s).holdPlug n plug := by
  have hkeep : (f s).entry n = s.entry n := by
    rw [State.entry, State.pedestals_of_withTable (hf _ rfl rfl), State.entry]
  unfold State.holdPlug
  rw [hkeep]
  exact State.setEntry_of_withTable s _ hf rfl rfl

theorem State.entry_holdPlug (plug : Bool) : (s.holdPlug n plug).entry n = { s.entry n with lastPlug := some plug } :=
  get_set_self _ _ _

/-- Another field of the entry written with the plug state held. -/
theorem State.holdPlug_setEntry (plug : Bool) (f : PedestalEntry → PedestalEntry)
    (hf : ∀ e, f { e with lastPlug := some plug } = { f e with lastPlug := some plug }) :
    (s.holdPlug n plug).setEntry n (f ((s.holdPlug n plug).entry n)) = (s.setEntry n (f (s.entry n))).holdPlug n plug := by
  rw [State.entry_holdPlug, hf]
  unfold State.holdPlug State.setEntry State.entry
  simp only [vector_set_set, get_set_self]

theorem linkSteps_holdPlug (plug : Bool) : linkSteps n plug (s.holdPlug n plug) = linkSteps n plug s := by
  unfold linkSteps
  simp only [State.entry_holdPlug]
  have : (s.holdPlug n plug).setEntry n { s.entry n with lastPlug := some plug, link := .online }
      = s.setEntry n { s.entry n with lastPlug := some plug, link := .online } := by
    unfold State.holdPlug State.setEntry
    simp only [vector_set_set]
  rw [this]

theorem takeProbe_holdPlug (plug : Bool) (probe : ProbeResult) (count : Nat) (s : State) :
    takeProbe n probe count (s.holdPlug n plug) = (takeProbe n probe count s).holdPlug n plug := by
  have hsession : (s.holdPlug n plug).session n = s.session n := rfl
  unfold takeProbe
  rw [hsession]
  by_cases h : (s.session n).state = .probing
  · rw [if_pos h, if_pos h]
    cases probe with
    | none => rfl
    | openCircuit => exact State.holdPlug_of_withTable plug s fun v _ _ => attemptFailed_withTable v n s
    | short =>
      simp only []
      rw [State.holdPlug_setEntry plug (fun e => { e with blocked := true }) fun _ => rfl]
      exact State.holdPlug_of_withTable plug (latchPed n .probeFault .none (s.setEntry n { s.entry n with blocked := true }))
        fun v _ _ => closeSession_withTable v n .cableShort _
    | matched length =>
      simp only [State.entry_holdPlug]
      split
      · exact State.holdPlug_of_withTable plug s fun v _ _ => energize_withTable v n count s
      · exact State.holdPlug_of_withTable plug s fun v _ _ => closeSession_withTable v n .cableLong s
  · rw [if_neg h, if_neg h]

theorem closingSteps_holdPlug (we : Bool) : closingSteps n we x (s.holdPlug n x.plug) = closingSteps n we x s := by
  unfold closingSteps
  rw [takeProbe_holdPlug,
    State.holdPlug_of_withTable x.plug _ fun v _ _ => takeComplete_withTable v n x.complete _,
    State.holdPlug_of_withTable x.plug _ fun v _ _ => takeVehicleRequest_withTable v n x.request x.complete _,
    State.holdPlug_of_withTable x.plug _ fun v _ _ => takePower_withTable v n we x.power _, linkSteps_holdPlug]

theorem tokenStep_holdPlug (plug : Bool) (s : State) :
    tokenStep n x (s.holdPlug n plug) = (tokenStep n x s).holdPlug n plug := by
  unfold tokenStep
  cases x.presentation with
  | none => rfl
  | some p =>
    simp only [takePresentation]
    have hlast : ((s.holdPlug n plug).entry n).lastPresentation = (s.entry n).lastPresentation := by
      rw [State.entry_holdPlug]
    rw [State.holdPlug_setEntry plug (fun e => { e with lastPresentation := some p.number }) fun _ => rfl, hlast]
    cases (s.entry n).lastPresentation with
    | none => rfl
    | some last =>
      simp only []
      split
      · rfl
      · generalize s.setEntry n { s.entry n with lastPresentation := some p.number } = z
        rw [State.holdPlug_of_withTable plug z fun v _ _ => quietActivity_withTable v z]
        exact State.holdPlug_of_withTable plug (quietActivity z) fun v hf ho => takeToken_withTable p.token p.source hf ho

end Sys2Proof.Machine
end

section
/-! SUPPORT. A quiet reply whole: the entry it leaves, the faults it does not have, the token it does not hand on, and what its
probe result, its vehicle fields and its power then do (R5, R19 to R21, R24, R153, R165 to R167). -/

namespace Sys2Proof.Machine

variable {s z : State} {n : Ped} {x : StatusReply} {e : PedestalEntry} {b : Bool}

/-! ## The entry in the course of a reply -/

/-- The entry after meter count and faults. -/
def PedestalEntry.faulted (e : PedestalEntry) (x : StatusReply) : PedestalEntry := (e.metered x.meter).applyFaults x

/-- The entry after the token step, before the link's. -/
def PedestalEntry.taken (e : PedestalEntry) (x : StatusReply) : PedestalEntry :=
  { e.replied x with lastPlug := e.lastPlug, link := e.link }

theorem State.entry_setEntry (s : State) (n : Ped) (e : PedestalEntry) : (s.setEntry n e).entry n = e := get_set_self _ _ _

theorem State.setEntry_setEntry (s : State) (n : Ped) (e e' : PedestalEntry) :
    (s.setEntry n e).setEntry n e' = s.setEntry n e' := by
  unfold State.setEntry
  simp only [vector_set_set]

/-! ## Faults -/

/-- The fault steps: the table's two fields, the latches and the session's stop. -/
theorem faultSteps_eq (n : Ped) (x : StatusReply) (s : State) :
    faultSteps n x s = (sessionFaults n x { s with conds := s.conds.faulted n x (s.entry n) }).setEntry n
      ((s.entry n).applyFaults x) := by
  have hstop : ∀ (v : Vector PedestalEntry 16) (why : EndReason) (s : State),
      faultStop n why (s.withTable v) = (faultStop n why s).withTable v := by
    intro v why s
    unfold faultStop
    rw [State.withTable_session, stopSession_withTable]
    split <;> rfl
  unfold faultSteps
  rw [tableFaults_eq]
  refine State.setEntry_comm { s with conds := s.conds.faulted n x (s.entry n) } n _ fun v => ?_
  unfold sessionFaults
  simp only [hstop]
  split
  · rfl
  · split <;> rfl

/-- Without faults the fault steps move the e-stop field at most (R171). -/
theorem faultSteps_noFaults (n : Ped) (s : State) (h : x.faults = 0) :
    faultSteps n x s = s.setEntry n ((s.entry n).applyFaults x) := by
  rw [faultSteps_eq]
  simp [sessionFaults, StatusReply.estop, StatusReply.overtemp, StatusReply.converter, h, Conditions.faulted]

/-- Meter and fault steps of a reply without faults. -/
theorem faultSteps_meterSteps (n : Ped) (s : State) (h : x.faults = 0) :
    faultSteps n x (meterSteps n x.meter s) = (meterSteps n x.meter s).setEntry n ((s.entry n).faulted x) := by
  rw [faultSteps_noFaults n _ h, meterSteps_entry, if_pos rfl]
  rfl

/-! ## No token handed on -/

/-- A token step that hands nothing on leaves the entry as the whole reply leaves it, but for plug and link. -/
theorem tokenStep_quiet (z : State) (h : x.NoNewToken e) :
    tokenStep n x (z.setEntry n (e.faulted x)) = z.setEntry n (e.taken x) := by
  have hstep := presentationStep_noNewToken n x (z.setEntry n (e.faulted x)) (by rw [State.entry_setEntry]; exact h)
  rw [State.setEntry_setEntry, State.entry_setEntry] at hstep
  exact hstep

/-! ## Vehicle, power and link -/

/-- The link step of an entry that the earlier steps have brought to `e.taken x`. -/
theorem linkSteps_taken (e : PedestalEntry) (x : StatusReply) (z : State) :
    linkSteps n x.plug (z.setEntry n (e.taken x)) = z.answered n x e :=
  linkSteps_answered n x e (e.taken x) z.pedestals z ⟨z.entry n, (vector_set_get _ _).symm⟩ rfl rfl

/-- The vehicle fields and the power of a reply, as steps. -/
def vehicleSteps (n : Ped) (wasEnding : Bool) (x : StatusReply) (s : State) : State :=
  takePower n wasEnding x.power (takeVehicleRequest n x.request x.complete (takeComplete n x.complete s))

theorem closingSteps_eq (n : Ped) (we : Bool) (x : StatusReply) (s : State) :
    closingSteps n we x s = linkSteps n x.plug (vehicleSteps n we x (takeProbe n x.probe x.meter s)) := rfl

theorem vehicleSteps_withTable (v : Vector PedestalEntry 16) (n : Ped) (we : Bool) (x : StatusReply) (s : State) :
    vehicleSteps n we x (s.withTable v) = (vehicleSteps n we x s).withTable v := by
  unfold vehicleSteps
  rw [takeComplete_withTable, takeVehicleRequest_withTable, takePower_withTable]

/-- Vehicle fields and power of a session that no low power closes. -/
theorem linkSteps_vehicleSteps {we : Bool} (e : PedestalEntry) (x : StatusReply) (z : State)
    (h : we = true → (z.session n).state = .ending → 10 ≤ x.power) :
    linkSteps n x.plug (vehicleSteps n we x (z.setEntry n (e.taken x))) =
      ({ z with records := z.records.set n ((z.session n).driven x z.timebase) } : State).answered n x e := by
  rw [State.setEntry_comm z n _ fun v => vehicleSteps_withTable v n we x z, linkSteps_taken]
  unfold vehicleSteps
  rw [vehicleSteps_eq n we x z h]

/-- A record that no vehicle field moves. -/
theorem Session.driven_idle {r : Session} (now : Point) (h : r.state ≠ .dispensing) (h' : r.state ≠ .suspended)
    (h'' : r.state ≠ .occupying) : r.driven x now = r := by
  unfold Session.driven
  cases hs : r.state <;> simp_all

theorem takeProbe_idle (probe : ProbeResult) (count : Nat) (h : (s.session n).state = .probing → probe = .none) :
    takeProbe n probe count s = s := by
  unfold takeProbe
  by_cases hs : (s.session n).state = .probing
  · rw [if_pos hs, h hs]
  · rw [if_neg hs]

/-- The last steps where neither probe result nor power has a say. -/
theorem closingSteps_undecided {we : Bool} (e : PedestalEntry) (z : State)
    (hprobe : (z.session n).state = .probing → x.probe = .none)
    (hpower : we = true → (z.session n).state = .ending → 10 ≤ x.power) :
    closingSteps n we x (z.setEntry n (e.taken x)) =
      ({ z with records := z.records.set n ((z.session n).driven x z.timebase) } : State).answered n x e := by
  rw [closingSteps_eq, takeProbe_idle _ _ (by exact hprobe), linkSteps_vehicleSteps e x z hpower]

/-- The last steps of a record that they leave alone. -/
theorem closingSteps_idle {we : Bool} (e : PedestalEntry) (z : State)
    (hprobe : (z.session n).state = .probing → x.probe = .none)
    (hpower : we = true → (z.session n).state = .ending → 10 ≤ x.power)
    (hflow : (z.session n).state ≠ .dispensing ∧ (z.session n).state ≠ .suspended ∧ (z.session n).state ≠ .occupying) :
    closingSteps n we x (z.setEntry n (e.taken x)) = z.answered n x e := by
  rw [closingSteps_undecided e z hprobe hpower, Session.driven_idle _ hflow.1 hflow.2.1 hflow.2.2, setSession_same]

/-- A power below the threshold closes a session that was in ENDING (R24). -/
theorem closingSteps_lowPower {why : EndReason} (e : PedestalEntry) (z : State) (hs : (z.session n).state = .ending)
    (hwhy : (z.session n).endReason = some why) (hp : x.power < 10) :
    closingSteps n true x (z.setEntry n (e.taken x)) = (closeSession n why z).answered n x e := by
  have hsteps : vehicleSteps n true x z = closeSession n why z := by
    unfold vehicleSteps
    have hcomplete : takeComplete n x.complete z = z := by simp [takeComplete, hs]
    have hrequest : takeVehicleRequest n x.request x.complete z = z := by simp [takeVehicleRequest, hs]
    have hlow : decide (x.power < Config.endingThreshold) = true := decide_eq_true hp
    rw [hcomplete, hrequest, takePower, hs, hlow, ← closeSession_reason n why .userStop z hwhy]
    exact if_pos rfl
  rw [closingSteps_eq, takeProbe_idle _ _ (by intro h; rw [State.setEntry_session, hs] at h; cases h),
    State.setEntry_comm z n _ fun v => vehicleSteps_withTable v n true x z, linkSteps_taken, hsteps]

/-! ## A reply without faults, without a new token and without a plug change -/

/-- Up to the probe result such a reply moves the entry alone. -/
theorem takeReply_quiet (h : x.Quiet (s.entry n)) (hplug : s.plugWas n = x.plug) (hs : (s.session n).state ≠ .released) :
    takeReply n x s = closingSteps n ((s.session n).state == .ending) x
      ((meterSteps n x.meter s).setEntry n ((s.entry n).taken x)) := by
  obtain ⟨-, hfaults, htoken⟩ := h
  have hwas : (State.setEntry n ((s.entry n).faulted x) (meterSteps n x.meter s)).plugWas n = x.plug := by
    rw [← hplug]
    unfold State.plugWas
    rw [State.entry_setEntry, State.setEntry_session, meterSteps_hasPlug]
    rfl
  rw [takeReply_eq, faultSteps_meterSteps n s hfaults,
    takePlug_unchanged n x.plug _ hwas (by rw [State.setEntry_session, meterSteps_state]; exact hs), tokenStep_quiet _ htoken]

/-- A quiet reply that leaves the session to its vehicle fields. -/
theorem statusReply_driven (hex : s.Exchanging n b) (h : x.Quiet (s.entry n)) (hplug : s.plugWas n = x.plug)
    (hs : ((meterSteps n x.meter s).session n).state ≠ .released)
    (hu : ((meterSteps n x.meter s).session n).Undecided x) :
    exec (.statusReply (x.bytes n)) s = .next (endExchange ⟨n, b, false⟩ (({ meterSteps n x.meter s with
      records := (meterSteps n x.meter s).records.set n (((meterSteps n x.meter s).session n).driven x s.timebase) } :
        State).answered n x (s.entry n))) := by
  rw [statusReply_taken hex h.1, takeReply_quiet h hplug (by simpa using hs),
    closingSteps_undecided _ _ hu.1 fun _ => hu.2, ← meterSteps_timebase (s := s) n x.meter]

/-- Settles O39: the meter count by the cases of `meterSteps_cases`, and a quiet reply by its steps. -/
theorem repliesAccrueEnergyAndCost : Obligations.RepliesAccrueEnergyAndCost := by
  refine ⟨meterSteps_cases, fun s n b x hphase => ⟨fun hfits howed => ?_, fun hquiet howed hplug hs hu => ?_⟩⟩
  · rw [statusReply_stopAllOwed hphase howed hfits, endExchange_stopAll _ (by rw [meterSteps_bus]; exact howed),
      meterSteps_bus]
  · exact statusReply_driven ⟨hphase, howed⟩ hquiet hplug hs hu

end Sys2Proof.Machine
end

section
/-! SUPPORT. Probe results in PROBING and a low power in ENDING (R17, R18, R24, R165, R166, R167, R170). -/

namespace Sys2Proof.Machine

variable {s z z' : State} {n : Ped} {x : StatusReply} {e e' : PedestalEntry} {b : Bool}

/-! ## What a close does not read -/

theorem putSession_setSession (n : Ped) (r r' : Session) (s : State) (h : r'.state = (s.session n).state) :
    putSession n r (s.setSession n r') = putSession n r s := by
  have hset : (s.setSession n r').setSession n r = s.setSession n r := by
    unfold State.setSession
    simp only [vector_set_set]
  unfold putSession
  rw [hset, State.session_setSession_self, h]

theorem joinQueue_setSession (q : SettlementRecord) (n : Ped) (r : Session) (s : State) :
    joinQueue q (s.setSession n r) = (joinQueue q s).setSession n r := by
  unfold joinQueue
  simp only []
  rw [apply_ite (State.setSession n r)]
  rfl

/-- A close does not read the probe deadline. -/
theorem closeSession_probeDeadline (n : Ped) (why : EndReason) (p : Option Point) (s : State) :
    closeSession n why (s.setSession n { s.session n with probeDeadline := p }) = closeSession n why s := by
  have hq : closingRecord n why (s.setSession n { s.session n with probeDeadline := p }) = closingRecord n why s := by
    unfold closingRecord
    rw [State.session_setSession_self]
    cases (s.session n).opening <;> cases (s.session n).grant <;> rfl
  rw [closeSession_eq, closeSession_eq, hq, State.session_setSession_self]
  cases closingRecord n why s with
  | none => exact putSession_setSession n _ _ (latchPed n .sessionClosed .none s) rfl
  | some q =>
    simp only [joinQueue_setSession]
    refine putSession_setSession n _ _ (latchPed n .sessionClosed .none (joinQueue q s)) ?_
    simp

/-! ## The last steps after a probe result -/

/-- After the probe result the vehicle fields are taken in the state that it leaves. -/
theorem closingSteps_probed (h : takeProbe n x.probe x.meter (z.setEntry n (e.taken x)) = z'.setEntry n (e'.taken x)) :
    closingSteps n false x (z.setEntry n (e.taken x)) =
      ({ z' with records := z'.records.set n ((z'.session n).driven x z'.timebase) } : State).answered n x e' := by
  rw [closingSteps_eq, h, linkSteps_vehicleSteps e' x z' (by simp)]

/-- After a probe result that leaves a session out of the energy flow, nothing more happens. -/
theorem closingSteps_probed_idle
    (h : takeProbe n x.probe x.meter (z.setEntry n (e.taken x)) = z'.setEntry n (e'.taken x))
    (hflow : (z'.session n).state.energyFlow = false) :
    closingSteps n false x (z.setEntry n (e.taken x)) = z'.answered n x e' := by
  have hflow := (SessionState.energyFlow_iff _).not.1 (by simpa using hflow)
  simp only [not_or] at hflow
  rw [closingSteps_probed h, Session.driven_idle _ hflow.1 hflow.2.1 hflow.2.2.1, setSession_same]

theorem closeSession_notFlowing (n : Ped) (why : EndReason) (s : State) :
    ((closeSession n why s).session n).state.energyFlow = false := by
  have hopen := closeSession_not_open n why s
  revert hopen
  cases ((closeSession n why s).session n).state <;> simp [SessionState.isOpen, SessionState.energyFlow]

section
variable (hs : (z.session n).state = .probing)
include hs

theorem takeProbe_open (count : Nat) (e : PedestalEntry) :
    takeProbe n .openCircuit count (z.setEntry n e) = (attemptFailed n z).setEntry n e := by
  unfold takeProbe
  rw [State.setEntry_session, if_pos hs]
  exact State.setEntry_comm z n e fun v => attemptFailed_withTable v n z

/-- A SHORT blocks the pedestal and closes the session (R170). -/
theorem takeProbe_short (count : Nat) :
    takeProbe n .short count (z.setEntry n (e.taken x)) =
      (closeSession n .cableShort { z with conds := z.conds.withPed n 6 .none }).setEntry n
        (({ e with blocked := true } : PedestalEntry).taken x) := by
  unfold takeProbe
  rw [State.setEntry_session, if_pos hs]
  simp only [State.entry_setEntry, State.setEntry_setEntry]
  exact State.setEntry_comm (latchPed n .probeFault .none z) n _ fun v => closeSession_withTable v n .cableShort _

theorem takeProbe_long {length : Nat} (count : Nat) (h : 0 < e.maxCable ∧ e.maxCable < length) :
    takeProbe n (.matched length) count (z.setEntry n (e.taken x)) = (closeSession n .cableLong z).setEntry n (e.taken x) := by
  have hfit : cableFits length e.maxCable = false := by
    simp only [cableFits, Bool.or_eq_false_iff, beq_eq_false_iff_ne, decide_eq_false_iff_not]
    omega
  unfold takeProbe
  rw [State.setEntry_session, if_pos hs]
  have hmax : (State.entry (z.setEntry n (e.taken x)) n).maxCable = e.maxCable := by rw [State.entry_setEntry]; rfl
  simp only [hmax, hfit, Bool.false_eq_true, if_false]
  exact State.setEntry_comm z n _ fun v => closeSession_withTable v n .cableLong z

/-- An acceptable MATCH starts DISPENSING (R18, R65, R167). -/
theorem takeProbe_match {length count : Nat} (hbase : (z.session n).baseline = count)
    (h : e.maxCable = 0 ∨ length ≤ e.maxCable) :
    takeProbe n (.matched length) count (z.setEntry n (e.taken x)) =
      ({ z with
        conds := z.conds.withPed n 4 .none
        records := z.records.set n { z.session n with
          state := .dispensing, meter := { (z.session n).meter with startFeeCharged := true },
          energized := some z.stamp, probeDeadline := none, probeSend := false, refusal := none, alloc := {},
          suspendStart := none } } : State).setEntry n (e.taken x) := by
  have hfit : cableFits length e.maxCable = true := by simpa [cableFits] using h
  have hmax : (State.entry (z.setEntry n (e.taken x)) n).maxCable = e.maxCable := by rw [State.entry_setEntry]; rfl
  unfold takeProbe
  rw [State.setEntry_session, if_pos hs]
  simp only [hmax, hfit, if_true]
  rw [State.setEntry_comm z n _ fun v => energize_withTable v n count z]
  congr 1
  unfold energize
  rw [putSession_plain n _ (latchPed n .energized .none z) (by simp [hs]) (by simp [Session.enter])]
  simp only [Session.enter, SessionState.keepsRefusal, latchPed_session, hs, ← hbase]
  rfl

end

theorem meterSteps_stamp (n : Ped) (c : Nat) (s : State) : (meterSteps n c s).stamp = s.stamp := by
  rw [meterSteps_eq]
  rfl

theorem meterSteps_baseline (n : Ped) (c : Nat) (s : State) : ((meterSteps n c s).session n).baseline = c := by
  obtain ⟨m, f, h⟩ := meterSteps_session_self n c s
  rw [h]

/-- A record put in place is read back. -/
theorem State.session_put (s : State) (n : Ped) (r : Session) :
    State.session { s with records := s.records.set n r } n = r := get_set_self _ _ _

/-- Settles O43: the probe results one by one, and the low power in ENDING. -/
theorem repliesProbeEnergizeAndClose : Obligations.RepliesProbeEnergizeAndClose := by
  intro s n b x hex hquiet hplug e w q leaves
  have hsame : q.state = (s.session n).state := meterSteps_state n x.meter
  have htime : w.timebase = s.timebase := meterSteps_timebase n x.meter
  have hstamp : w.stamp = s.stamp := meterSteps_stamp n x.meter s
  have taken : ∀ {we : Bool} {z : State}, q.state ≠ .released → ((s.session n).state == .ending) = we →
      closingSteps n we x (w.setEntry n (e.taken x)) = z →
      exec (.statusReply (x.bytes n)) s = .next (endExchange ⟨n, b, false⟩ z) := by
    rintro we z hs rfl rfl
    rw [statusReply_taken hex hquiet.1, takeReply_quiet hquiet hplug (hsame ▸ hs)]
  refine ⟨fun hs => ?_, fun why hs hwhy hpower => ?_⟩
  · have probed : ∀ {z : State} {e' : PedestalEntry}, takeProbe n x.probe x.meter (w.setEntry n (e.taken x)) = z.setEntry n (e'.taken x) →
        (z.session n).state.energyFlow = false →
        exec (.statusReply (x.bytes n)) s = .next (endExchange ⟨n, b, false⟩ (z.answered n x e')) :=
      fun h hflow => taken (we := false) (by simp [hs]) (by rw [← hsame, hs]; rfl) (closingSteps_probed_idle h hflow)
    refine ⟨fun hprobe hleft => ?_, fun hprobe hnone => ?_, fun hprobe => ?_, fun length hprobe => ⟨fun hmax hlong => ?_, fun hfit => ?_⟩⟩
    · have hagain := attemptFailed_again n w (by rw [meterSteps_settings]; exact hleft)
      refine probed (e' := e) ?_ ?_
      · rw [hprobe, takeProbe_open hs, hagain, ← htime]
      · rw [State.session_put]
        exact congrArg SessionState.energyFlow hs
    · refine probed (e' := e) ?_ (closeSession_notFlowing _ _ _)
      rw [hprobe, takeProbe_open hs, attemptFailed_last n w (by rw [meterSteps_settings]; exact hnone)]
      exact congrArg (State.setEntry n (e.taken x)) (closeSession_probeDeadline n .cableOpen none w)
    · exact probed (by rw [hprobe, takeProbe_short hs]) (closeSession_notFlowing _ _ _)
    · exact probed (by rw [hprobe, takeProbe_long hs _ ⟨hmax, hlong⟩]) (closeSession_notFlowing _ _ _)
    · refine taken (we := false) (by simp [hs]) (by rw [← hsame, hs]; rfl) ?_
      rw [closingSteps_probed (e' := e)
        (by rw [hprobe, takeProbe_match hs (meterSteps_baseline n x.meter s) hfit])]
      rw [← hstamp, ← htime]
      simp only [State.session, get_set_self, vector_set_set]
      rfl
  · exact taken (we := true) (by simp [hs]) (by rw [← hsame, hs]; rfl) (closingSteps_lowPower e w hs hwhy hpower)

end Sys2Proof.Machine
end

section
/-! SUPPORT. The plug step of a reply (R6 to R8, R14, R16, R17, R19 to R21, R24, R27, R28), record state by record state. -/

namespace Sys2Proof.Machine

variable {s z : State} {n : Ped} {x : StatusReply} {e : PedestalEntry} {r : Session} {stop : Option EndReason}

/-! ## The two plug changes, apart from the table -/

/-- The reason for which a plug-in closes a session in AUTHORIZED (R14). -/
def PedestalEntry.plugStop (e : PedestalEntry) : Option EndReason :=
  if e.estop then some .estop else if e.blocked then some .pedestalFault else none

/-- A pedestal flag latched and a record put in place. -/
def State.latchPut (n : Ped) (k : Fin 11) (d : CondData) (r : Session) (s : State) : State :=
  { s with conds := s.conds.withPed n k d, records := s.records.set n r }

/-- A plug-in, with the reason that closes an authorized session. -/
def pluggedIn (n : Ped) (stop : Option EndReason) (s : State) : State :=
  let s := quietActivity (latchPed n .plugIn .none s)
  let s := s.setSession n { s.session n with hasPlug := .yes, refusal := none }
  match (s.session n).state with
  | .free => putSession n ((s.session n).enter .plugged) s
  | .authorized =>
    match stop with
    | some why => closeSession n why s
    | none => enterProbing n s
  | .plugged | .authorizing | .probing | .dispensing | .suspended | .occupying | .ending | .released => s

/-- A plug-out. -/
def pluggedOut (n : Ped) (s : State) : State :=
  let s := latchPed n .plugOut .none s
  reactPlugOut n (s.setSession n { s.session n with hasPlug := .no, refusal := none })

theorem pluggedIn_withTable (v : Vector PedestalEntry 16) (n : Ped) (stop : Option EndReason) (s : State) :
    pluggedIn n stop (s.withTable v) = (pluggedIn n stop s).withTable v := by
  unfold pluggedIn
  simp only []
  rw [latchPed_withTable, quietActivity_withTable]
  generalize quietActivity (latchPed n .plugIn .none s) = z
  have hset : State.setSession n { (z.withTable v).session n with hasPlug := .yes, refusal := none } (z.withTable v)
      = (State.setSession n { z.session n with hasPlug := .yes, refusal := none } z).withTable v := rfl
  rw [hset]
  generalize State.setSession n { z.session n with hasPlug := .yes, refusal := none } z = z
  rw [State.withTable_session, putSession_withTable]
  cases (z.session n).state <;> simp only []
  case authorized => cases stop <;> simp only [closeSession_withTable, enterProbing_withTable]

theorem pluggedOut_withTable (v : Vector PedestalEntry 16) (n : Ped) (s : State) :
    pluggedOut n (s.withTable v) = (pluggedOut n s).withTable v := by
  unfold pluggedOut reactPlugOut
  simp only []
  have hset : State.setSession n { (latchPed n .plugOut .none (s.withTable v)).session n with hasPlug := .no, refusal := none }
        (latchPed n .plugOut .none (s.withTable v))
      = (State.setSession n { (latchPed n .plugOut .none s).session n with hasPlug := .no, refusal := none }
          (latchPed n .plugOut .none s)).withTable v := rfl
  rw [hset]
  generalize State.setSession n { (latchPed n .plugOut .none s).session n with hasPlug := .no, refusal := none }
    (latchPed n .plugOut .none s) = z
  rw [State.withTable_session, putSession_withTable, stopSession_withTable]
  cases (z.session n).state <;> rfl

/-! ## The plug step is one of them -/

theorem plugWas_setEntry (n : Ped) (e : PedestalEntry) (s : State) (h : e.lastPlug = (s.entry n).lastPlug) :
    (s.setEntry n e).plugWas n = s.plugWas n := by
  unfold State.plugWas
  rw [State.entry_setEntry, h, State.setEntry_session]

theorem takePlug_in (z : State) (h : (z.setEntry n e).plugWas n = false) :
    takePlug n true (z.setEntry n e) = (pluggedIn n e.plugStop z).setEntry n e := by
  have htable : takePlug n true (z.setEntry n e) = pluggedIn n e.plugStop (z.setEntry n e) := by
    unfold takePlug pluggedIn reactPlugIn PedestalEntry.plugStop
    rw [State.plugBefore_eq_plugWas, h]
    simp only [Bool.not_false, Bool.and_self, if_true]
    have hentry : State.entry (State.setSession n
        { (quietActivity (latchPed n .plugIn .none (z.setEntry n e))).session n with hasPlug := .yes, refusal := none }
        (quietActivity (latchPed n .plugIn .none (z.setEntry n e)))) n = e := by
      rw [State.setSession_entry, quietActivity_eq]
      split <;> exact State.entry_setEntry z n e
    rw [hentry]
    cases e.estop <;> cases e.blocked <;> rfl
  rw [htable, State.setEntry_comm z n e fun v => pluggedIn_withTable v n _ z]

theorem takePlug_out (z : State) (h : (z.setEntry n e).plugWas n = true) :
    takePlug n false (z.setEntry n e) = (pluggedOut n z).setEntry n e := by
  rw [← State.setEntry_comm z n e fun v => pluggedOut_withTable v n z]
  unfold takePlug pluggedOut
  rw [State.plugBefore_eq_plugWas, h]
  rfl

/-- The plug of a RELEASED record that has not changed (R27, R28). -/
theorem takePlug_released (plug : Bool) (h : s.plugWas n = plug) (hs : (s.session n).state = .released) :
    takePlug n plug s =
      if plug then s.setSession n { s.session n with hasPlug := .yes } else putSession n (s.session n).toFree s := by
  unfold takePlug
  rw [State.plugBefore_eq_plugWas, h]
  cases plug <;> simp [hs]

/-! ## A plug-in, record state by record state -/

theorem quietActivity_busy (h : (s.session n).state ≠ .free) : quietActivity s = s := by
  rw [quietActivity_eq, if_neg fun hall => h (hall n)]

/-- Waking the bus twice is waking it once. -/
theorem quietActivity_wokenBus (s : State) : (quietActivity s).wokenBus = s.wokenBus := by
  rw [quietActivity_eq]
  split
  · simp [State.wokenBus]
  · rfl

theorem State.latchPut_session (n : Ped) (k : Fin 11) (d : CondData) (r : Session) (s : State) :
    (s.latchPut n k d r).session n = r := get_set_self _ _ _

/-- Of two records put in the same place the second stays. -/
theorem State.latchPut_put (n : Ped) (k : Fin 11) (d : CondData) (r r' : Session) (s : State) :
    ({ s.latchPut n k d r with records := (s.latchPut n k d r).records.set n r' } : State) = s.latchPut n k d r' := by
  unfold State.latchPut
  simp only [vector_set_set]

theorem State.latchPut_freedBus (n : Ped) (k : Fin 11) (d : CondData) (r : Session) (s : State) :
    (s.latchPut n k d r).freedBus n = s.freedBus n := by
  have hothers : (∀ m, m ≠ n → ((s.latchPut n k d r).session m).state = .free) ↔ ∀ m, m ≠ n → (s.session m).state = .free := by
    refine forall₂_congr fun m hm => ?_
    have : (s.latchPut n k d r).session m = s.session m := get_set_ne _ hm _
    rw [this]
  unfold State.freedBus
  exact if_congr hothers rfl rfl

theorem pluggedIn_free (hs : (s.session n).state = .free) :
    pluggedIn n stop s = (s.latchPut n 0 .none { s.session n with
      hasPlug := .yes, refusal := none, state := .plugged, alloc := {}, suspendStart := none }).withBus s.wokenBus := by
  have hwoken : (quietActivity (latchPed n .plugIn .none s)).wokenBus = s.wokenBus := quietActivity_wokenBus _
  have hquiet : ∃ b, quietActivity (latchPed n .plugIn .none s) = { latchPed n .plugIn .none s with bus := b } := by
    rw [quietActivity_eq]
    split <;> exact ⟨_, rfl⟩
  obtain ⟨b, hb⟩ := hquiet
  unfold pluggedIn
  simp only []
  generalize quietActivity (latchPed n .plugIn .none s) = z at hwoken hb ⊢
  have hsession : z.session n = s.session n := by
    rw [hb]
    rfl
  rw [State.session_setSession_self]
  simp only [hsession, hs]
  rw [putSession_leavingFree n _ _ (by rw [State.session_setSession_self]) (by simp [Session.enter])]
  have hbus : ∀ r, (State.setSession n r z).wokenBus = s.wokenBus := fun _ => hwoken
  rw [hbus, State.setSession_records, vector_set_set, hb]
  rfl

section
variable (hs : (s.session n).state ≠ .free)
include hs

theorem pluggedIn_stopped {why : EndReason} (ha : (s.session n).state = .authorized) :
    pluggedIn n (some why) s =
      closeSession n why (s.latchPut n 0 .none { s.session n with hasPlug := .yes, refusal := none }) := by
  unfold pluggedIn
  rw [quietActivity_busy (s := latchPed n .plugIn .none s) hs]
  simp only [State.session_setSession_self, latchPed_session, ha]
  rfl

theorem pluggedIn_probed (ha : (s.session n).state = .authorized) :
    pluggedIn n none s = s.latchPut n 0 .none
      (Session.probed { s.session n with hasPlug := .yes, refusal := none } (s.timebase + 5000)) := by
  unfold pluggedIn
  rw [quietActivity_busy (s := latchPed n .plugIn .none s) hs]
  simp only [State.session_setSession_self, latchPed_session, ha]
  rw [enterProbing_eq n _ (by rw [State.session_setSession_self]; simp [ha]), State.session_setSession_self]
  simp only [State.setSession_records, vector_set_set]
  rfl

theorem pluggedIn_kept (ha : (s.session n).state ≠ .authorized) :
    pluggedIn n stop s = s.latchPut n 0 .none { s.session n with hasPlug := .yes, refusal := none } := by
  unfold pluggedIn
  rw [quietActivity_busy (s := latchPed n .plugIn .none s) hs]
  simp only [State.session_setSession_self, latchPed_session]
  cases hst : (s.session n).state <;> first | exact absurd hst hs | exact absurd hst ha | rfl

end

/-! ## A plug-out, record state by record state -/

theorem pluggedOut_freed (hs : (s.session n).state = .plugged ∨ (s.session n).state = .released) :
    pluggedOut n s = (s.latchPut n 1 .none { baseline := (s.session n).baseline }).withBus (s.freedBus n) := by
  have hfree : (s.session n).state ≠ .free := by rcases hs with hs | hs <;> simp [hs]
  have hreact : pluggedOut n s = putSession n { baseline := (s.session n).baseline }
      (s.latchPut n 1 .none { s.session n with hasPlug := .no, refusal := none }) := by
    unfold pluggedOut reactPlugOut
    simp only [State.session_setSession_self, latchPed_session]
    rcases hs with hs | hs <;> simp only [hs] <;> rfl
  rw [hreact, putSession_free n _ _ (by rw [State.latchPut_session]; exact hfree) rfl, State.latchPut_freedBus]
  exact congrArg (State.withBus (s.freedBus n)) (State.latchPut_put n 1 .none _ _ s)

theorem pluggedOut_closed (hs : (s.session n).state = .probing) :
    pluggedOut n s =
      closeSession n .vehicleUnplug (s.latchPut n 1 .none { s.session n with hasPlug := .no, refusal := none }) := by
  unfold pluggedOut reactPlugOut stopSession
  simp only [State.session_setSession_self, latchPed_session, hs]
  rfl

theorem pluggedOut_ended
    (hs : (s.session n).state = .dispensing ∨ (s.session n).state = .suspended ∨ (s.session n).state = .occupying) :
    pluggedOut n s = s.latchPut n 1 .none (Session.ended { s.session n with hasPlug := .no, refusal := none } .vehicleUnplug
      (s.timebase + 1000 * s.settings.endingTimeout)) := by
  have hreact : pluggedOut n s = stopSession n .vehicleUnplug
      (s.latchPut n 1 .none { s.session n with hasPlug := .no, refusal := none }) := by
    unfold pluggedOut reactPlugOut
    simp only [State.session_setSession_self, latchPed_session]
    rcases hs with hs | hs | hs <;> simp only [hs] <;> rfl
  rw [hreact, stopSession_flow n _ _ (by rw [State.latchPut_session]; exact hs), State.latchPut_session, State.latchPut_put]
  rfl

theorem pluggedOut_kept (hs : (s.session n).state = .free ∨ (s.session n).state = .authorizing
      ∨ (s.session n).state = .authorized ∨ (s.session n).state = .ending) :
    pluggedOut n s = s.latchPut n 1 .none { s.session n with hasPlug := .no, refusal := none } := by
  unfold pluggedOut reactPlugOut
  simp only [State.session_setSession_self, latchPed_session]
  rcases hs with hs | hs | hs | hs <;> simp only [hs] <;> rfl

end Sys2Proof.Machine
end

section
/-! SUPPORT. The meter steps of a reply may be taken before or after what plug, faults and tokens do to the session (R5, R55). -/

namespace Sys2Proof.Machine

variable {s z : State} {n : Ped} {x : StatusReply} {e : PedestalEntry} {r : Session} {stop : Option EndReason} {c : Nat}

/-! ## A record's new contents, whole -/

/-- The bus once the record of a pedestal has taken a state (R151). -/
def State.movedBus (n : Ped) (st : SessionState) (s : State) : Bus :=
  if (s.session n).state = .free then (if st = .free then s.bus else s.wokenBus)
  else if st = .free then s.freedBus n else s.bus

theorem putSession_moved (n : Ped) (r : Session) (s : State) :
    putSession n r s = { s with records := s.records.set n r, bus := s.movedBus n r.state } := by
  unfold State.movedBus
  by_cases hs : (s.session n).state = .free
  · by_cases hr : r.state = .free
    · rw [if_pos hs, if_pos hr]
      simp [putSession, hs, hr, State.setSession]
    · rw [if_pos hs, if_neg hr, putSession_leavingFree n r s hs hr]
  · by_cases hr : r.state = .free
    · rw [if_neg hs, if_pos hr, putSession_free n r s hs hr]
    · rw [if_neg hs, if_neg hr, putSession_plain n r s hs hr]

/-! ## The baseline -/

/-- The state with a baseline written. -/
def State.based (n : Ped) (c : Nat) (s : State) : State := s.setSession n { s.session n with baseline := c }

theorem State.based_session (n : Ped) (c : Nat) (s : State) : (s.based n c).session n = { s.session n with baseline := c } :=
  get_set_self _ _ _

theorem putSession_based (n : Ped) (r : Session) (s : State) :
    (putSession n r s).based n c = putSession n { r with baseline := c } s := by
  rw [putSession_moved, putSession_moved]
  unfold State.based State.setSession
  simp only [State.session, get_set_self, vector_set_set]

theorem Session.toClosed_based (r : Session) :
    Session.toClosed { r with baseline := c } = { Session.toClosed r with baseline := c } := by
  unfold Session.toClosed
  split <;> rfl

/-- A close neither reads nor moves the baseline. -/
theorem closeSession_based (n : Ped) (why : EndReason) (s : State) :
    closeSession n why (s.based n c) = (closeSession n why s).based n c := by
  have hq : closingRecord n why (s.based n c) = closingRecord n why s := by
    unfold closingRecord
    rw [State.based_session]
    cases (s.session n).opening <;> cases (s.session n).grant <;> rfl
  rw [closeSession_eq, closeSession_eq, hq, State.based_session, putSession_based, ← Session.toClosed_based]
  unfold State.based
  cases closingRecord n why s with
  | none => exact putSession_setSession n _ _ (latchPed n .sessionClosed .none s) rfl
  | some q =>
    simp only [joinQueue_setSession]
    refine putSession_setSession n _ _ (latchPed n .sessionClosed .none (joinQueue q s)) ?_
    simp

/-- Outside the energy-flow states the meter steps write the entry and the baseline. -/
theorem meterSteps_based (n : Ped) (c : Nat) (s : State) (h : (s.session n).state.energyFlow = false) :
    meterSteps n c s = (s.based n c).setEntry n ((s.entry n).metered c) := meterSteps_outsideFlow n c s h

theorem meterSteps_setEntry (n : Ped) (c : Nat) (e : PedestalEntry) (s : State) :
    meterSteps n c (s.setEntry n e) = (meterSteps n c s).setEntry n (e.metered c) := by
  rw [meterSteps_eq, meterSteps_eq n c s, State.entry_setEntry]
  unfold State.setEntry
  simp only [vector_set_set]
  rfl

/-- An operation that does not read the table and commutes with a new baseline commutes with the meter steps outside the
energy-flow states. -/
theorem meterSteps_comm {f : State → State} (hf : ∀ v s, f (s.withTable v) = (f s).withTable v)
    (hs : (s.session n).state.energyFlow = false) (hfs : ((f s).session n).state.energyFlow = false)
    (hbase : f (s.based n c) = (f s).based n c) : f (meterSteps n c s) = meterSteps n c (f s) := by
  have hkeep : (f s).entry n = s.entry n := by
    rw [State.entry, State.pedestals_of_withTable (hf _ _), State.entry]
  rw [meterSteps_based n c s hs, meterSteps_based n c (f s) hfs, State.setEntry_comm _ n _ fun v => hf v _, hbase, hkeep]

/-! ## Inside the energy-flow states -/

/-- The latch of METER-JUMP and that of another flag come to the same in either order. -/
theorem Conditions.jumped_withPed (n : Ped) (jump : Bool) {k : Fin 11} (hk : k ≠ 10) (d : CondData) (c : Conditions) :
    (c.withPed n k d).jumped n jump = (c.jumped n jump).withPed n k d := by
  unfold Conditions.jumped
  split
  · have hk : (k : Nat) ≠ (10 : Fin 11) := fun h => hk (Fin.ext h)
    simp only [Conditions.withPed, vector_set_set, get_set_self]
    rw [Vector.set_comm _ _ hk]
  · rfl

/-- What an accrual reads of a record, and in which record it writes. -/
theorem State.accrued_congr {r r' : Session} (s : State) (d : Nat) (hgrant : r'.grant = r.grant) (hmeter : r'.meter = r.meter)
    (hflags : r'.flags = r.flags) :
    s.accrued d r' = { r' with meter := (s.accrued d r).meter, flags := (s.accrued d r).flags } := by
  cases r'
  simp only [] at hgrant hmeter hflags
  subst hgrant hmeter hflags
  unfold State.accrued
  cases r.grant with
  | none => rfl
  | some g =>
    unfold Session.accrueDelta
    simp only []
    split
    · rfl
    · cases priceNow s.clock (s.tariffOf g) <;> rfl

/-- What the Metering Unit reads of a record, and in which record it writes. -/
theorem State.metered_congr {r r' : Session} (s : State) (c : Nat) (hflow : r'.state.energyFlow = r.state.energyFlow)
    (hbase : r'.baseline = r.baseline) (hgrant : r'.grant = r.grant) (hmeter : r'.meter = r.meter) (hflags : r'.flags = r.flags) :
    s.metered c r' = { r' with baseline := c, meter := (s.metered c r).meter, flags := (s.metered c r).flags } := by
  unfold State.metered
  rw [hflow, hbase]
  generalize meterDelta c r.baseline = d
  by_cases h : r.state.energyFlow = true
  · rw [if_pos h, if_pos h]
    by_cases hd : d ≤ s.settings.plausibility
    · rw [if_pos hd, if_pos hd, s.accrued_congr d hgrant hmeter hflags]
    · rw [if_neg hd, if_neg hd, hmeter, hflags]
  · rw [if_neg h, if_neg h, ← hmeter, ← hflags]

/-- The meter steps after conditions and a record that keeps what they read. -/
theorem meterSteps_put {r : Session} (conds : Conditions) (n : Ped) (c : Nat) (s : State)
    (hflow : r.state.energyFlow = (s.session n).state.energyFlow) (hbase : r.baseline = (s.session n).baseline)
    (hgrant : r.grant = (s.session n).grant) (hmeter : r.meter = (s.session n).meter)
    (hflags : r.flags = (s.session n).flags) :
    meterSteps n c { s with conds := conds, records := s.records.set n r } = { meterSteps n c s with
      conds := conds.jumped n ((s.session n).jumps s.settings.plausibility c)
      records := (meterSteps n c s).records.set n { r with
        baseline := c, meter := ((meterSteps n c s).session n).meter, flags := ((meterSteps n c s).session n).flags } } := by
  have hsession : (meterSteps n c s).session n = s.metered c (s.session n) := by
    rw [meterSteps_eq]
    exact get_set_self _ _ _
  have hjumps : r.jumps s.settings.plausibility c = (s.session n).jumps s.settings.plausibility c := by
    unfold Session.jumps
    rw [hflow, hbase]
  have hput : State.session { s with conds := conds, records := s.records.set n r } n = r := get_set_self _ _ _
  have hm : State.metered { s with conds := conds, records := s.records.set n r } c r = s.metered c r := rfl
  rw [hsession, meterSteps_eq, hput, meterSteps_eq n c s, hm, s.metered_congr c hflow hbase hgrant hmeter hflags, hjumps]
  simp only [vector_set_set]
  rfl

theorem meterSteps_conds (n : Ped) (c : Nat) (s : State) :
    (meterSteps n c s).conds = s.conds.jumped n ((s.session n).jumps s.settings.plausibility c) := by
  rw [meterSteps_eq]

/-- The meter steps after a latch and a record that keeps what they read. -/
theorem meterSteps_latchPut {r : Session} {k : Fin 11} (hk : k ≠ 10) (d : CondData) (n : Ped) (c : Nat) (s : State)
    (hflow : r.state.energyFlow = (s.session n).state.energyFlow) (hbase : r.baseline = (s.session n).baseline)
    (hgrant : r.grant = (s.session n).grant) (hmeter : r.meter = (s.session n).meter)
    (hflags : r.flags = (s.session n).flags) :
    meterSteps n c (s.latchPut n k d r) = (meterSteps n c s).latchPut n k d { r with
      baseline := c, meter := ((meterSteps n c s).session n).meter, flags := ((meterSteps n c s).session n).flags } := by
  have hput := meterSteps_put (s.conds.withPed n k d) n c s hflow hbase hgrant hmeter hflags
  rw [Conditions.jumped_withPed n _ hk, ← meterSteps_conds] at hput
  exact hput

end Sys2Proof.Machine
end

section
/-! SUPPORT. A plug change beside a reply's other fields: it may be taken before the reply (R5, R6). -/

namespace Sys2Proof.Machine

variable {s z : State} {n : Ped} {x : StatusReply} {e : PedestalEntry} {stop : Option EndReason} {c : Nat} {b : Bool}

/-! ## Plug and meter -/

theorem State.latchPut_based (n : Ped) (k : Fin 11) (d : CondData) (r : Session) (s : State) :
    (s.latchPut n k d r).based n c = s.latchPut n k d { r with baseline := c } := by
  rw [State.based, State.latchPut_session]
  exact State.latchPut_put n k d r _ s

/-- What is put after a baseline was written replaces it. -/
theorem State.based_latchPut (n : Ped) (k : Fin 11) (d : CondData) (r : Session) (s : State) :
    (s.based n c).latchPut n k d r = s.latchPut n k d r := by
  unfold State.latchPut State.based State.setSession
  simp only [vector_set_set]

theorem State.based_freedBus (n : Ped) (s : State) : (s.based n c).freedBus n = s.freedBus n := by
  have hothers : (∀ m, m ≠ n → ((s.based n c).session m).state = .free) ↔ ∀ m, m ≠ n → (s.session m).state = .free := by
    refine forall₂_congr fun m hm => ?_
    have : (s.based n c).session m = s.session m := get_set_ne _ hm _
    rw [this]
  unfold State.freedBus
  exact if_congr hothers rfl rfl

/-- The bus has no say in a baseline. -/
theorem State.withBus_based (b : Bus) (s : State) : (s.withBus b).based n c = (s.based n c).withBus b := rfl

/-- A plug-in outside the energy-flow states and a new baseline. -/
theorem pluggedIn_based (hs : (s.session n).state.energyFlow = false) :
    pluggedIn n stop (s.based n c) = (pluggedIn n stop s).based n c
      ∧ ((pluggedIn n stop s).session n).state.energyFlow = false := by
  have hsession := s.based_session n c
  by_cases hfree : (s.session n).state = .free
  · rw [pluggedIn_free hfree, pluggedIn_free (by rw [hsession]; exact hfree), State.withBus_based, State.latchPut_based,
      State.based_latchPut, hsession]
    exact ⟨rfl, congrArg (fun r : Session => r.state.energyFlow) (s.latchPut_session n 0 .none _)⟩
  · by_cases ha : (s.session n).state = .authorized
    · cases stop with
      | some why =>
        rw [pluggedIn_stopped hfree ha, pluggedIn_stopped (by rw [hsession]; exact hfree) (by rw [hsession]; exact ha),
          ← closeSession_based, State.latchPut_based, State.based_latchPut, hsession]
        exact ⟨rfl, closeSession_notFlowing _ _ _⟩
      | none =>
        rw [pluggedIn_probed hfree ha, pluggedIn_probed (by rw [hsession]; exact hfree) (by rw [hsession]; exact ha),
          State.latchPut_based, State.based_latchPut, hsession, State.latchPut_session]
        exact ⟨rfl, rfl⟩
    · rw [pluggedIn_kept hfree ha, pluggedIn_kept (by rw [hsession]; exact hfree) (by rw [hsession]; exact ha),
        State.latchPut_based, State.based_latchPut, hsession, State.latchPut_session]
      exact ⟨rfl, hs⟩

theorem pluggedIn_meterSteps (n : Ped) (stop : Option EndReason) (c : Nat) (s : State) :
    pluggedIn n stop (meterSteps n c s) = meterSteps n c (pluggedIn n stop s) := by
  by_cases hflow : (s.session n).state.energyFlow = true
  · have hfree : (s.session n).state ≠ .free := by intro h; rw [h] at hflow; cases hflow
    have ha : (s.session n).state ≠ .authorized := by intro h; rw [h] at hflow; cases hflow
    rw [pluggedIn_kept hfree ha, pluggedIn_kept (by rwa [meterSteps_state]) (by rwa [meterSteps_state])]
    refine Eq.trans ?_ (meterSteps_latchPut (k := 0) (by decide) _ n c s (by rfl) (by rfl) (by rfl) (by rfl) (by rfl)).symm
    obtain ⟨m, f, h⟩ := meterSteps_session_self n c s
    rw [h]
  · have hflow : (s.session n).state.energyFlow = false := by simpa using hflow
    obtain ⟨hbase, hstill⟩ := pluggedIn_based (stop := stop) (c := c) hflow
    exact meterSteps_comm (fun v s => pluggedIn_withTable v n stop s) hflow hstill hbase

/-- A plug-out outside the energy-flow states and a new baseline. -/
theorem pluggedOut_based (hs : (s.session n).state.energyFlow = false) :
    pluggedOut n (s.based n c) = (pluggedOut n s).based n c
      ∧ ((pluggedOut n s).session n).state.energyFlow = false := by
  have hsession := s.based_session n c
  have freed : (s.session n).state = .plugged ∨ (s.session n).state = .released →
      pluggedOut n (s.based n c) = (pluggedOut n s).based n c ∧ ((pluggedOut n s).session n).state.energyFlow = false := fun h => by
    rw [pluggedOut_freed h, pluggedOut_freed (s := s.based n c) (by rw [hsession]; exact h), State.withBus_based,
      State.latchPut_based, State.based_latchPut, hsession, State.based_freedBus]
    exact ⟨rfl, congrArg (fun r : Session => r.state.energyFlow) (s.latchPut_session n 1 .none _)⟩
  have kept : (s.session n).state = .free ∨ (s.session n).state = .authorizing ∨ (s.session n).state = .authorized
        ∨ (s.session n).state = .ending →
      pluggedOut n (s.based n c) = (pluggedOut n s).based n c ∧ ((pluggedOut n s).session n).state.energyFlow = false := fun h => by
    rw [pluggedOut_kept h, pluggedOut_kept (s := s.based n c) (by rw [hsession]; exact h), State.latchPut_based,
      State.based_latchPut, hsession, State.latchPut_session]
    exact ⟨rfl, hs⟩
  cases hst : (s.session n).state
  case free => exact kept (.inl hst)
  case plugged => exact freed (.inl hst)
  case authorizing => exact kept (.inr (.inl hst))
  case authorized => exact kept (.inr (.inr (.inl hst)))
  case probing =>
    rw [pluggedOut_closed hst, pluggedOut_closed (s := s.based n c) (by rw [hsession]; exact hst), ← closeSession_based,
      State.latchPut_based, State.based_latchPut, hsession]
    exact ⟨rfl, closeSession_notFlowing _ _ _⟩
  case released => exact freed (.inr hst)
  all_goals rw [hst] at hs; cases hs

theorem pluggedOut_meterSteps (n : Ped) (c : Nat) (s : State) :
    pluggedOut n (meterSteps n c s) = meterSteps n c (pluggedOut n s) := by
  by_cases hflow : (s.session n).state.energyFlow = true
  · obtain ⟨m, f, h⟩ := meterSteps_session_self n c s
    have hst := (SessionState.energyFlow_iff _).1 hflow
    by_cases hend : (s.session n).state = .ending
    · rw [pluggedOut_kept (.inr (.inr (.inr hend))), pluggedOut_kept (.inr (.inr (.inr (by rwa [meterSteps_state]))))]
      refine Eq.trans ?_ (meterSteps_latchPut (k := 1) (by decide) _ n c s (by rfl) (by rfl) (by rfl) (by rfl) (by rfl)).symm
      rw [h]
    · have hst : (s.session n).state = .dispensing ∨ (s.session n).state = .suspended ∨ (s.session n).state = .occupying := by
        simpa [hend] using hst
      rw [pluggedOut_ended hst, pluggedOut_ended (by rwa [meterSteps_state]), meterSteps_timebase, meterSteps_settings]
      refine Eq.trans ?_
        (meterSteps_latchPut (k := 1) (by decide) _ n c s (by exact hflow.symm) (by rfl) (by rfl) (by rfl) (by rfl)).symm
      rw [h]
      rfl
  · have hflow : (s.session n).state.energyFlow = false := by simpa using hflow
    obtain ⟨hbase, hstill⟩ := pluggedOut_based (c := c) hflow
    exact meterSteps_comm (fun v s => pluggedOut_withTable v n s) hflow hstill hbase

end Sys2Proof.Machine
end

section
/-! SUPPORT. The plug of a reply: its outcome beside quiet fields, and that it may be taken before the others (R5 to R8, R14, R17, R24,
R27, R28). -/

namespace Sys2Proof.Machine

variable {s z : State} {n : Ped} {x : StatusReply} {e : PedestalEntry} {stop : Option EndReason} {c : Nat} {b : Bool}

/-! ## A RELEASED record without a plug change -/

/-- A RELEASED record takes the plug, or becomes FREE without one (R27, R28). -/
def pluggedStill (n : Ped) (plug : Bool) (s : State) : State :=
  if plug then s.setSession n { s.session n with hasPlug := .yes } else putSession n (s.session n).toFree s

theorem pluggedStill_withTable (v : Vector PedestalEntry 16) (n : Ped) (plug : Bool) (s : State) :
    pluggedStill n plug (s.withTable v) = (pluggedStill n plug s).withTable v := by
  unfold pluggedStill
  rw [State.withTable_session, putSession_withTable]
  cases plug <;> rfl

theorem pluggedStill_plug (n : Ped) (s : State) :
    pluggedStill n true s = { s with records := s.records.set n { s.session n with hasPlug := .yes } } := rfl

theorem pluggedStill_freed (hs : (s.session n).state = .released) :
    pluggedStill n false s = { s with
      records := s.records.set n { baseline := (s.session n).baseline }, bus := s.freedBus n } :=
  putSession_free n _ s (by simp [hs]) rfl

theorem takePlug_still (z : State) (plug : Bool) (h : (z.setEntry n e).plugWas n = plug)
    (hs : (z.session n).state = .released) : takePlug n plug (z.setEntry n e) = (pluggedStill n plug z).setEntry n e := by
  rw [takePlug_released plug h (by rw [State.setEntry_session]; exact hs)]
  exact State.setEntry_comm z n e fun v => pluggedStill_withTable v n plug z

theorem pluggedStill_meterSteps (plug : Bool) (hs : (s.session n).state = .released) :
    pluggedStill n plug (meterSteps n c s) = meterSteps n c (pluggedStill n plug s) := by
  have hsession := s.based_session n c
  have hbased : (pluggedStill n plug (s.based n c) = (pluggedStill n plug s).based n c)
      ∧ ((pluggedStill n plug s).session n).state.energyFlow = false := by
    cases plug with
    | true =>
      rw [pluggedStill_plug, pluggedStill_plug, hsession]
      refine ⟨?_, by rw [State.session_put]; simp only [hs]; rfl⟩
      unfold State.based State.setSession
      simp only [State.session, get_set_self, vector_set_set]
    | false =>
      rw [pluggedStill_freed hs, pluggedStill_freed (by rw [hsession]; exact hs), hsession, State.based_freedBus]
      refine ⟨?_, congrArg (fun r : Session => r.state.energyFlow) (get_set_self _ _ _)⟩
      unfold State.based State.setSession
      simp only [State.session, get_set_self, vector_set_set]
  exact meterSteps_comm (fun v s => pluggedStill_withTable v n plug s) (by rw [hs]; rfl) hbased.2 hbased.1

/-! ## A plug state already held -/

/-- A plug state as it was is without effect, but that a RELEASED record takes it. -/
theorem takePlug_same (plug : Bool) (z : State) (hwas : z.plugWas n = plug)
    (h : (z.session n).state = .released → plug = true ∧ (z.session n).hasPlug = .yes) : takePlug n plug z = z := by
  by_cases hs : (z.session n).state = .released
  · obtain ⟨rfl, hp⟩ := h hs
    rw [takePlug_released true hwas hs, if_pos rfl]
    have : ({ z.session n with hasPlug := .yes } : Session) = z.session n := by
      rw [← hp]
    rw [this]
    exact setSession_same z n
  · exact takePlug_unchanged n plug _ hwas hs

/-- A held plug state is taken without effect, but that a RELEASED record takes it. -/
theorem takePlug_held (plug : Bool) (z : State)
    (h : (z.session n).state = .released → plug = true ∧ (z.session n).hasPlug = .yes) :
    takePlug n plug (z.holdPlug n plug) = z.holdPlug n plug := by
  refine takePlug_same plug _ ?_ h
  unfold State.plugWas
  rw [State.entry_holdPlug]

/-- Where the present power has no say, it may be another. -/
theorem closingSteps_power {we we' : Bool} {p : Nat} (z : State) (h : we = true → we' = true ∧ p = x.power)
    (h' : we = false → 10 ≤ p) : closingSteps n we x z = closingSteps n we' { x with power := p } z := by
  cases we with
  | true =>
    obtain ⟨rfl, rfl⟩ := h rfl
    rfl
  | false =>
    have hlow : decide (p < Config.endingThreshold) = false := decide_eq_false (Nat.not_lt.2 (h' rfl))
    unfold closingSteps takePower
    simp only [hlow, Bool.and_false, Bool.false_and]

/-! ## The plug taken first -/

/-- A reply without faults, where `P` is what its plug does: the reply does what it does once `P` has been done. -/
theorem takeReply_reduced {P : State → State} (hfaults : x.faults = 0)
    (hplug : takePlug n x.plug ((meterSteps n x.meter s).setEntry n ((s.entry n).faulted x))
      = (P (meterSteps n x.meter s)).setEntry n ((s.entry n).faulted x))
    (hmeter : P (meterSteps n x.meter s) = meterSteps n x.meter (P s))
    (hreleased : ((P s).session n).state = .released → x.plug = true ∧ ((P s).session n).hasPlug = .yes)
    (hending : (s.session n).state = .ending → ((P s).session n).state = .ending) :
    takeReply n x s = takeReply n (x.withoutEndingPower (s.session n))
      ((P s).setEntry n { s.entry n with lastPlug := some x.plug }) := by
  have hheld : faultSteps n (x.withoutEndingPower (s.session n)) (meterSteps n x.meter
        ((P s).setEntry n { s.entry n with lastPlug := some x.plug }))
      = ((meterSteps n x.meter (P s)).setEntry n ((s.entry n).faulted x)).holdPlug n x.plug := by
    rw [meterSteps_setEntry, faultSteps_noFaults n _ (by exact hfaults), State.entry_setEntry, State.setEntry_setEntry,
      State.holdPlug,
      State.entry_setEntry, State.setEntry_setEntry]
    rfl
  have hpower : ∀ we z, (we = true ↔ (s.session n).state = .ending) →
      closingSteps n we x z
        = closingSteps n (((P s).session n).state == .ending) (x.withoutEndingPower (s.session n)) z := by
    intro we z hwe
    refine closingSteps_power z (fun h => ?_) fun h => ?_
    · have hs := hwe.1 h
      exact ⟨by simp [hending hs], by rw [if_pos hs]⟩
    · have hs : (s.session n).state ≠ .ending := fun hs => by simp [hwe.2 hs] at h
      rw [if_neg hs]
      exact Nat.le_max_left _ _
  rw [takeReply_eq, takeReply_eq, faultSteps_meterSteps n s hfaults, hplug, hmeter]
  refine (hpower _ _ (by simp)).trans ?_
  show _ = closingSteps n _ (x.withoutEndingPower (s.session n)) (tokenStep n x (takePlug n x.plug
    (faultSteps n (x.withoutEndingPower (s.session n)) (meterSteps n x.meter
      ((P s).setEntry n { s.entry n with lastPlug := some x.plug })))))
  rw [hheld, takePlug_held, tokenStep_holdPlug]
  · exact (closingSteps_holdPlug (x := x.withoutEndingPower (s.session n)) _).symm
  · simpa using hreleased

/-! ## The turn on the bus -/

/-- What a record's new contents do to the bus leaves exchange and owed STOP-ALL alone. -/
theorem State.movedBus_turn (n : Ped) (st : SessionState) (s : State) :
    (s.movedBus n st).phase = s.bus.phase ∧ (s.movedBus n st).stopAllOwed = s.bus.stopAllOwed := by
  unfold State.movedBus State.freedBus State.wokenBus State.quietBus
  split
  · split <;> exact ⟨rfl, rfl⟩
  · split
    · split <;> exact ⟨rfl, rfl⟩
    · exact ⟨rfl, rfl⟩

theorem putSession_exchanging (r : Session) (h : s.Exchanging n b) : (putSession n r s).Exchanging n b := by
  obtain ⟨hphase, howed⟩ := h
  obtain ⟨hphase', howed'⟩ := s.movedBus_turn n r.state
  rw [putSession_moved]
  exact ⟨hphase'.trans hphase, howed'.trans howed⟩

theorem closeSession_exchanging (why : EndReason) (h : s.Exchanging n b) : (closeSession n why s).Exchanging n b := by
  rw [closeSession_eq]
  refine putSession_exchanging _ ?_
  cases closingRecord n why s with
  | none => exact h
  | some q => rcases joinQueue_eq q s with hq | hq <;> simp only [hq] <;> exact h

theorem quietActivity_exchanging (h : s.Exchanging n b) : (quietActivity s).Exchanging n b := by
  rw [quietActivity_eq]
  split <;> exact h

theorem pluggedIn_exchanging (h : s.Exchanging n b) : (pluggedIn n stop s).Exchanging n b := by
  have hquiet : (quietActivity (latchPed n .plugIn .none s)).Exchanging n b := quietActivity_exchanging h
  unfold pluggedIn
  simp only []
  generalize quietActivity (latchPed n .plugIn .none s) = z at hquiet ⊢
  have hput : (State.setSession n { z.session n with hasPlug := .yes, refusal := none } z).Exchanging n b := hquiet
  generalize State.setSession n { z.session n with hasPlug := .yes, refusal := none } z = u at hput ⊢
  cases (u.session n).state <;> simp only []
  case free => exact putSession_exchanging _ hput
  case authorized =>
    cases stop with
    | some why => exact closeSession_exchanging why hput
    | none =>
      unfold enterProbing startAttempt
      exact putSession_exchanging _ hput
  all_goals exact hput

theorem enterEnding_exchanging (why : EndReason) (h : s.Exchanging n b) : (enterEnding n why s).Exchanging n b := by
  rw [enterEnding_eq_put]
  exact putSession_exchanging _ h

theorem stopSession_exchanging (why : EndReason) (h : s.Exchanging n b) : (stopSession n why s).Exchanging n b := by
  unfold stopSession
  cases (s.session n).state <;> simp only []
  case authorized => exact closeSession_exchanging why h
  case probing => exact closeSession_exchanging why h
  case dispensing => exact enterEnding_exchanging why h
  case suspended => exact enterEnding_exchanging why h
  case occupying => exact enterEnding_exchanging why h
  all_goals exact h

theorem pluggedOut_exchanging (h : s.Exchanging n b) : (pluggedOut n s).Exchanging n b := by
  unfold pluggedOut reactPlugOut
  have hput : (State.setSession n { (latchPed n .plugOut .none s).session n with hasPlug := .no, refusal := none }
    (latchPed n .plugOut .none s)).Exchanging n b := h
  simp only []
  generalize State.setSession n { (latchPed n .plugOut .none s).session n with hasPlug := .no, refusal := none }
    (latchPed n .plugOut .none s) = u at hput ⊢
  cases (u.session n).state <;> simp only []
  case plugged => exact putSession_exchanging _ hput
  case released => exact putSession_exchanging _ hput
  case probing => exact stopSession_exchanging _ hput
  case dispensing => exact stopSession_exchanging _ hput
  case suspended => exact stopSession_exchanging _ hput
  case occupying => exact stopSession_exchanging _ hput
  all_goals exact hput

/-! ## What the plug leaves of the record -/

theorem pluggedIn_hasPlug (n : Ped) (stop : Option EndReason) (s : State) :
    ((pluggedIn n stop s).session n).hasPlug = .yes := by
  by_cases hfree : (s.session n).state = .free
  · rw [pluggedIn_free hfree]
    exact congrArg Session.hasPlug (s.latchPut_session n 0 .none _)
  · by_cases ha : (s.session n).state = .authorized
    · cases stop with
      | some why =>
        rw [pluggedIn_stopped hfree ha, closeSession_session_self, State.latchPut_session]
        rfl
      | none =>
        rw [pluggedIn_probed hfree ha, State.latchPut_session]
        rfl
    · rw [pluggedIn_kept hfree ha, State.latchPut_session]

theorem pluggedIn_ending (hs : (s.session n).state = .ending) : ((pluggedIn n stop s).session n).state = .ending := by
  rw [pluggedIn_kept (by simp [hs]) (by simp [hs]), State.latchPut_session]
  exact hs

theorem pluggedOut_ending (hs : (s.session n).state = .ending) : ((pluggedOut n s).session n).state = .ending := by
  rw [pluggedOut_kept (.inr (.inr (.inr hs))), State.latchPut_session]
  exact hs

theorem pluggedOut_notReleased (n : Ped) (s : State) : ((pluggedOut n s).session n).state ≠ .released := by
  have kept : (s.session n).state = .free ∨ (s.session n).state = .authorizing ∨ (s.session n).state = .authorized
      ∨ (s.session n).state = .ending → ((pluggedOut n s).session n).state ≠ .released := fun h => by
    rw [pluggedOut_kept h, State.latchPut_session]
    rcases h with h | h | h | h <;> simp [h]
  have freed : (s.session n).state = .plugged ∨ (s.session n).state = .released →
      ((pluggedOut n s).session n).state ≠ .released := fun h => by
    rw [pluggedOut_freed h]
    exact (congrArg Session.state (s.latchPut_session n 1 .none _)).trans_ne (by simp)
  have ended : (s.session n).state = .dispensing ∨ (s.session n).state = .suspended ∨ (s.session n).state = .occupying →
      ((pluggedOut n s).session n).state ≠ .released := fun h => by
    rw [pluggedOut_ended h, State.latchPut_session]
    simp [Session.ended]
  cases hst : (s.session n).state
  case free => exact kept (.inl hst)
  case plugged => exact freed (.inl hst)
  case authorizing => exact kept (.inr (.inl hst))
  case authorized => exact kept (.inr (.inr (.inl hst)))
  case probing =>
    rw [pluggedOut_closed hst, closeSession_session_self, State.latchPut_session]
    simp [Session.toClosed, Session.toFree]
  case dispensing => exact ended (.inl hst)
  case suspended => exact ended (.inr (.inl hst))
  case occupying => exact ended (.inr (.inr hst))
  case ending => exact kept (.inr (.inr (.inr hst)))
  case released => exact freed (.inr hst)

/-! ## The command reduced -/

theorem StatusReply.withoutEndingPower_fits (r : Session) (h : x.fits = true) : (x.withoutEndingPower r).fits = true := by
  unfold StatusReply.fits at h ⊢
  simp only [Bool.and_eq_true, decide_eq_true_eq] at h ⊢
  obtain ⟨⟨⟨hrequest, hpower⟩, hmeter⟩, hlength⟩ := h
  refine ⟨⟨⟨hrequest, ?_⟩, hmeter⟩, hlength⟩
  unfold StatusReply.withoutEndingPower
  simp only []
  split
  · exact hpower
  · exact max_le (by norm_num) hpower

theorem State.plugWas_meterSteps (n : Ped) (x : StatusReply) (s : State) :
    (State.setEntry n ((s.entry n).faulted x) (meterSteps n x.meter s)).plugWas n = s.plugWas n := by
  unfold State.plugWas
  rw [State.entry_setEntry, State.setEntry_session, meterSteps_hasPlug]
  rfl

section
variable (hex : s.Exchanging n b) (hfits : x.fits = true) (hfaults : x.faults = 0)
include hex hfits hfaults

/-- A plug-in taken before the reply that reports it. -/
theorem statusReply_pluggedIn (hwas : s.plugWas n = false) (hplug : x.plug = true) :
    exec (.statusReply (x.bytes n)) s = exec (.statusReply ((x.withoutEndingPower (s.session n)).bytes n))
      ((pluggedIn n ((s.entry n).faulted x).plugStop s).setEntry n { s.entry n with lastPlug := some x.plug }) := by
  rw [statusReply_taken hex hfits,
    statusReply_taken (by exact pluggedIn_exchanging hex) (StatusReply.withoutEndingPower_fits _ hfits)]
  rw [takeReply_reduced (P := pluggedIn n ((s.entry n).faulted x).plugStop) hfaults
    (by rw [hplug]; exact takePlug_in _ (by rw [State.plugWas_meterSteps, hwas])) (pluggedIn_meterSteps _ _ _ _)
    (fun _ => ⟨hplug, pluggedIn_hasPlug _ _ _⟩) pluggedIn_ending]

/-- A plug-out taken before the reply that reports it. -/
theorem statusReply_pluggedOut (hwas : s.plugWas n = true) (hplug : x.plug = false) :
    exec (.statusReply (x.bytes n)) s = exec (.statusReply ((x.withoutEndingPower (s.session n)).bytes n))
      ((pluggedOut n s).setEntry n { s.entry n with lastPlug := some x.plug }) := by
  rw [statusReply_taken hex hfits,
    statusReply_taken (by exact pluggedOut_exchanging hex) (StatusReply.withoutEndingPower_fits _ hfits)]
  rw [takeReply_reduced (P := pluggedOut n) hfaults
    (by rw [hplug]; exact takePlug_out _ (by rw [State.plugWas_meterSteps, hwas])) (pluggedOut_meterSteps _ _ _)
    (fun h => absurd h (pluggedOut_notReleased n s)) pluggedOut_ending]

/-- The plug of a RELEASED record taken before the reply that repeats it. -/
theorem statusReply_pluggedStill (hwas : s.plugWas n = x.plug) (hs : (s.session n).state = .released) :
    exec (.statusReply (x.bytes n)) s = exec (.statusReply ((x.withoutEndingPower (s.session n)).bytes n))
      ((pluggedStill n x.plug s).setEntry n { s.entry n with lastPlug := some x.plug }) := by
  have hturn : (pluggedStill n x.plug s).Exchanging n b := by
    unfold pluggedStill
    split
    · exact hex
    · exact putSession_exchanging _ hex
  have hreleased : ((pluggedStill n x.plug s).session n).state = .released →
      x.plug = true ∧ ((pluggedStill n x.plug s).session n).hasPlug = .yes := by
    cases x.plug with
    | true => exact fun _ => ⟨rfl, congrArg Session.hasPlug (s.session_put n _)⟩
    | false =>
      rw [pluggedStill_freed hs]
      exact fun h => absurd ((congrArg Session.state (get_set_self s.records n _)).symm.trans h) (by simp)
  rw [statusReply_taken hex hfits, statusReply_taken (by exact hturn) (StatusReply.withoutEndingPower_fits _ hfits)]
  rw [takeReply_reduced (P := pluggedStill n x.plug) hfaults
    (takePlug_still _ x.plug (by rw [State.plugWas_meterSteps, hwas]) (by rw [meterSteps_state]; exact hs))
    (pluggedStill_meterSteps x.plug hs) hreleased (fun h => by rw [hs] at h; cases h)]

end

end Sys2Proof.Machine
end

section
/-! SUPPORT. O42: the plug of a reply beside quiet fields, and before the others. -/

namespace Sys2Proof.Machine

variable {s z : State} {n : Ped} {x : StatusReply} {e : PedestalEntry} {stop : Option EndReason} {b : Bool}

/-! ## Why a plug-in closes an authorized session (R14) -/

theorem PedestalEntry.faulted_noFaults (e : PedestalEntry) (h : x.faults = 0) :
    (e.faulted x).estop = (e.estop && !x.released) ∧ (e.faulted x).blocked = e.blocked := by
  simp [PedestalEntry.faulted, PedestalEntry.metered, PedestalEntry.applyFaults, StatusReply.estop, StatusReply.isolation, h]

theorem plugStop_estop (h : x.faults = 0) (ha : e.estop = true ∧ x.released = false) :
    (e.faulted x).plugStop = some .estop := by
  obtain ⟨hestop, -⟩ := e.faulted_noFaults h
  simp [PedestalEntry.plugStop, hestop, ha]

theorem plugStop_blocked (h : x.faults = 0) (ha : ¬ (e.estop = true ∧ x.released = false)) (hb : e.blocked = true) :
    (e.faulted x).plugStop = some .pedestalFault := by
  obtain ⟨hestop, hblocked⟩ := e.faulted_noFaults h
  simp [PedestalEntry.plugStop, hestop, hblocked, ha, hb]

theorem plugStop_none (h : x.faults = 0) (ha : ¬ (e.estop = true ∧ x.released = false)) (hb : e.blocked = false) :
    (e.faulted x).plugStop = none := by
  obtain ⟨hestop, hblocked⟩ := e.faulted_noFaults h
  simp [PedestalEntry.plugStop, hestop, hblocked, ha, hb]

/-! ## After the plug, the last steps -/

/-- The last steps leave a record alone that is neither in PROBING nor in an energy-flow state. -/
theorem closingSteps_resting {we : Bool} {r : Session} (e : PedestalEntry) (z : State) (hz : z.session n = r)
    (hs : r.state ≠ .probing) (hflow : r.state.energyFlow = false) :
    closingSteps n we x (z.setEntry n (e.taken x)) = z.answered n x e := by
  subst hz
  have hflow := (SessionState.energyFlow_iff _).not.1 (by simpa using hflow)
  simp only [not_or] at hflow
  exact closingSteps_idle e z (fun h => absurd h hs) (fun _ h => absurd h hflow.2.2.2) ⟨hflow.1, hflow.2.1, hflow.2.2.1⟩

theorem closingSteps_closed {we : Bool} (e : PedestalEntry) (why : EndReason) (z : State) :
    closingSteps n we x ((closeSession n why z).setEntry n (e.taken x)) = (closeSession n why z).answered n x e := by
  refine closingSteps_resting e _ rfl (fun h => ?_) (closeSession_notFlowing n why z)
  have hopen := closeSession_not_open n why z
  rw [h] at hopen
  cases hopen

/-- The last steps after a latch and a record put in place. -/
theorem closingSteps_latchPut {we : Bool} {r : Session} {k : Fin 11} {d : CondData} (e : PedestalEntry) (z : State)
    (hprobe : r.state = .probing → x.probe = .none) (hpower : we = true → r.state = .ending → 10 ≤ x.power) :
    closingSteps n we x ((z.latchPut n k d r).setEntry n (e.taken x)) =
      (z.latchPut n k d (r.driven x z.timebase)).answered n x e := by
  have hz := z.latchPut_session n k d r
  rw [closingSteps_undecided e _ (by rwa [hz]) (by rwa [hz]), hz, State.latchPut_put]
  rfl

/-- A close leaves the table to be written. -/
theorem closeSession_setEntry (n : Ped) (why : EndReason) (e : PedestalEntry) (z : State) :
    (closeSession n why z).setEntry n e = { closeSession n why z with pedestals := z.pedestals.set n e } :=
  (State.setEntry_comm z n e fun v => closeSession_withTable v n why z).symm.trans
    (closeSession_withTable (z.pedestals.set n e) n why z)

theorem closingSteps_withBus {we : Bool} {r : Session} {k : Fin 11} {d : CondData} {bus : Bus} (e : PedestalEntry) (z : State)
    (hs : r.state ≠ .probing) (hflow : r.state.energyFlow = false) :
    closingSteps n we x (((z.latchPut n k d r).withBus bus).setEntry n (e.taken x)) =
      ((z.latchPut n k d r).withBus bus).answered n x e :=
  closingSteps_resting e _ (z.latchPut_session n k d r) hs hflow

theorem meterSteps_wokenBus (n : Ped) (c : Nat) (s : State) : (meterSteps n c s).wokenBus = s.wokenBus := by
  rw [meterSteps_eq]
  rfl

theorem meterSteps_freedBus (n : Ped) (c : Nat) (s : State) : (meterSteps n c s).freedBus n = s.freedBus n := by
  have hothers : (∀ m, m ≠ n → ((meterSteps n c s).session m).state = .free) ↔ ∀ m, m ≠ n → (s.session m).state = .free :=
    forall₂_congr fun m hm => by rw [meterSteps_session_ne hm]
  have hquiet : (meterSteps n c s).quietBus = s.quietBus := by
    rw [meterSteps_eq]
    rfl
  unfold State.freedBus
  rw [hquiet, meterSteps_bus]
  exact if_congr hothers rfl rfl

/-- A reply that hands no token on, once `P` has been done for its plug. -/
theorem statusReply_plug {P : State → State} (hex : s.Exchanging n b) (hquiet : x.Quiet (s.entry n))
    (hplug : takePlug n x.plug ((meterSteps n x.meter s).setEntry n ((s.entry n).faulted x))
      = (P (meterSteps n x.meter s)).setEntry n ((s.entry n).faulted x)) :
    exec (.statusReply (x.bytes n)) s = .next (endExchange ⟨n, b, false⟩
      (closingSteps n ((s.session n).state == .ending) x ((P (meterSteps n x.meter s)).setEntry n ((s.entry n).taken x)))) := by
  obtain ⟨hfits, hfaults, htoken⟩ := hquiet
  rw [statusReply_taken hex hfits, takeReply_eq, faultSteps_meterSteps n s hfaults, hplug, tokenStep_quiet _ htoken]

/-- The first part of O42: a plug change, or the plug of a RELEASED record, in a reply that hands no token on. -/
theorem plugChanges_quiet (s : State) (n : Ped) (b : Bool) (x : StatusReply) (hex : s.Exchanging n b)
    (hquiet : x.Quiet (s.entry n)) :
      let e := s.entry n
      let w := meterSteps n x.meter s
      let q := w.session n
      let st := q.state
      let leaves := fun (z : State) =>
        exec (.statusReply (x.bytes n)) s = .next (endExchange ⟨n, b, false⟩ (z.answered n x e))
      (s.plugWas n = false → x.plug = true →
        let r : Session := { q with hasPlug := .yes, refusal := none }
        let put := fun (r' : Session) =>
          ({ w with conds := w.conds.withPed n 0 .none, records := w.records.set n r' } : State)
        let active := e.estop = true ∧ x.released = false
        (st = .free → leaves { put { r with state := .plugged, alloc := {}, suspendStart := none } with bus := s.wokenBus })
        ∧ (st = .authorized → active → leaves (closeSession n .estop (put r)))
        ∧ (st = .authorized → ¬ active → e.blocked = true → leaves (closeSession n .pedestalFault (put r)))
        ∧ (st = .authorized → ¬ active → e.blocked = false → x.probe = .none → leaves (put
            { r with
              state := .probing, alloc := {}, suspendStart := none, plugDeadline := none, authDeadline := none,
              probeAttempts := 1, probeSend := true, probeDeadline := some (s.timebase + 5000) }))
        ∧ (st ≠ .free → st ≠ .authorized → q.Undecided x → leaves (put (r.driven x s.timebase))))
      ∧ (s.plugWas n = true → x.plug = false →
        let r : Session := { q with hasPlug := .no, refusal := none }
        let put := fun (r' : Session) =>
          ({ w with conds := w.conds.withPed n 1 .none, records := w.records.set n r' } : State)
        ((st = .plugged ∨ st = .released) → leaves { put { baseline := x.meter } with bus := s.freedBus n })
        ∧ (st = .probing → leaves (closeSession n .vehicleUnplug (put r)))
        ∧ ((st = .dispensing ∨ st = .suspended ∨ st = .occupying) →
          leaves (put (r.ended .vehicleUnplug (s.timebase + 1000 * s.settings.endingTimeout))))
        ∧ ((st = .free ∨ st = .authorizing ∨ st = .authorized ∨ (st = .ending ∧ 10 ≤ x.power)) → leaves (put r)))
      ∧ (s.plugWas n = x.plug → st = .released →
        (x.plug = true → leaves { w with records := w.records.set n { q with hasPlug := .yes } })
        ∧ (x.plug = false → leaves { w with bus := s.freedBus n, records := w.records.set n { baseline := x.meter } })) := by
  intro e w q st leaves
  have hfaults : x.faults = 0 := hquiet.2.1
  have htime : w.timebase = s.timebase := meterSteps_timebase n x.meter
  have hbase : q.baseline = x.meter := meterSteps_baseline n x.meter s
  have hstate : st = (s.session n).state := meterSteps_state n x.meter
  refine ⟨fun hwas hplug => ?_, fun hwas hplug => ?_, fun hwas hs => ?_⟩
  · have reply := statusReply_plug (P := pluggedIn n (e.faulted x).plugStop) hex hquiet
      (by rw [hplug]; exact takePlug_in _ (by rw [State.plugWas_meterSteps, hwas]))
    intro r put active
    refine ⟨fun hs => ?_, fun hs ha => ?_, fun hs ha hb => ?_, fun hs ha hb hprobe => ?_, fun hfree hs hu => ?_⟩
    · refine reply.trans ?_
      rw [pluggedIn_free hs, meterSteps_wokenBus, closingSteps_withBus e w (by simp) (by rfl)]
      rfl
    · refine reply.trans ?_
      rw [plugStop_estop hfaults ha, pluggedIn_stopped (hs.trans_ne (by decide)) hs, closingSteps_closed]
      rfl
    · refine reply.trans ?_
      rw [plugStop_blocked hfaults ha hb, pluggedIn_stopped (hs.trans_ne (by decide)) hs, closingSteps_closed]
      rfl
    · refine reply.trans ?_
      rw [plugStop_none hfaults ha hb, pluggedIn_probed (hs.trans_ne (by decide)) hs,
        closingSteps_latchPut e w (fun _ => hprobe) (fun _ h => by cases h), ← htime,
        Session.driven_idle _ (by simp [Session.probed]) (by simp [Session.probed]) (by simp [Session.probed])]
      rfl
    · refine reply.trans ?_
      rw [pluggedIn_kept hfree hs, closingSteps_latchPut e w (by exact hu.1) (by exact fun _ => hu.2), ← htime]
      rfl
  · have reply := statusReply_plug (P := pluggedOut n) hex hquiet
      (by rw [hplug]; exact takePlug_out _ (by rw [State.plugWas_meterSteps, hwas]))
    intro r put
    refine ⟨fun hs => ?_, fun hs => ?_, fun hs => ?_, fun hs => ?_⟩
    · refine reply.trans ?_
      rw [pluggedOut_freed hs, meterSteps_freedBus, closingSteps_withBus e w (by simp) (by rfl),
        meterSteps_baseline]
      rfl
    · refine reply.trans ?_
      rw [pluggedOut_closed hs, closingSteps_closed]
      rfl
    · refine reply.trans ?_
      have hwe : ((s.session n).state == .ending) = false := by
        rw [← hstate]
        rcases hs with hs | hs | hs <;> rw [hs] <;> rfl
      rw [hwe, pluggedOut_ended hs, closingSteps_latchPut e w (fun h => by cases h) (fun h => by cases h), ← htime,
        meterSteps_settings, Session.driven_idle _ (by simp [Session.ended]) (by simp [Session.ended]) (by simp [Session.ended])]
      rfl
    · refine reply.trans ?_
      have hkept : st = .free ∨ st = .authorizing ∨ st = .authorized ∨ st = .ending := by tauto
      have hstill : Session.driven r x w.timebase = r := by
        refine Session.driven_idle _ ?_ ?_ ?_ <;> rcases hkept with h | h | h | h <;> exact h.trans_ne (by decide)
      rw [pluggedOut_kept hkept, closingSteps_latchPut e w (fun h => ?_) (fun _ h => ?_)]
      · exact congrArg (fun r => Host.Outcome.next (endExchange ⟨n, b, false⟩ (State.answered n x e (w.latchPut n 1 .none r))))
          hstill
      · rcases hkept with h' | h' | h' | h' <;> cases h'.symm.trans h
      · rcases hs with h' | h' | h' | ⟨-, hp⟩
        · cases h'.symm.trans h
        · cases h'.symm.trans h
        · cases h'.symm.trans h
        · exact hp
  · have reply := statusReply_plug (P := pluggedStill n x.plug) hex hquiet
      (takePlug_still _ x.plug (by rw [State.plugWas_meterSteps, hwas]) hs)
    refine ⟨fun hplug => ?_, fun hplug => ?_⟩
    · refine reply.trans (congrArg (fun z => Host.Outcome.next (endExchange ⟨n, b, false⟩ z)) ?_)
      rw [hplug, pluggedStill_plug]
      exact closingSteps_resting e _ (w.session_put n _) (hs.trans_ne (by decide)) (congrArg SessionState.energyFlow hs)
    · refine reply.trans (congrArg (fun z => Host.Outcome.next (endExchange ⟨n, b, false⟩ z)) ?_)
      rw [hplug, pluggedStill_freed hs, meterSteps_freedBus, meterSteps_baseline]
      exact closingSteps_resting (r := { baseline := x.meter }) e _ (get_set_self w.records n _) (by simp) rfl

/-- Settles O42: the plug step state by state, and the plug step taken before the reply. -/
theorem plugChangesMoveTheRecord : Obligations.PlugChangesMoveTheRecord := by
  refine ⟨plugChanges_quiet, fun s n b x hex hfits hfaults => ?_⟩
  intro e r st y reduces
  refine ⟨fun hwas hplug => ?_, fun hwas hplug => ?_, fun hwas hs => ?_⟩
  · have reply := statusReply_pluggedIn hex hfits hfaults hwas hplug
    intro q put active
    refine ⟨fun hs => ?_, fun hs ha => ?_, fun hs ha hb => ?_, fun hs ha hb => ?_, fun hfree hs => ?_⟩
    all_goals refine reply.trans (congrArg (fun z => exec (.statusReply (y.bytes n)) z) ?_)
    · rw [pluggedIn_free hs]
      rfl
    · rw [plugStop_estop hfaults ha, pluggedIn_stopped (hs.trans_ne (by decide)) hs]
      exact closeSession_setEntry n .estop _ (put q)
    · rw [plugStop_blocked hfaults ha hb, pluggedIn_stopped (hs.trans_ne (by decide)) hs]
      exact closeSession_setEntry n .pedestalFault _ (put q)
    · rw [plugStop_none hfaults ha hb, pluggedIn_probed (hs.trans_ne (by decide)) hs]
      rfl
    · rw [pluggedIn_kept hfree hs]
      rfl
  · have reply := statusReply_pluggedOut hex hfits hfaults hwas hplug
    intro q put
    refine ⟨fun hs => ?_, fun hs => ?_, fun hs => ?_, fun hs => ?_⟩
    all_goals refine reply.trans (congrArg (fun z => exec (.statusReply (y.bytes n)) z) ?_)
    · rw [pluggedOut_freed hs]
      rfl
    · rw [pluggedOut_closed hs]
      exact closeSession_setEntry n .vehicleUnplug _ (put q)
    · rw [pluggedOut_ended hs]
      rfl
    · rw [pluggedOut_kept hs]
      rfl
  · have reply := statusReply_pluggedStill hex hfits hfaults hwas hs
    refine ⟨fun hplug => ?_, fun hplug => ?_⟩
    all_goals refine reply.trans (congrArg (fun z => exec (.statusReply (y.bytes n)) z) ?_)
    · rw [hplug, pluggedStill_plug]
      rfl
    · rw [hplug, pluggedStill_freed hs]
      rfl

end Sys2Proof.Machine
end

section
/-! SUPPORT. The faults of a reply: table, latches and the session's stop, taken before its other fields (R5, R14, R17, R19 to R21, R24,
R168 to R172). -/

namespace Sys2Proof.Machine

variable {s z : State} {n : Ped} {x : StatusReply} {e : PedestalEntry} {c : Nat} {b : Bool} {why : EndReason}

/-! ## The reason of a fault -/

/-- The reason for which the faults of a reply stop the session, if they do (R172; notes/assumptions/10.md). -/
def StatusReply.faultReason (x : StatusReply) : Option EndReason :=
  if x.estop && (!(x.overtemp || x.converter) || Config.estopTakenFirst x.faults) then some .estop
  else if x.overtemp || x.converter then some .pedestalFault
  else none

/-- The session's part of the faults, by their reason. -/
def faultsTaken (n : Ped) (reason : Option EndReason) (s : State) : State :=
  match reason with
  | some why => faultStop n why s
  | none => s

theorem sessionFaults_eq (n : Ped) (x : StatusReply) (s : State) : sessionFaults n x s = faultsTaken n x.faultReason s := by
  unfold sessionFaults faultsTaken StatusReply.faultReason
  simp only []
  split
  · rfl
  · split <;> rfl

theorem faultReason_none (h : ¬ x.faults.getLsbD 0 = true)
    (h' : ¬ (x.faults.getLsbD 1 = true ∨ x.faults.getLsbD 3 = true)) : x.faultReason = none := by
  simp only [not_or, Bool.not_eq_true] at h h'
  unfold StatusReply.faultReason StatusReply.estop StatusReply.overtemp StatusReply.converter
  rw [h, h'.1, h'.2]
  rfl

/-- The reason is that of the fault, and one of the two where ESTOP stands beside another. -/
theorem faultReason_some (h : x.faults.getLsbD 0 = true ∨ (x.faults.getLsbD 1 = true ∨ x.faults.getLsbD 3 = true)) :
    ∃ why, x.faultReason = some why
      ∧ (x.faults.getLsbD 0 = true → ¬ (x.faults.getLsbD 1 = true ∨ x.faults.getLsbD 3 = true) → why = .estop)
      ∧ (¬ x.faults.getLsbD 0 = true → (x.faults.getLsbD 1 = true ∨ x.faults.getLsbD 3 = true) → why = .pedestalFault)
      ∧ (why = .estop ∨ why = .pedestalFault) := by
  unfold StatusReply.faultReason StatusReply.estop StatusReply.overtemp StatusReply.converter
  generalize Config.estopTakenFirst x.faults = first
  generalize x.faults.getLsbD 0 = estop at *
  generalize x.faults.getLsbD 1 = overtemp at *
  generalize x.faults.getLsbD 3 = converter at *
  revert h
  revert first estop overtemp converter
  decide

/-! ## The session's part, state by state -/

theorem faultsTaken_some (n : Ped) (why : EndReason) (s : State) : faultsTaken n (some why) s = faultStop n why s := rfl

theorem faultsTaken_probing (hs : (s.session n).state = .probing) : faultsTaken n (some why) s = closeSession n why s := by
  unfold faultsTaken faultStop stopSession
  simp only [hs]
  rfl

theorem faultsTaken_ended
    (hs : (s.session n).state = .dispensing ∨ (s.session n).state = .suspended ∨ (s.session n).state = .occupying) :
    faultsTaken n (some why) s = { s with
      records := s.records.set n ((s.session n).ended why (s.timebase + 1000 * s.settings.endingTimeout)) } := by
  have hauth : (s.session n).state ≠ .authorized := by rcases hs with hs | hs | hs <;> rw [hs] <;> decide
  rw [faultsTaken_some, faultStop, if_neg hauth, stopSession_flow n why s hs]

theorem faultsTaken_resting (reason : Option EndReason) (hs : (s.session n).state = .free ∨ (s.session n).state = .plugged
      ∨ (s.session n).state = .authorizing ∨ (s.session n).state = .authorized ∨ (s.session n).state = .ending
      ∨ (s.session n).state = .released) : faultsTaken n reason s = s := by
  cases reason with
  | none => rfl
  | some why =>
    unfold faultsTaken faultStop stopSession
    rcases hs with hs | hs | hs | hs | hs | hs <;> simp only [hs] <;> rfl

theorem faultsTaken_withTable (v : Vector PedestalEntry 16) (n : Ped) (reason : Option EndReason) (s : State) :
    faultsTaken n reason (s.withTable v) = (faultsTaken n reason s).withTable v := by
  cases reason with
  | none => rfl
  | some why =>
    rw [faultsTaken_some, faultsTaken_some, faultStop, faultStop, State.withTable_session, stopSession_withTable]
    split <;> rfl

/-- A record is in one of the resting states, in PROBING, or in a state that a fault ends. -/
theorem SessionState.fault_cases (st : SessionState) :
    (st = .free ∨ st = .plugged ∨ st = .authorizing ∨ st = .authorized ∨ st = .ending ∨ st = .released) ∨ st = .probing
      ∨ st = .dispensing ∨ st = .suspended ∨ st = .occupying := by
  cases st <;> simp

/-! ## Faults and meter -/

theorem Conditions.jumped_faulted (n : Ped) (jump : Bool) (x : StatusReply) (e : PedestalEntry) (c : Conditions) :
    (c.faulted n x e).jumped n jump = (c.jumped n jump).faulted n x e := by
  unfold Conditions.faulted
  simp only []
  split_ifs <;> simp only [Conditions.jumped_withPed n jump (by decide : (6 : Fin 11) ≠ 10),
    Conditions.jumped_withPed n jump (by decide : (7 : Fin 11) ≠ 10)]

/-- Conditions and entry with the faults of a reply taken, and the session's part not yet. -/
def State.faultLatched (n : Ped) (x : StatusReply) (s : State) : State :=
  { s with conds := s.conds.faulted n x (s.entry n) }

theorem faultLatched_meterSteps (n : Ped) (c : Nat) (x : StatusReply) (s : State) :
    (meterSteps n c s).faultLatched n x = meterSteps n c (s.faultLatched n x) := by
  have hentry : (meterSteps n c s).entry n = (s.entry n).metered c := by rw [meterSteps_entry, if_pos rfl]
  unfold State.faultLatched
  rw [hentry, meterSteps_eq, meterSteps_eq n c { s with conds := s.conds.faulted n x (s.entry n) }]
  have hconds : (s.conds.jumped n ((s.session n).jumps s.settings.plausibility c)).faulted n x ((s.entry n).metered c)
      = (s.conds.faulted n x (s.entry n)).jumped n ((s.session n).jumps s.settings.plausibility c) :=
    (Conditions.jumped_faulted n _ x (s.entry n) s.conds).symm
  exact congrArg (fun conds => ({ s with
    pedestals := s.pedestals.set n ((s.entry n).metered c), records := s.records.set n (s.metered c (s.session n))
    conds := conds } : State)) hconds

theorem faultsTaken_meterSteps (n : Ped) (reason : Option EndReason) (c : Nat) (s : State) :
    faultsTaken n reason (meterSteps n c s) = meterSteps n c (faultsTaken n reason s) := by
  rcases (s.session n).state.fault_cases with hs | hs | hs
  · rw [faultsTaken_resting reason hs, faultsTaken_resting reason (by simpa only [meterSteps_state] using hs)]
  all_goals
    cases reason with
    | none => rfl
    | some why => ?_
  · have hclose := meterSteps_comm (c := c) (f := closeSession n why) (fun v s => closeSession_withTable v n why s)
      (by rw [hs]; rfl) (closeSession_notFlowing n why s) (closeSession_based n why s)
    rw [faultsTaken_probing hs, faultsTaken_probing (by simpa only [meterSteps_state] using hs), hclose]
  · have hput := meterSteps_put (r := (s.session n).ended why (s.timebase + 1000 * s.settings.endingTimeout)) s.conds n c s
      (by rcases hs with hs | hs | hs <;> rw [hs] <;> rfl) rfl rfl rfl rfl
    have hdeadline : (meterSteps n c s).timebase + 1000 * (meterSteps n c s).settings.endingTimeout
        = s.timebase + 1000 * s.settings.endingTimeout := by rw [meterSteps_timebase, meterSteps_settings]
    obtain ⟨m, f, h⟩ := meterSteps_session_self n c s
    rw [faultsTaken_ended hs, faultsTaken_ended (by simpa only [meterSteps_state] using hs), hdeadline]
    refine Eq.trans ?_ hput.symm
    rw [← meterSteps_conds, h]
    rfl

/-- The fault steps by their parts. -/
theorem faultSteps_parts (n : Ped) (x : StatusReply) (s : State) :
    faultSteps n x s = (faultsTaken n x.faultReason (s.faultLatched n x)).setEntry n ((s.entry n).applyFaults x) := by
  rw [faultSteps_eq, sessionFaults_eq]
  rfl

theorem faultSteps_meterSteps_comm (n : Ped) (x : StatusReply) (s : State) :
    faultSteps n x (meterSteps n x.meter s) = meterSteps n x.meter (faultSteps n x s) := by
  rw [faultSteps_parts, faultSteps_parts, faultLatched_meterSteps, faultsTaken_meterSteps, meterSteps_setEntry, meterSteps_entry,
    if_pos rfl]
  rfl

end Sys2Proof.Machine
end

section
/-! SUPPORT. O44: the faults of a reply beside quiet fields, and before the others. -/

namespace Sys2Proof.Machine

variable {s z : State} {n : Ped} {x : StatusReply} {e : PedestalEntry} {b : Bool} {why : EndReason}

/-! ## Faults beside a plug as it was and no new token -/

/-- A reply that hands no token on, once its faults have been taken and `P` has been done for its plug. -/
theorem statusReply_faults {u : State} (hex : s.Exchanging n b) (hfits : x.fits = true) (htoken : x.NoNewToken (s.entry n))
    (hplug : takePlug n x.plug ((faultsTaken n x.faultReason ((meterSteps n x.meter s).faultLatched n x)).setEntry n
      ((s.entry n).faulted x)) = u.setEntry n ((s.entry n).faulted x)) :
    exec (.statusReply (x.bytes n)) s = .next (endExchange ⟨n, b, false⟩
      (closingSteps n ((s.session n).state == .ending) x (u.setEntry n ((s.entry n).taken x)))) := by
  have hfaults : faultSteps n x (meterSteps n x.meter s)
      = (faultsTaken n x.faultReason ((meterSteps n x.meter s).faultLatched n x)).setEntry n ((s.entry n).faulted x) := by
    rw [faultSteps_parts, meterSteps_entry, if_pos rfl]
    rfl
  rw [statusReply_taken hex hfits, takeReply_eq, hfaults, hplug, tokenStep_quiet _ htoken]

theorem plugWas_faulted {u : State} (hp : (u.session n).hasPlug = (s.session n).hasPlug) :
    (u.setEntry n ((s.entry n).faulted x)).plugWas n = s.plugWas n := by
  unfold State.plugWas
  rw [State.entry_setEntry, State.setEntry_session, hp]
  rfl

/-- The first part of O44: faults in a reply without a plug change that hands no token on. -/
theorem faults_quiet (s : State) (n : Ped) (b : Bool) (x : StatusReply) (hex : s.Exchanging n b) (hfits : x.fits = true)
    (htoken : x.NoNewToken (s.entry n)) (hwas : s.plugWas n = x.plug) :
      let e := s.entry n
      let estop := x.faults.getLsbD 0 = true
      let other := x.faults.getLsbD 1 = true ∨ x.faults.getLsbD 3 = true
      let isolation := x.faults.getLsbD 2 = true
      let m := meterSteps n x.meter s
      let c := if isolation ∧ e.blocked = false then m.conds.withPed n 6 .none else m.conds
      let w : State := { m with conds := if estop ∧ e.estop = false then c.withPed n 7 .none else c }
      let q := w.session n
      let st := q.state
      let leaves := fun (z : State) =>
        exec (.statusReply (x.bytes n)) s = .next (endExchange ⟨n, b, false⟩ (z.answered n x e))
      ((st = .free ∨ st = .plugged ∨ st = .authorizing ∨ st = .authorized ∨ (st = .ending ∧ 10 ≤ x.power)) → leaves w)
      ∧ (st = .released → x.plug = true → leaves { w with records := w.records.set n { q with hasPlug := .yes } })
      ∧ (st = .released → x.plug = false →
        leaves { w with bus := s.freedBus n, records := w.records.set n { baseline := x.meter } })
      ∧ (¬ estop → ¬ other → st ≠ .released → q.Undecided x →
        leaves { w with records := w.records.set n (q.driven x s.timebase) })
      ∧ ((estop ∨ other) → ∃ why : EndReason,
        (estop → ¬ other → why = .estop) ∧ (¬ estop → other → why = .pedestalFault)
        ∧ (why = .estop ∨ why = .pedestalFault)
        ∧ (st = .probing → x.plug = true → q.hasPlug = .yes → leaves (closeSession n why w))
        ∧ ((st = .dispensing ∨ st = .suspended ∨ st = .occupying) → leaves { w with
          records := w.records.set n
            (q.ended why (s.timebase + 1000 * s.settings.endingTimeout)) })) := by
  intro e estop other isolation m c w q st leaves
  have hw : (meterSteps n x.meter s).faultLatched n x = w := by
    unfold State.faultLatched
    rw [meterSteps_entry, if_pos rfl]
    rfl
  have htime : w.timebase = s.timebase := meterSteps_timebase n x.meter
  have hsettings : w.settings = s.settings := meterSteps_settings n x.meter
  have hstate : st = (s.session n).state := meterSteps_state n x.meter
  have hplugged : q.hasPlug = (s.session n).hasPlug := meterSteps_hasPlug n x.meter
  have reply : ∀ {u : State}, takePlug n x.plug ((faultsTaken n x.faultReason w).setEntry n (e.faulted x))
      = u.setEntry n (e.faulted x) → exec (.statusReply (x.bytes n)) s = .next (endExchange ⟨n, b, false⟩
        (closingSteps n (st == .ending) x (u.setEntry n (e.taken x)))) := fun {u} h => by
    rw [hstate]
    exact statusReply_faults hex hfits htoken (by rw [hw]; exact h)
  have stays : ∀ {u : State}, (u.session n).state ≠ .released → (u.session n).hasPlug = (s.session n).hasPlug →
      takePlug n x.plug (u.setEntry n (e.faulted x)) = u.setEntry n (e.faulted x) := fun {u} hs hp =>
    takePlug_unchanged n x.plug _ (by rw [plugWas_faulted hp, hwas]) hs
  have toNext : ∀ {u v : State}, u = v → Host.Outcome.next (endExchange ⟨n, b, false⟩ u)
      = (.next (endExchange ⟨n, b, false⟩ v) : Host.Outcome State Fault Refusal) := fun h => by rw [h]
  refine ⟨fun hs => ?_, fun hs hplug => ?_, fun hs hplug => ?_, fun hestop hother hs hu => ?_, fun hfault => ?_⟩
  · have hrest : faultsTaken n x.faultReason w = w := faultsTaken_resting _ (by tauto)
    have hnot : st ≠ .released ∧ st ≠ .probing ∧ st ≠ .dispensing ∧ st ≠ .suspended ∧ st ≠ .occupying := by
      rcases hs with hs | hs | hs | hs | ⟨hs, -⟩ <;> rw [hs] <;> decide
    have hpower : st = .ending → 10 ≤ x.power := fun h => by
      rcases hs with hs | hs | hs | hs | ⟨-, hp⟩
      · cases hs.symm.trans h
      · cases hs.symm.trans h
      · cases hs.symm.trans h
      · cases hs.symm.trans h
      · exact hp
    obtain ⟨hreleased, hprobing, hflow⟩ := hnot
    rw [hrest] at reply
    exact (reply (stays (u := w) hreleased hplugged)).trans
      (toNext (closingSteps_idle e w (fun h => absurd h hprobing) (fun _ h => hpower h) hflow))
  · have hrest : faultsTaken n x.faultReason w = w := faultsTaken_resting _ (by tauto)
    rw [hrest] at reply
    refine (reply (takePlug_still w x.plug (by rw [plugWas_faulted hplugged, hwas]) hs)).trans (toNext ?_)
    rw [hplug, pluggedStill_plug]
    exact closingSteps_resting e _ (w.session_put n _) (hs.trans_ne (by decide)) (congrArg SessionState.energyFlow hs)
  · have hrest : faultsTaken n x.faultReason w = w := faultsTaken_resting _ (by tauto)
    have hbus : w.freedBus n = s.freedBus n := meterSteps_freedBus n x.meter s
    have hbase : (w.session n).baseline = x.meter := meterSteps_baseline n x.meter s
    rw [hrest] at reply
    refine (reply (takePlug_still w x.plug (by rw [plugWas_faulted hplugged, hwas]) hs)).trans (toNext ?_)
    rw [hplug, pluggedStill_freed hs, hbus, hbase]
    exact closingSteps_resting (r := { baseline := x.meter }) e _ (get_set_self w.records n _) (by simp) rfl
  · have hnone : faultsTaken n x.faultReason w = w := by rw [faultReason_none hestop hother]; rfl
    rw [hnone] at reply
    refine (reply (stays (u := w) hs hplugged)).trans (toNext ?_)
    rw [← htime]
    exact closingSteps_undecided e w hu.1 fun _ => hu.2
  · obtain ⟨why, hreason, hestop, hother, hwhy⟩ := faultReason_some hfault
    rw [hreason] at reply
    refine ⟨why, hestop, hother, hwhy, fun hs hplug hp => ?_, fun hs => ?_⟩
    · have hclosed : (closeSession n why w).session n
          = { state := .released, hasPlug := q.hasPlug, endReason := some (q.endReason.getD why), baseline := q.baseline } := by
        rw [closeSession_session_self]
        exact if_neg (hp.trans_ne (by decide))
      rw [faultsTaken_probing hs] at reply
      refine (reply (takePlug_same x.plug _ ?_ fun _ => ⟨hplug, ?_⟩)).trans (toNext (closingSteps_closed e why w))
      · rw [plugWas_faulted (by rw [hclosed]; exact hplugged), hwas]
      · rw [State.setEntry_session, hclosed]
        exact hp
    · have hwe : (st == .ending) = false := by rcases hs with hs | hs | hs <;> rw [hs] <;> rfl
      have hdeadline : w.timebase + 1000 * w.settings.endingTimeout = s.timebase + 1000 * s.settings.endingTimeout := by
        rw [htime, hsettings]
      rw [faultsTaken_ended hs, hdeadline, hwe] at reply
      refine (reply (stays ?_ ?_)).trans (toNext ?_)
      · rw [State.session_put]
        exact SessionState.noConfusion
      · rw [State.session_put]
        exact hplugged
      · refine closingSteps_idle e _ (fun h => ?_) (fun h => by cases h) ?_
        · rw [State.session_put] at h
          cases h
        · rw [State.session_put]
          exact ⟨SessionState.noConfusion, SessionState.noConfusion, SessionState.noConfusion⟩

/-! ## The faults taken first -/

/-- The reply that is left once the faults of a reply have been taken. -/
def StatusReply.withoutFaults (x : StatusReply) (r : Session) : StatusReply :=
  { x.withoutEndingPower r with faults := 0, released := false }

theorem faultSteps_withoutFaults (r : Session) (z : State) : faultSteps n (x.withoutFaults r) z = z := by
  rw [faultSteps_noFaults n z rfl]
  have hsame : ∀ e : PedestalEntry, e.applyFaults (x.withoutFaults r) = e := by
    rintro ⟨⟩
    simp [PedestalEntry.applyFaults, StatusReply.withoutFaults, StatusReply.isolation, StatusReply.estop]
  rw [hsame]
  unfold State.setEntry State.entry
  rw [vector_set_get]

theorem faultsTaken_ending (reason : Option EndReason) (hs : (s.session n).state = .ending) :
    ((faultsTaken n reason s).session n).state = .ending := by
  rw [faultsTaken_resting reason (by simp [hs])]
  exact hs

theorem faultSteps_ending (x : StatusReply) (hs : (s.session n).state = .ending) :
    ((faultSteps n x s).session n).state = .ending := by
  rw [faultSteps_parts, State.setEntry_session]
  exact faultsTaken_ending _ hs

theorem faultSteps_exchanging (x : StatusReply) (hex : s.Exchanging n b) : (faultSteps n x s).Exchanging n b := by
  rw [faultSteps_parts]
  show (faultsTaken n x.faultReason (s.faultLatched n x)).Exchanging n b
  cases x.faultReason with
  | none => exact hex
  | some why =>
    rw [faultsTaken_some, faultStop]
    split
    · exact hex
    · exact stopSession_exchanging why hex

/-- A reply does what it does without its faults once these have been taken (R5). -/
theorem statusReply_faultsFirst (hex : s.Exchanging n b) (hfits : x.fits = true) :
    exec (.statusReply (x.bytes n)) s =
      exec (.statusReply ((x.withoutFaults (s.session n)).bytes n)) (faultSteps n x s) := by
  have hfits' : (x.withoutFaults (s.session n)).fits = true := StatusReply.withoutEndingPower_fits (s.session n) hfits
  rw [statusReply_taken hex hfits, statusReply_taken (faultSteps_exchanging x hex) hfits', takeReply_eq, takeReply_eq,
    faultSteps_withoutFaults, faultSteps_meterSteps_comm]
  refine congrArg (fun z => Host.Outcome.next (endExchange ⟨n, b, false⟩ z)) ?_
  refine closingSteps_power (p := (x.withoutEndingPower (s.session n)).power) _ (fun h => ?_) fun h => ?_
  · have hs : (s.session n).state = .ending := by simpa using h
    exact ⟨by simp [faultSteps_ending x hs], if_pos hs⟩
  · have hs : (s.session n).state ≠ .ending := by simpa using h
    exact (Nat.le_max_left _ _).trans_eq (if_neg hs).symm

/-- Settles O44: the faults state by state, and the faults taken before the reply. -/
theorem faultsBlockThePedestalAndStopTheSession : Obligations.FaultsBlockThePedestalAndStopTheSession := by
  refine ⟨faults_quiet, fun s n b x hex hfits => ?_⟩
  intro e estop other isolation latched ended r st f u y reduces
  have hfirst : faultSteps n x s = (faultsTaken n x.faultReason (s.faultLatched n x)).setEntry n f := faultSteps_parts n x s
  have hu : u = (s.faultLatched n x).setEntry n f := rfl
  have rests : faultsTaken n x.faultReason (s.faultLatched n x) = s.faultLatched n x → reduces u := fun h => by
    rw [hu, ← h, ← hfirst]
    exact statusReply_faultsFirst hex hfits
  refine ⟨fun hestop hother => rests ?_, fun hs => rests (faultsTaken_resting _ hs), fun hfault => ?_⟩
  · rw [faultReason_none hestop hother]
    rfl
  · obtain ⟨why, hreason, hestop, hother, hwhy⟩ := faultReason_some hfault
    rw [hreason] at hfirst
    have reply := statusReply_faultsFirst hex hfits
    refine ⟨why, hestop, hother, hwhy, fun hs => ?_, fun hs => ⟨?_, fun htoken hwas hplug => ?_⟩⟩
    · refine reply.trans (congrArg (fun z => exec (.statusReply (y.bytes n)) z) ?_)
      rw [hfirst, faultsTaken_probing (s := s.faultLatched n x) hs]
      exact (State.setEntry_comm (s.faultLatched n x) n f fun v => closeSession_withTable v n why _).symm
    · refine reply.trans (congrArg (fun z => exec (.statusReply (y.bytes n)) z) ?_)
      rw [hfirst, faultsTaken_ended (s := s.faultLatched n x) hs]
      rfl
    · intro w
      have hstate : (w.session n).state = st := meterSteps_state n x.meter
      have hplugged : (w.session n).hasPlug = (s.session n).hasPlug := meterSteps_hasPlug n x.meter
      have hw : (meterSteps n x.meter s).faultLatched n x = w := by
        unfold State.faultLatched
        rw [meterSteps_entry, if_pos rfl]
        rfl
      have hdeadline : w.timebase + 1000 * w.settings.endingTimeout = s.timebase + 1000 * s.settings.endingTimeout := by
        have htime : w.timebase = s.timebase := meterSteps_timebase n x.meter
        have hsettings : w.settings = s.settings := meterSteps_settings n x.meter
        rw [htime, hsettings]
      have hstopped : faultsTaken n x.faultReason ((meterSteps n x.meter s).faultLatched n x)
          = { w with records := w.records.set n (ended (w.session n) why) } := by
        rw [hw, hreason, faultsTaken_ended (s := w) (by rw [hstate]; exact hs), hdeadline]
      have hending : (State.session { w with records := w.records.set n (ended (w.session n) why) } n).state = .ending :=
        congrArg Session.state (w.session_put n _)
      have hwe : ((s.session n).state == .ending) = false := by
        rcases hs with hs | hs | hs <;> exact (congrArg (· == SessionState.ending) hs).trans rfl
      have hout := takePlug_out (n := n) (e := e.faulted x) { w with records := w.records.set n (ended (w.session n) why) }
        (by rw [plugWas_faulted (by rw [State.session_put]; exact hplugged), hwas])
      refine (statusReply_faults hex hfits htoken (by rw [hstopped, hplug]; exact hout)).trans
        (congrArg (fun z => Host.Outcome.next (endExchange ⟨n, b, false⟩ z)) ?_)
      rw [pluggedOut_kept (.inr (.inr (.inr hending))), hwe, closingSteps_latchPut e _ ?_ (fun h => by cases h),
        Session.driven_idle]
      · rw [State.session_put]
        unfold State.latchPut
        simp only [vector_set_set]
        rfl
      · exact hending.trans_ne (by decide)
      · exact hending.trans_ne (by decide)
      · exact hending.trans_ne (by decide)
      · exact fun h => absurd (hending.symm.trans h) (by decide)

end Sys2Proof.Machine
end

section
/-! SUPPORT. A new token in a reply: refused, ignored, or stopping its own session (R7 to R10, R14, R17, R19 to R21, R23, R39, R40,
R151, R154). -/

namespace Sys2Proof.Machine

variable {s z : State} {n : Ped} {x : StatusReply} {e : PedestalEntry} {b : Bool} {p : Presentation} {last : Byte} {c : Nat}

/-! ## A new token is handed on -/

theorem quietActivity_withBus (s : State) : quietActivity s = s.withBus s.activityBus := by
  rw [quietActivity_eq]
  unfold State.activityBus
  split <;> rfl

theorem meterSteps_activityBus (n : Ped) (c : Nat) (s : State) : (meterSteps n c s).activityBus = s.activityBus := by
  have hall : (∀ m, ((meterSteps n c s).session m).state = .free) ↔ ∀ m, (s.session m).state = .free := by
    refine forall_congr' fun m => ?_
    by_cases hm : m = n
    · rw [hm, meterSteps_state]
    · rw [meterSteps_session_ne hm]
  unfold State.activityBus
  rw [meterSteps_wokenBus, meterSteps_timebase, meterSteps_settings, meterSteps_bus]
  exact if_congr hall rfl rfl

/-- The entry's part of the token step: the number is held (R154). -/
theorem PedestalEntry.faulted_presented (e : PedestalEntry) (hp : x.presentation = some p) :
    ({ e.faulted x with lastPresentation := some p.number } : PedestalEntry) = e.taken x := by
  unfold PedestalEntry.taken PedestalEntry.replied
  rw [hp]
  rfl

/-- A presentation that is new is handed on once its number is held (R154). -/
theorem tokenStep_new (z : State) (hp : x.presentation = some p) (hlast : e.lastPresentation = some last)
    (hnew : p.number ≠ last) :
    tokenStep n x (z.setEntry n (e.faulted x)) =
      takeToken n p.token p.source ((quietActivity z).setEntry n (e.taken x)) := by
  have hheld : ((z.setEntry n (e.faulted x)).entry n).lastPresentation = some last := by
    rw [State.entry_setEntry]
    exact hlast
  unfold tokenStep
  rw [hp]
  simp only [takePresentation]
  rw [hheld, State.entry_setEntry, e.faulted_presented hp, State.setEntry_setEntry]
  simp only [Ne.symm hnew, if_false]
  rw [State.setEntry_comm z n _ fun v => quietActivity_withTable v z]

/-- A reply without faults that hands a token on, where its plug has left `z`. -/
theorem statusReply_token (hex : s.Exchanging n b) (hfits : x.fits = true) (hfaults : x.faults = 0)
    (hp : x.presentation = some p) (hlast : (s.entry n).lastPresentation = some last) (hnew : p.number ≠ last)
    (hplug : takePlug n x.plug ((meterSteps n x.meter s).setEntry n ((s.entry n).faulted x))
      = z.setEntry n ((s.entry n).faulted x)) :
    exec (.statusReply (x.bytes n)) s = .next (endExchange ⟨n, b, false⟩ (closingSteps n ((s.session n).state == .ending) x
      (takeToken n p.token p.source ((quietActivity z).setEntry n ((s.entry n).taken x))))) := by
  rw [statusReply_taken hex hfits, takeReply_eq, faultSteps_meterSteps n s hfaults, hplug, tokenStep_new z hp hlast hnew]

/-! ## Tokens that open no session -/

theorem refuseToken_latchPut (n : Ped) (reason : Byte) (s : State) :
    refuseToken n reason s =
      s.latchPut n 2 (.reason reason) { s.session n with refusal := some ⟨reason, s.timebase + 5000⟩ } := rfl

theorem refuseToken_setEntry (n : Ped) (reason : Byte) (e : PedestalEntry) (s : State) :
    refuseToken n reason (s.setEntry n e) = (refuseToken n reason s).setEntry n e := rfl

/-- Another open session holds the token (R40). -/
theorem tokenHeldElsewhere_iff (n : Ped) (token : Token) (s : State) : s.tokenHeldElsewhere n token = true ↔
    ∃ m o, m ≠ n ∧ (s.session m).state.isOpen = true ∧ (s.session m).opening = some o ∧ o.token = token := by
  unfold State.tokenHeldElsewhere
  rw [List.any_eq_true]
  constructor
  · rintro ⟨m, -, hm⟩
    simp only [Bool.and_eq_true, bne_iff_ne, ne_eq, Option.any_eq_true, beq_iff_eq] at hm
    obtain ⟨⟨hne, hopen⟩, o, ho, htoken⟩ := hm
    exact ⟨m, o, hne, hopen, ho, htoken⟩
  · rintro ⟨m, o, hne, hopen, ho, htoken⟩
    refine ⟨m, mem_all m, ?_⟩
    simp only [Bool.and_eq_true, bne_iff_ne, ne_eq, Option.any_eq_true, beq_iff_eq]
    exact ⟨⟨hne, hopen⟩, o, ho, htoken⟩

/-- A token at a FREE or PLUGGED record (R7, R8). -/
theorem takeToken_offered (token : Token) (source : TokenSource) (hs : (s.session n).state = .free ∨ (s.session n).state = .plugged) :
    takeToken n token source s = offerToken n token source s := by
  unfold takeToken
  rcases hs with hs | hs <;> simp only [hs]

theorem offerToken_refused {token : Token} {source : TokenSource} {reason : RefusalReason}
    (h : acceptanceCheck n token s = some reason) : offerToken n token source s = refuseToken n reason.code s := by
  unfold offerToken
  rw [h]

theorem sameToken_iff (r : Session) (token : Token) :
    r.opening.any (·.token == token) = true ↔ r.opening.map (·.token) = some token := by
  cases r.opening <;> simp

/-- A session's own token (R9, R14, R17, R19 to R21, R23). -/
theorem takeToken_own (token : Token) (source : TokenSource) (h : (s.session n).opening.map (·.token) = some token) :
    takeToken n token source s =
      match (s.session n).state with
      | .free | .plugged => offerToken n token source s
      | .authorizing | .ending => s
      | .authorized | .probing | .dispensing | .suspended | .occupying => stopSession n .userStop s
      | .released => refuseToken n 0x2A#8 s := by
  have hsame := (sameToken_iff _ _).2 h
  unfold takeToken
  simp only [hsame, if_true]
  cases (s.session n).state <;> rfl

/-- Another token in an open state (R9). -/
theorem takeToken_other (token : Token) (source : TokenSource) (h : (s.session n).opening.map (·.token) ≠ some token)
    (hs : (s.session n).state.isOpen = true) : takeToken n token source s = refuseToken n 0x29#8 s := by
  have hsame : (s.session n).opening.any (·.token == token) = false := by
    rw [← Bool.not_eq_true, sameToken_iff]
    exact h
  unfold takeToken
  simp only [hsame, Bool.false_eq_true, if_false]
  revert hs
  cases (s.session n).state <;> intro hs <;> first | rfl | cases hs

theorem takeToken_released (token : Token) (source : TokenSource) (hs : (s.session n).state = .released) :
    takeToken n token source s = refuseToken n 0x2A#8 s := by
  unfold takeToken
  simp only [hs]
  rfl

/-! ## The reply that repeats a decided token -/

/-- On a state in which number and plug of the reply are held, the reply takes only its later fields. -/
theorem statusReply_held (z : State) (e : PedestalEntry) (hex : z.Exchanging n b) (hfits : x.fits = true) (hfaults : x.faults = 0)
    (hp : x.presentation = some p) (hs : (z.session n).state ≠ .released) :
    exec (.statusReply (x.bytes n)) (z.setEntry n { e with lastPlug := some x.plug, lastPresentation := some p.number }) =
      .next (endExchange ⟨n, b, false⟩ (closingSteps n ((z.session n).state == .ending) x
        ((meterSteps n x.meter z).setEntry n (e.taken x)))) := by
  have hwas : (State.setEntry n (PedestalEntry.faulted { e with lastPlug := some x.plug, lastPresentation := some p.number } x)
      (meterSteps n x.meter z)).plugWas n = x.plug := by
    unfold State.plugWas
    rw [State.entry_setEntry]
    rfl
  have hheld : (meterSteps n x.meter z).setEntry n
        (PedestalEntry.taken { e with lastPlug := some x.plug, lastPresentation := some p.number } x)
      = ((meterSteps n x.meter z).setEntry n (e.taken x)).holdPlug n x.plug := by
    rw [State.holdPlug, State.entry_setEntry, State.setEntry_setEntry]
    unfold PedestalEntry.taken PedestalEntry.replied
    rw [hp]
  rw [statusReply_taken (by exact hex) hfits, takeReply_eq, meterSteps_setEntry, faultSteps_noFaults n _ hfaults,
    State.entry_setEntry, State.setEntry_setEntry]
  refine congrArg (fun u => Host.Outcome.next (endExchange ⟨n, b, false⟩ u)) ?_
  have hplug := takePlug_unchanged n x.plug _ hwas (by rw [State.setEntry_session, meterSteps_state]; exact hs)
  have htoken := tokenStep_quiet (n := n) (x := x)
    (e := { e with lastPlug := some x.plug, lastPresentation := some p.number }) (meterSteps n x.meter z) (.inr (.inr (by rw [hp]; rfl)))
  unfold PedestalEntry.faulted at hplug htoken
  rw [hplug, htoken, hheld, closingSteps_holdPlug]
  rfl

end Sys2Proof.Machine
end

section
/-! SUPPORT. O41: tokens that open no session, beside the vehicle fields of their reply. -/

namespace Sys2Proof.Machine

variable {s z : State} {n : Ped} {x : StatusReply} {e : PedestalEntry} {b : Bool} {p : Presentation} {c : Nat}

/-! ## The acceptance checks (R39) -/

theorem PedestalEntry.taken_outOfService (e : PedestalEntry) (h : x.faults = 0) :
    (e.taken x).outOfService = true ↔ e.blocked = true ∨ e.link = .lost ∨ (e.estop = true ∧ x.released = false) := by
  have hblocked : (e.taken x).blocked = e.blocked := by
    simp [PedestalEntry.taken, PedestalEntry.replied, h]
  have hestop : (e.taken x).estop = (e.estop && !x.released) := by
    simp [PedestalEntry.taken, PedestalEntry.replied, h]
  have hlink : (e.taken x).link = e.link := rfl
  unfold PedestalEntry.outOfService
  rw [hblocked, hestop, hlink]
  simp [or_assoc]

/-- The four checks in their order (R39). -/
theorem acceptanceCheck_cases (n : Ped) (token : Token) (s : State) :
    (s.park = .closed → acceptanceCheck n token s = some .parkClosed)
    ∧ (s.park = .opened → (s.entry n).outOfService = true → acceptanceCheck n token s = some .outOfService)
    ∧ (s.park = .opened → (s.entry n).outOfService = false → s.tokenHeldElsewhere n token = true →
        acceptanceCheck n token s = some .inUse)
    ∧ (s.park = .opened → (s.entry n).outOfService = false → s.tokenHeldElsewhere n token = false →
        acceptanceCheck n token s = if s.settlement.full then some .queueFull else none) := by
  unfold acceptanceCheck
  refine ⟨fun h => ?_, fun h ho => ?_, fun h ho hu => ?_, fun h ho hu => ?_⟩
  · rw [if_pos h]
  all_goals rw [if_neg (by rw [h]; decide)]
  · rw [if_pos ho]
  · rw [if_neg (by simp [ho]), if_pos hu]
  · rw [if_neg (by simp [ho]), if_neg (by simp [hu])]

/-- The check reads of the entry whether the pedestal is out of service, and of the meter steps nothing. -/
theorem tokenHeldElsewhere_congr {s t : State} (token : Token) (h : ∀ m, m ≠ n → t.session m = s.session m) :
    t.tokenHeldElsewhere n token = s.tokenHeldElsewhere n token := by
  rw [Bool.eq_iff_iff, tokenHeldElsewhere_iff, tokenHeldElsewhere_iff]
  refine exists_congr fun m => exists_congr fun o => and_congr_right fun hm => ?_
  rw [h m hm]

/-! ## What the last steps add to a refusal -/

/-- A refused token and the vehicle fields of its reply. -/
theorem closingSteps_refused {we : Bool} (reason : Byte) (e : PedestalEntry) (z : State) (bus : Bus)
    (hprobe : (z.session n).state = .probing → x.probe = .none)
    (hpower : we = true → (z.session n).state = .ending → 10 ≤ x.power) :
    closingSteps n we x (refuseToken n reason ((z.withBus bus).setEntry n (e.taken x))) =
      State.answered n x e { z with
        bus := bus
        conds := z.conds.withPed n 2 (.reason reason)
        records := z.records.set n
          (Session.driven { z.session n with refusal := some ⟨reason, z.timebase + 5000⟩ } x z.timebase) } := by
  rw [refuseToken_setEntry, refuseToken_latchPut, closingSteps_latchPut e _ (by exact hprobe) (by exact hpower)]
  rfl

/-- While some record is not FREE, activity leaves the bus alone. -/
theorem activityBus_busy (h : (s.session n).state ≠ .free) : s.activityBus = s.bus := by
  unfold State.activityBus
  rw [if_neg fun hall => h (hall n)]

theorem meterSteps_tokenHeldElsewhere (n : Ped) (c : Nat) (token : Token) (s : State) :
    (meterSteps n c s).tokenHeldElsewhere n token = s.tokenHeldElsewhere n token :=
  tokenHeldElsewhere_congr token fun _ hm => meterSteps_session_ne hm c

theorem meterSteps_park (n : Ped) (c : Nat) (s : State) : (meterSteps n c s).park = s.park := by
  rw [meterSteps_frame]

/-- A record outside PROBING and ENDING leaves probe result and power no say. -/
theorem Session.undecided_of_ne {r : Session} (x : StatusReply) (h : r.state ≠ .probing) (h' : r.state ≠ .ending) :
    r.Undecided x := ⟨fun hs => absurd hs h, fun hs => absurd hs h'⟩

section
variable {last : Byte} (hex : s.Exchanging n b) (hfits : x.fits = true) (hfaults : x.faults = 0) (hwas : s.plugWas n = x.plug)
  (hp : x.presentation = some p) (hlast : (s.entry n).lastPresentation = some last) (hnew : p.number ≠ last)
  (hs : (s.session n).state ≠ .released)
include hex hfits hfaults hwas hp hlast hnew hs

/-- A new token without a plug change is handed on in the metered state, with the activity of R151. -/
theorem statusReply_newToken :
    exec (.statusReply (x.bytes n)) s = .next (endExchange ⟨n, b, false⟩ (closingSteps n ((s.session n).state == .ending) x
      (takeToken n p.token p.source
        (((meterSteps n x.meter s).withBus s.activityBus).setEntry n ((s.entry n).taken x))))) := by
  have hplug := takePlug_unchanged n x.plug (State.setEntry n ((s.entry n).faulted x) (meterSteps n x.meter s))
    (by rw [State.plugWas_meterSteps, hwas]) (by rw [State.setEntry_session, meterSteps_state]; exact hs)
  have token := statusReply_token hex hfits hfaults hp hlast hnew hplug
  rw [quietActivity_withBus, meterSteps_activityBus] at token
  exact token

/-- A refusal of that token, with the vehicle fields of its reply. -/
theorem statusReply_refused {reason : Byte} (hu : ((meterSteps n x.meter s).session n).Undecided x)
    (htoken : takeToken n p.token p.source
        (((meterSteps n x.meter s).withBus s.activityBus).setEntry n ((s.entry n).taken x))
      = refuseToken n reason (((meterSteps n x.meter s).withBus s.activityBus).setEntry n ((s.entry n).taken x))) :
    exec (.statusReply (x.bytes n)) s = .next (endExchange ⟨n, b, false⟩ (State.answered n x (s.entry n)
      { meterSteps n x.meter s with
        bus := s.activityBus
        conds := (meterSteps n x.meter s).conds.withPed n 2 (.reason reason)
        records := (meterSteps n x.meter s).records.set n (Session.driven
          { (meterSteps n x.meter s).session n with refusal := some ⟨reason, s.timebase + 5000⟩ } x s.timebase) })) := by
  rw [statusReply_newToken hex hfits hfaults hwas hp hlast hnew hs, htoken,
    closingSteps_refused reason _ _ _ hu.1 (fun _ => hu.2), ← meterSteps_timebase (s := s) n x.meter]

/-- That token in a record that is not FREE. -/
theorem statusReply_busyToken (hfree : (s.session n).state ≠ .free) :
    exec (.statusReply (x.bytes n)) s = .next (endExchange ⟨n, b, false⟩ (closingSteps n ((s.session n).state == .ending) x
      (takeToken n p.token p.source ((meterSteps n x.meter s).setEntry n ((s.entry n).taken x))))) := by
  have hbus : (meterSteps n x.meter s).withBus s.activityBus = meterSteps n x.meter s := by
    rw [activityBus_busy hfree, ← meterSteps_bus (s := s) n x.meter]
    rfl
  rw [statusReply_newToken hex hfits hfaults hwas hp hlast hnew hs, hbus]

/-- A token at a FREE or PLUGGED record that fails a check is refused with the reason of the first one. -/
theorem statusReply_checkedToken {reason : RefusalReason}
    (hst : (s.session n).state = .free ∨ (s.session n).state = .plugged)
    (hcheck : acceptanceCheck n p.token
      (((meterSteps n x.meter s).withBus s.activityBus).setEntry n ((s.entry n).taken x)) = some reason) :
    exec (.statusReply (x.bytes n)) s = .next (endExchange ⟨n, b, false⟩ (State.answered n x (s.entry n)
      { meterSteps n x.meter s with
        bus := s.activityBus
        conds := (meterSteps n x.meter s).conds.withPed n 2 (.reason reason.code)
        records := (meterSteps n x.meter s).records.set n (Session.driven
          { (meterSteps n x.meter s).session n with refusal := some ⟨reason.code, s.timebase + 5000⟩ } x s.timebase) })) := by
  rw [← meterSteps_state (s := s) n x.meter] at hst
  have hu := Session.undecided_of_ne (r := (meterSteps n x.meter s).session n) x
    (by rcases hst with h | h <;> rw [h] <;> decide) (by rcases hst with h | h <;> rw [h] <;> decide)
  refine statusReply_refused hex hfits hfaults hwas hp hlast hnew hs hu ?_
  rw [takeToken_offered _ _ (by exact hst), offerToken_refused hcheck]

omit hs in
/-- A record's own token: ignored, or stopping the session, by the session's state. -/
theorem statusReply_ownToken (hown : ((meterSteps n x.meter s).session n).opening.map (·.token) = some p.token) :
    let w := meterSteps n x.meter s
    let q := w.session n
    let leaves := fun (z : State) =>
      exec (.statusReply (x.bytes n)) s = .next (endExchange ⟨n, b, false⟩ (z.answered n x (s.entry n)))
    (q.state = .authorizing → leaves w)
    ∧ ((q.state = .authorized ∨ q.state = .probing) → leaves (closeSession n .userStop w))
    ∧ ((q.state = .dispensing ∨ q.state = .suspended ∨ q.state = .occupying) → leaves { w with
      records := w.records.set n (q.ended .userStop (s.timebase + 1000 * s.settings.endingTimeout)) })
    ∧ (q.state = .ending → 10 ≤ x.power → leaves w)
    ∧ ∀ why, q.state = .ending → q.endReason = some why → x.power < 10 → leaves (closeSession n why w) := by
  intro w q leaves
  have hstate : q.state = (s.session n).state := meterSteps_state n x.meter
  have hdeadline : w.timebase + 1000 * w.settings.endingTimeout = s.timebase + 1000 * s.settings.endingTimeout := by
    have htime : w.timebase = s.timebase := meterSteps_timebase n x.meter
    have hsettings : w.settings = s.settings := meterSteps_settings n x.meter
    rw [htime, hsettings]
  have own := takeToken_own (s := w.setEntry n ((s.entry n).taken x)) p.token p.source hown
  have hst : ((w.setEntry n ((s.entry n).taken x)).session n).state = q.state := rfl
  rw [hst] at own
  have toNext : ∀ {z : State}, q.state ≠ .released → q.state ≠ .free → closingSteps n (q.state == .ending) x
      (takeToken n p.token p.source (w.setEntry n ((s.entry n).taken x))) = z.answered n x (s.entry n) → leaves z := fun hr hf h => by
    have reply := statusReply_busyToken hex hfits hfaults hwas hp hlast hnew (hstate ▸ hr) (hstate ▸ hf)
    rw [← hstate] at reply
    exact reply.trans (by rw [h])
  refine ⟨fun hq => ?_, fun hq => ?_, fun hq => ?_, fun hq hpower => ?_, fun why hq hwhy hpower => ?_⟩
  · refine toNext (hq.trans_ne (by decide)) (hq.trans_ne (by decide)) ?_
    rw [own, hq]
    exact closingSteps_resting _ w rfl (hq.trans_ne (by decide)) (congrArg SessionState.energyFlow hq)
  · have hstop : takeToken n p.token p.source (w.setEntry n ((s.entry n).taken x))
        = (closeSession n .userStop w).setEntry n ((s.entry n).taken x) := by
      rw [own, ← State.setEntry_comm w n _ fun v => closeSession_withTable v n .userStop w]
      unfold stopSession
      rw [hst]
      rcases hq with hq | hq <;> rw [hq]
    refine toNext (by rcases hq with hq | hq <;> exact hq.trans_ne (by decide))
      (by rcases hq with hq | hq <;> exact hq.trans_ne (by decide)) ?_
    rw [hstop, closingSteps_closed]
  · have hstop : takeToken n p.token p.source (w.setEntry n ((s.entry n).taken x)) = State.setEntry n ((s.entry n).taken x)
        { w with records := w.records.set n (q.ended .userStop (s.timebase + 1000 * s.settings.endingTimeout)) } := by
      have hown' : takeToken n p.token p.source (w.setEntry n ((s.entry n).taken x))
          = stopSession n .userStop (w.setEntry n ((s.entry n).taken x)) := by
        rw [own]
        rcases hq with hq | hq | hq <;> rw [hq]
      rw [hown', State.setEntry_comm w n _ fun v => stopSession_withTable v n .userStop w, stopSession_flow n _ w hq, hdeadline]
    refine toNext (by rcases hq with hq | hq | hq <;> exact hq.trans_ne (by decide))
      (by rcases hq with hq | hq | hq <;> exact hq.trans_ne (by decide)) ?_
    have hwe : (q.state == .ending) = false := by rcases hq with hq | hq | hq <;> rw [hq] <;> rfl
    rw [hstop, hwe]
    refine closingSteps_idle _ _ (fun h => ?_) (fun h => by cases h) ?_
    · rw [State.session_put] at h
      cases h
    · rw [State.session_put]
      exact ⟨SessionState.noConfusion, SessionState.noConfusion, SessionState.noConfusion⟩
  · refine toNext (hq.trans_ne (by decide)) (hq.trans_ne (by decide)) ?_
    rw [own, hq]
    exact closingSteps_idle _ w (fun h => absurd (hq.symm.trans h) (by decide)) (fun _ _ => hpower)
      ⟨hq.trans_ne (by decide), hq.trans_ne (by decide), hq.trans_ne (by decide)⟩
  · refine toNext (hq.trans_ne (by decide)) (hq.trans_ne (by decide)) ?_
    rw [own, hq]
    exact closingSteps_lowPower _ w hq hwhy hpower

/-- Another token, taken as refused before the reply. -/
theorem statusReply_otherToken (hother : ((meterSteps n x.meter s).session n).opening.map (·.token) ≠ some p.token)
    (hopen : (s.session n).state.isOpen = true) :
    exec (.statusReply (x.bytes n)) s = exec (.statusReply (x.bytes n)) (State.setEntry n
      { s.entry n with lastPlug := some x.plug, lastPresentation := some p.number }
      (s.latchPut n 2 (.reason 0x29#8) { s.session n with refusal := some ⟨0x29#8, s.timebase + 5000⟩ })) := by
  have hfree : (s.session n).state ≠ .free := by intro h; rw [h] at hopen; cases hopen
  have hz := s.latchPut_session n 2 (.reason 0x29#8) { s.session n with refusal := some ⟨0x29#8, s.timebase + 5000⟩ }
  have held := statusReply_held (s.latchPut n 2 (.reason 0x29#8) { s.session n with refusal := some ⟨0x29#8, s.timebase + 5000⟩ })
    (s.entry n) hex hfits hfaults hp (by rw [hz]; exact hs)
  rw [hz, meterSteps_latchPut (k := 2) (by decide) _ n x.meter s (by rfl) (by rfl) (by rfl) (by rfl) (by rfl)] at held
  rw [held, statusReply_busyToken hex hfits hfaults hwas hp hlast hnew hs hfree,
    takeToken_other (s := State.setEntry n ((s.entry n).taken x) (meterSteps n x.meter s)) p.token p.source hother
      (by rw [State.setEntry_session, meterSteps_state]; exact hopen),
    refuseToken_setEntry, refuseToken_latchPut, meterSteps_timebase]
  obtain ⟨m, f, h⟩ := meterSteps_session_self n x.meter s
  rw [h]

end

/-- A token at a RELEASED record with the plug in is refused (R9). -/
theorem statusReply_releasedToken {last : Byte} (hex : s.Exchanging n b) (hfits : x.fits = true) (hfaults : x.faults = 0)
    (hwas : s.plugWas n = x.plug) (hp : x.presentation = some p) (hlast : (s.entry n).lastPresentation = some last)
    (hnew : p.number ≠ last) (hs : (s.session n).state = .released) (hplug : x.plug = true) :
    exec (.statusReply (x.bytes n)) s = .next (endExchange ⟨n, b, false⟩ (State.answered n x (s.entry n)
      { meterSteps n x.meter s with
        bus := s.activityBus
        conds := (meterSteps n x.meter s).conds.withPed n 2 (.reason 0x2A#8)
        records := (meterSteps n x.meter s).records.set n (Session.driven
          { (meterSteps n x.meter s).session n with hasPlug := .yes, refusal := some ⟨0x2A#8, s.timebase + 5000⟩ } x
          s.timebase) })) := by
  have hplugged := takePlug_still (n := n) (e := (s.entry n).faulted x) (meterSteps n x.meter s) x.plug
    (by rw [State.plugWas_meterSteps, hwas]) (by rw [meterSteps_state]; exact hs)
  have token := statusReply_token hex hfits hfaults hp hlast hnew hplugged
  have hz := (meterSteps n x.meter s).session_put n { (meterSteps n x.meter s).session n with hasPlug := .yes }
  have hreleased : ((pluggedStill n x.plug (meterSteps n x.meter s)).session n).state = .released := by
    rw [hplug, pluggedStill_plug, hz]
    exact (meterSteps_state n x.meter).trans hs
  have hbus : (meterSteps n x.meter s).bus = s.activityBus := by
    rw [activityBus_busy (n := n) (by rw [hs]; decide), meterSteps_bus]
  rw [quietActivity_busy (n := n) (by rw [hreleased]; decide), takeToken_released _ _ (by exact hreleased), refuseToken_setEntry,
    refuseToken_latchPut, closingSteps_latchPut _ _ (by exact fun h => absurd (hreleased.symm.trans h) (by decide))
      (by exact fun _ h => absurd (hreleased.symm.trans h) (by decide))] at token
  rw [token, hplug, pluggedStill_plug, hz, ← meterSteps_timebase (s := s) n x.meter, ← hbus]
  unfold State.latchPut
  simp only [vector_set_set]

/-- Settles O41: the checks of a token at a FREE or PLUGGED record, the record's own token, another's, and a RELEASED record's. -/
theorem tokensAreRefusedOrStopTheSession : Obligations.TokensAreRefusedOrStopTheSession := by
  intro s n b x p hex hfits hfaults hwas hp e w q st inUse outOfService leaves refused
  have hstate : st = (s.session n).state := meterSteps_state n x.meter
  refine ⟨fun hold hs hu => ?_, fun last hlast hnew => ⟨fun hs => ?_,
    statusReply_ownToken hex hfits hfaults hwas hp hlast hnew, fun hother hs => ⟨fun hu => ?_, ?_⟩,
    fun hs hplug => statusReply_releasedToken hex hfits hfaults hwas hp hlast hnew (hstate ▸ hs) hplug⟩⟩
  · exact statusReply_driven hex ⟨hfits, hfaults, .inr (by rw [hp]; exact hold)⟩ hwas hs hu
  · rw [hstate] at hs
    have hreleased : (s.session n).state ≠ .released := by rcases hs with hs | hs <;> rw [hs] <;> decide
    have checked : ∀ {reason : RefusalReason} {code : Byte}, reason.code = code →
        acceptanceCheck n p.token ((w.withBus s.activityBus).setEntry n (e.taken x)) = some reason → refused code q := by
      rintro reason code rfl hcheck
      exact statusReply_checkedToken hex hfits hfaults hwas hp hlast hnew hreleased hs hcheck
    obtain ⟨hclosed, hout, hused, hfull⟩ := acceptanceCheck_cases n p.token ((w.withBus s.activityBus).setEntry n (e.taken x))
    have hpark : ((w.withBus s.activityBus).setEntry n (e.taken x)).park = s.park := meterSteps_park n x.meter s
    have hentry : ((w.withBus s.activityBus).setEntry n (e.taken x)).entry n = e.taken x := State.entry_setEntry _ _ _
    have hheld : ((w.withBus s.activityBus).setEntry n (e.taken x)).tokenHeldElsewhere n p.token
        = s.tokenHeldElsewhere n p.token := meterSteps_tokenHeldElsewhere n x.meter p.token s
    have hsettlement : ((w.withBus s.activityBus).setEntry n (e.taken x)).settlement = s.settlement :=
      meterSteps_settlement n x.meter
    simp only [hpark, hentry, hheld, hsettlement] at hclosed hout hused hfull
    have hservice := e.taken_outOfService hfaults
    have inService : ¬ outOfService → (e.taken x).outOfService = false := fun h => by
      rw [← Bool.not_eq_true, hservice]
      exact h
    refine ⟨fun h => checked rfl (hclosed h), fun h ho => checked rfl (hout h (hservice.2 ho)), fun h ho hi => checked rfl
      (hused h (inService ho) ((tokenHeldElsewhere_iff _ _ _).2 hi)), fun h ho hi hq => checked (reason := .queueFull) rfl ?_⟩
    rw [hfull h (inService ho) (by rw [← Bool.not_eq_true, tokenHeldElsewhere_iff]; exact hi), if_pos hq]
  all_goals
    have hopen : (s.session n).state.isOpen = true := by
      rw [← hstate]
      rcases hs with hs | hs | hs | hs | hs | hs | hs <;> rw [hs] <;> rfl
    have hreleased : (s.session n).state ≠ .released := by
      intro h
      rw [h] at hopen
      cases hopen
  · refine statusReply_refused hex hfits hfaults hwas hp hlast hnew hreleased hu ?_
    exact takeToken_other p.token p.source hother ((congrArg SessionState.isOpen hstate).trans hopen)
  · exact statusReply_otherToken hex hfits hfaults hwas hp hlast hnew hreleased hother hopen

end Sys2Proof.Machine
end

section
/-! SUPPORT. An accepted token: the session opens with its terms, and is decided in the same event (R11, R38, R41 to R46, R120). -/

namespace Sys2Proof.Machine

variable {s z T : State} {n : Ped} {x : StatusReply} {e : PedestalEntry} {b : Bool} {p : Presentation} {token : Token}
  {source : TokenSource} {o : Opening} {c : CapturedTerms}

/-! ## The session that a token opens -/

/-- The opening of the session that a token opens (R11, R38). -/
def State.openingOf (token : Token) (source : TokenSource) (s : State) : Opening :=
  ⟨s.nextNumber, token, source, s.matchWindow token,
    ((s.matchWindow token).map fun i => (s.windows.get i).account token).getD token, s.stamp⟩

/-- The terms captured for it (R42). -/
def State.termsOf (token : Token) (s : State) : CapturedTerms :=
  ((s.matchWindow token).map fun i => (s.windows.get i).terms).getD noHitTerms

/-- Its record in AUTHORIZING (R11). -/
def Session.openedWith (o : Opening) (c : CapturedTerms) (r : Session) : Session :=
  { r with
    state := .authorizing, hasPlug := if r.state = .plugged then .yes else .no, opening := some o, captured := some c,
    alloc := {}, suspendStart := none }

/-- A slot and the number taken (R41, R120). -/
def State.slotTaken (s : State) : Settlement :=
  { s.settlement with
    reserved := s.settlement.reserved + 1
    counter := if s.nextNumber < 65535 then s.nextNumber + 1 else 1 }

theorem reserveSlot_slotTaken (s : State) : reserveSlot s = { s with settlement := s.slotTaken } := by
  have hnext : ∀ k, numberAfter k = if k < 65535 then k + 1 else 1 := by
    intro k
    unfold numberAfter
    split <;> split <;> omega
  unfold reserveSlot State.slotTaken State.withSettlement
  rw [hnext]

/-- The state with the session opened, before it is decided. -/
def State.openedAt (n : Ped) (token : Token) (source : TokenSource) (s : State) : State :=
  { s with
    settlement := s.slotTaken
    records := s.records.set n ((s.session n).openedWith (s.openingOf token source) (s.termsOf token))
    bus := if (s.session n).state = .free then s.wokenBus else s.bus }

/-- An accepted token opens its session and has it decided. -/
theorem acceptToken_eq (n : Ped) (token : Token) (source : TokenSource) (s : State)
    (hs : (s.session n).state = .free ∨ (s.session n).state = .plugged) :
    acceptToken n token source s =
      decideSession n (s.openingOf token source) (s.termsOf token) (s.openedAt n token source) := by
  have hput : ∀ r : Session, r.state = .authorizing → putSession n r { s with settlement := s.slotTaken }
      = { s with
        settlement := s.slotTaken, records := s.records.set n r
        bus := if (s.session n).state = .free then s.wokenBus else s.bus } := by
    intro r hr
    have hsession : State.session { s with settlement := s.slotTaken } n = s.session n := rfl
    rw [putSession_moved, State.movedBus, hsession, hr]
    rcases hs with hs | hs <;> rw [hs] <;> rfl
  have hsession : (reserveSlot s).session n = s.session n := rfl
  have halloc : ¬ (SessionState.authorizing = .dispensing ∧ (s.session n).state = .dispensing) := fun h => by cases h.1
  unfold acceptToken
  simp only []
  rw [hsession, reserveSlot_slotTaken, hput _ rfl]
  simp only [Session.enter, SessionState.keepsRefusal, if_true, if_neg halloc, reduceCtorEq, if_false]
  rfl

/-! ## The decision -/

theorem decideSession_deny (h : c.mode = .deny) (o : Opening) (s : State) :
    decideSession n o c s = cancelSession n 0x24#8 s := by
  unfold decideSession
  rw [h]
  rfl

theorem decideSession_local {hold : Nat} (h : c.mode = .localMode) (hh : c.localHold = some hold) (o : Opening) (s : State) :
    decideSession n o c s = offerGrant n ⟨.localGrant, hold, c.tariff, c.route, c.baseRank, c.powerCap⟩ s := by
  unfold decideSession CapturedTerms.ownOffer
  rw [h, hh]
  rfl

theorem decideSession_fallback {hold : Nat} (h : c.mode = .referFallback) (hl : s.line.mode = .standalone)
    (hh : c.localHold = some hold) (o : Opening) :
    decideSession n o c s = offerGrant n ⟨.fallback, hold, c.tariff, c.route, c.baseRank, c.powerCap⟩ s := by
  unfold decideSession CapturedTerms.ownOffer
  rw [h, hl, hh]
  rfl

theorem decideSession_noRoute (h : c.mode = .refer) (hl : s.line.mode = .standalone) (o : Opening) :
    decideSession n o c s = cancelSession n 0x25#8 s := by
  unfold decideSession
  rw [h, hl]
  rfl

theorem decideSession_referred (h : c.mode = .refer ∨ c.mode = .referFallback) (hl : s.line.mode = .attended) (o : Opening) :
    decideSession n o c s = { s with
      records := s.records.set n { s.session n with authDeadline := some (s.timebase + 1000 * s.settings.authWait) }
      conds := s.conds.withPed n 3 (.query ⟨o.number, n, o.token, o.source, o.window⟩) } := by
  unfold decideSession
  rcases h with h | h <;> rw [h, hl] <;> rfl

/-- A decision cancels the session, offers it a grant, or refers it. -/
theorem decideSession_cases (n : Ped) (o : Opening) (c : CapturedTerms) (s : State) :
    (∃ reason, decideSession n o c s = cancelSession n reason s) ∨ (∃ g, decideSession n o c s = offerGrant n g s)
      ∨ decideSession n o c s = referSession n o s := by
  unfold decideSession
  cases c.mode with
  | deny => cases s.line.mode <;> exact .inl ⟨_, rfl⟩
  | localMode => cases s.line.mode <;> exact .inr (.inl ⟨_, rfl⟩)
  | refer =>
    cases s.line.mode with
    | standalone => exact .inl ⟨_, rfl⟩
    | attended => exact .inr (.inr rfl)
  | referFallback =>
    cases s.line.mode with
    | standalone => exact .inr (.inl ⟨_, rfl⟩)
    | attended => exact .inr (.inr rfl)

/-! ## What the decision leaves -/

/-- A record that a decision can leave: outside the energy-flow states, not RELEASED, its baseline kept. -/
def Session.Decided (base : Nat) (r : Session) : Prop := r.state.energyFlow = false ∧ r.state ≠ .released ∧ r.baseline = base

theorem cancelSession_decided (n : Ped) (reason : Byte) (s : State) :
    ((cancelSession n reason s).session n).Decided (s.session n).baseline := by
  rw [cancelSession_session_self]
  unfold Session.Decided Session.toCancelled
  by_cases hp : (s.session n).hasPlug = .yes
  · rw [if_pos hp, if_pos hp]
    exact ⟨rfl, by simp, rfl⟩
  · rw [if_neg hp, if_neg hp]
    exact ⟨rfl, by simp, rfl⟩

theorem offerGrant_decided (n : Ped) (o : GrantOffer) (s : State) (hs : (s.session n).state = .authorizing) :
    ((offerGrant n o s).session n).Decided (s.session n).baseline := by
  have hfree : (s.session n).state ≠ .free := by rw [hs]; decide
  by_cases hd : (s.tariffs.get o.tariff).defined = true
  · by_cases hf : (s.tariffs.get o.tariff).startFee ≤ min o.hold s.settings.maxHold
    · rw [offerGrant_taken n o s hd hf]
      by_cases hp : (s.session n).hasPlug = .yes
      · rw [takeGrant_plugged n _ s hfree hp, State.session_put]
        exact ⟨rfl, by simp [Session.probed], rfl⟩
      · rw [takeGrant_unplugged n _ s hfree hp, State.session_put]
        exact ⟨rfl, by simp, rfl⟩
    · rw [offerGrant_holdTooSmall n o s hd (by omega)]
      exact cancelSession_decided n _ s
  · rw [offerGrant_noTariff n o s (by simpa using hd)]
    exact cancelSession_decided n _ s

theorem decideSession_decided (n : Ped) (o : Opening) (c : CapturedTerms) (s : State) (hs : (s.session n).state = .authorizing) :
    ((decideSession n o c s).session n).Decided (s.session n).baseline := by
  have referred : ((referSession n o s).session n).Decided (s.session n).baseline := by
    have hsession : (referSession n o s).session n
        = { s.session n with authDeadline := some (s.after s.settings.authWait) } := get_set_self _ _ _
    rw [hsession]
    exact ⟨by simp only [hs]; rfl, by simp [hs], rfl⟩
  rcases decideSession_cases n o c s with ⟨reason, h⟩ | ⟨g, h⟩ | h <;> rw [h]
  · exact cancelSession_decided n reason s
  · exact offerGrant_decided n g s hs
  · exact referred

theorem cancelSession_exchanging (reason : Byte) (h : s.Exchanging n b) : (cancelSession n reason s).Exchanging n b := by
  have hput : (putSession n ((releaseSlot s).session n).toCancelled (releaseSlot s)).Exchanging n b :=
    putSession_exchanging _ h
  unfold cancelSession
  simp only []
  generalize putSession n ((releaseSlot s).session n).toCancelled (releaseSlot s) = z at hput ⊢
  exact hput

theorem offerGrant_exchanging (o : GrantOffer) (h : s.Exchanging n b) : (offerGrant n o s).Exchanging n b := by
  unfold offerGrant
  cases checkGrant n o s with
  | error reason => exact cancelSession_exchanging _ h
  | ok g =>
    unfold takeGrant
    simp only []
    split
    · unfold enterProbing startAttempt
      exact putSession_exchanging (s := State.setSession n { s.session n with grant := some g, captured := none, authDeadline := none } s) _ h
    · exact putSession_exchanging (s := State.setSession n { s.session n with grant := some g, captured := none, authDeadline := none } s) _ h

theorem decideSession_exchanging (o : Opening) (c : CapturedTerms) (h : s.Exchanging n b) :
    (decideSession n o c s).Exchanging n b := by
  rcases decideSession_cases n o c s with ⟨reason, hd⟩ | ⟨g, hd⟩ | hd <;> rw [hd]
  · exact cancelSession_exchanging reason h
  · exact offerGrant_exchanging g h
  · exact h

theorem decideSession_setEntry (o : Opening) (c : CapturedTerms) (e : PedestalEntry) (s : State)
    (h : e.floor = (s.entry n).floor) : decideSession n o c (s.setEntry n e) = (decideSession n o c s).setEntry n e := by
  rw [State.setEntry_eq_withTable, decideSession_withTable o c (by rw [get_set_self, h]), State.setEntry_eq_withTable,
    State.pedestals_of_withTable (decideSession_withTable o c rfl)]

end Sys2Proof.Machine
end

section
/-! SUPPORT. O40: an accepted token in its reply, at a FREE or PLUGGED record, also beside the plug-in (R5, R7, R8, R11, R41 to R46). -/

namespace Sys2Proof.Machine

variable {s z : State} {n : Ped} {x : StatusReply} {e : PedestalEntry} {b : Bool} {p : Presentation} {token : Token}
  {source : TokenSource} {r : Session} {conds : Conditions} {bus : Bus}

/-! ## The state in which the token is offered -/

/-- The state with record, conditions, bus and entry of a pedestal moved. -/
def State.offered (n : Ped) (r : Session) (conds : Conditions) (bus : Bus) (e : PedestalEntry) (s : State) : State :=
  State.setEntry n e { s with records := s.records.set n r, conds := conds, bus := bus }

theorem State.offered_session (n : Ped) (r : Session) (conds : Conditions) (bus : Bus) (e : PedestalEntry) (s : State) :
    (s.offered n r conds bus e).session n = r := get_set_self _ _ _

theorem State.offered_session_ne {m : Ped} (h : m ≠ n) : (s.offered n r conds bus e).session m = s.session m := get_set_ne _ h _

theorem State.offered_entry (n : Ped) (r : Session) (conds : Conditions) (bus : Bus) (e : PedestalEntry) (s : State) :
    (s.offered n r conds bus e).entry n = e := get_set_self _ _ _

/-- The next number depends on the numbers held, which no record that is not open holds (R120). -/
theorem State.offered_nextNumber (hs : (s.session n).state.isOpen = false) (hr : r.state.isOpen = false) :
    (s.offered n r conds bus e).nextNumber = s.nextNumber := by
  have hheld : (s.offered n r conds bus e).heldNumbers = s.heldNumbers := by
    unfold State.heldNumbers
    rw [State.records_toList, State.records_toList, List.filterMap_map, List.filterMap_map]
    refine congrArg (· ++ _) (List.filterMap_congr fun m _ => ?_)
    by_cases hm : m = n
    · subst hm
      simp only [Function.comp_apply, State.offered_session, hs, hr]
      rfl
    · simp only [Function.comp_apply, State.offered_session_ne hm]
  unfold State.nextNumber
  rw [hheld]
  rfl

theorem State.offered_openingOf (hs : (s.session n).state.isOpen = false) (hr : r.state.isOpen = false) (token : Token)
    (source : TokenSource) : (s.offered n r conds bus e).openingOf token source = s.openingOf token source := by
  unfold State.openingOf
  rw [State.offered_nextNumber hs hr]
  rfl

/-- The opened state, from the state in which the token is offered. -/
theorem State.offered_openedAt (hs : (s.session n).state.isOpen = false) (hr : r.state.isOpen = false) (token : Token)
    (source : TokenSource) : (s.offered n r conds bus e).openedAt n token source = State.setEntry n e { s with
      settlement := s.slotTaken
      conds := conds
      records := s.records.set n (r.openedWith (s.openingOf token source) (s.termsOf token))
      bus := if r.state = .free then (s.offered n r conds bus e).wokenBus else bus } := by
  have hslot : (s.offered n r conds bus e).slotTaken = s.slotTaken := by
    unfold State.slotTaken
    rw [State.offered_nextNumber hs hr]
    rfl
  have hterms : (s.offered n r conds bus e).termsOf token = s.termsOf token := rfl
  unfold State.openedAt
  rw [hslot, State.offered_openingOf hs hr, hterms, State.offered_session]
  unfold State.offered State.setEntry
  simp only [vector_set_set]

/-- An offered token passes every check (R39). -/
theorem State.offered_accepted (hpark : s.park = .opened) (he : e.outOfService = false)
    (helsewhere : s.tokenHeldElsewhere n token = false) (hfull : s.settlement.full = false) :
    acceptanceCheck n token (s.offered n r conds bus e) = none := by
  obtain ⟨-, -, -, hcheck⟩ := acceptanceCheck_cases n token (s.offered n r conds bus e)
  have hsettlement : (s.offered n r conds bus e).settlement = s.settlement := rfl
  rw [hcheck hpark (by rw [State.offered_entry]; exact he)
    ((tokenHeldElsewhere_congr token fun m hm => State.offered_session_ne hm).trans helsewhere), hsettlement, hfull]
  rfl

/-- An accepted token in the state in which it is offered. -/
theorem takeToken_offered_accepted (hr : r.state = .free ∨ r.state = .plugged)
    (hcheck : acceptanceCheck n token (s.offered n r conds bus e) = none) :
    takeToken n token source (s.offered n r conds bus e) =
      decideSession n ((s.offered n r conds bus e).openingOf token source) ((s.offered n r conds bus e).termsOf token)
        ((s.offered n r conds bus e).openedAt n token source) := by
  rw [takeToken_offered _ _ (by rw [State.offered_session]; exact hr)]
  unfold offerToken
  rw [hcheck]
  exact acceptToken_eq n token source _ (by rw [State.offered_session]; exact hr)

/-! ## The accepted session of a reply -/

/-- The state with the session opened that the token of a reply opens, before it is decided: the statement's own. -/
def State.accepted (n : Ped) (x : StatusReply) (p : Presentation) (s : State) : State :=
  { s with
    bus := if (s.session n).state = .free then s.wokenBus else s.bus
    settlement := s.slotTaken
    conds := if s.plugWas n = false ∧ x.plug = true then s.conds.withPed n 0 .none else s.conds
    records := s.records.set n { s.session n with
      state := .authorizing
      hasPlug := if (s.session n).state = .plugged ∨ (s.plugWas n = false ∧ x.plug = true) then .yes else .no
      refusal := if s.plugWas n = false ∧ x.plug = true then none else (s.session n).refusal
      opening := some (s.openingOf p.token p.source)
      captured := some (s.termsOf p.token)
      alloc := {}
      baseline := x.meter
      suspendStart := none } }

theorem activityBus_wokenBus (s : State) : (s.withBus s.activityBus).wokenBus = s.wokenBus := by
  have h := quietActivity_wokenBus s
  rwa [quietActivity_withBus] at h

/-- The plug of the reply and the activity leave a state in which the token is offered, and opening the session there is
opening it in the state before the reply. -/
theorem offered_of_reply (hst : (s.session n).state = .free ∨ (s.session n).state = .plugged)
    (hplug : s.plugWas n = x.plug ∨ x.plug = true) :
    ∃ z r conds bus,
      takePlug n x.plug ((meterSteps n x.meter s).setEntry n ((s.entry n).faulted x)) = z.setEntry n ((s.entry n).faulted x)
      ∧ (quietActivity z).setEntry n ((s.entry n).taken x) = s.offered n r conds bus ((s.entry n).taken x)
      ∧ (r.state = .free ∨ r.state = .plugged)
      ∧ (s.offered n r conds bus ((s.entry n).taken x)).openedAt n p.token p.source
        = (s.accepted n x p).setEntry n ((s.entry n).taken x) := by
  have hopen : (s.session n).state.isOpen = false := by rcases hst with h | h <;> rw [h] <;> rfl
  have hflow : (s.session n).state.energyFlow = false := by rcases hst with h | h <;> rw [h] <;> rfl
  have hmeter := meterSteps_outsideFlow n x.meter s hflow
  by_cases hcame : s.plugWas n = false ∧ x.plug = true
  · obtain ⟨hwas, hin⟩ := hcame
    have hcame : s.plugWas n = false ∧ x.plug = true := ⟨hwas, hin⟩
    have hplugged := takePlug_in (n := n) (e := (s.entry n).faulted x) (meterSteps n x.meter s)
      (by rw [State.plugWas_meterSteps, hwas])
    rw [hin]
    rcases hst with hst | hst
    · refine ⟨_, { s.session n with
        baseline := x.meter, hasPlug := .yes, refusal := none, state := .plugged, alloc := {}, suspendStart := none },
        s.conds.withPed n 0 .none, s.wokenBus, hplugged, ?_, .inr rfl, ?_⟩
      · rw [pluggedIn_free (by rw [meterSteps_state]; exact hst), quietActivity_busy (n := n), meterSteps_wokenBus, hmeter]
        · unfold State.offered State.setEntry State.withBus State.latchPut
          simp only [vector_set_set, State.session, get_set_self]
        · exact (congrArg Session.state (State.latchPut_session n 0 .none _ _)).trans_ne (by simp)
      · rw [State.offered_openedAt hopen rfl]
        unfold State.accepted Session.openedWith
        simp only [hst, hcame, and_self, or_true, if_true, reduceCtorEq, if_false]
    · refine ⟨_, { s.session n with baseline := x.meter, hasPlug := .yes, refusal := none }, s.conds.withPed n 0 .none, s.bus,
        hplugged, ?_, .inr hst, ?_⟩
      · rw [pluggedIn_kept (by rw [meterSteps_state, hst]; decide) (by rw [meterSteps_state, hst]; decide),
          quietActivity_busy (n := n), hmeter]
        · unfold State.offered State.setEntry State.latchPut
          simp only [vector_set_set, State.session, get_set_self]
        · rw [State.latchPut_session]
          exact (meterSteps_state n x.meter).trans_ne (by rw [hst]; decide)
      · rw [State.offered_openedAt hopen (by exact hopen)]
        unfold State.accepted Session.openedWith
        simp only [hst, hcame, and_self, or_true, if_true, reduceCtorEq, if_false]
  · have hwas : s.plugWas n = x.plug := by
      rcases hplug with h | h
      · exact h
      · rw [h]
        by_contra hne
        exact hcame ⟨by simpa using hne, h⟩
    refine ⟨meterSteps n x.meter s, { s.session n with baseline := x.meter }, s.conds, s.activityBus, ?_, ?_, hst, ?_⟩
    · exact takePlug_unchanged n x.plug _ (by rw [State.plugWas_meterSteps, hwas])
        (by rw [State.setEntry_session, meterSteps_state]; rcases hst with h | h <;> rw [h] <;> decide)
    · rw [quietActivity_withBus, meterSteps_activityBus, hmeter]
      unfold State.offered State.setEntry State.withBus
      simp only [vector_set_set]
    · have hbus : (if ({ s.session n with baseline := x.meter } : Session).state = .free then
            (s.offered n { s.session n with baseline := x.meter } s.conds s.activityBus ((s.entry n).taken x)).wokenBus
          else s.activityBus) = if (s.session n).state = .free then s.wokenBus else s.bus := by
        rcases hst with hst | hst
        · rw [if_pos hst, if_pos hst]
          exact activityBus_wokenBus s
        · have hfree : (s.session n).state ≠ .free := by rw [hst]; decide
          rw [if_neg hfree, if_neg hfree, activityBus_busy hfree]
      rw [State.offered_openedAt hopen (by exact hopen), hbus]
      unfold State.accepted Session.openedWith
      simp only [hcame, or_false, if_false]

theorem State.accepted_session (n : Ped) (x : StatusReply) (p : Presentation) (s : State) :
    ((s.accepted n x p).session n).state = .authorizing ∧ ((s.accepted n x p).session n).baseline = x.meter := by
  have h : (s.accepted n x p).session n = _ := get_set_self _ _ _
  rw [h]
  exact ⟨rfl, rfl⟩

theorem State.accepted_exchanging (hex : s.Exchanging n b) : (s.accepted n x p).Exchanging n b := by
  unfold State.Exchanging State.accepted State.wokenBus
  simp only []
  split <;> exact hex

section
variable {last : Byte} (hex : s.Exchanging n b) (hfits : x.fits = true) (hfaults : x.faults = 0)
  (hplug : s.plugWas n = x.plug ∨ x.plug = true) (hp : x.presentation = some p)
  (hlast : (s.entry n).lastPresentation = some last) (hnew : p.number ≠ last)
  (hst : (s.session n).state = .free ∨ (s.session n).state = .plugged) (hpark : s.park = .opened)
  (hblocked : (s.entry n).blocked = false) (hlink : (s.entry n).link = .online)
  (hestop : (s.entry n).estop = false ∨ x.released = true)
  (hother : ∀ m o, m ≠ n → (s.session m).state.isOpen = true → (s.session m).opening = some o → o.token ≠ p.token)
  (hfull : s.settlement.full = false)
include hex hfits hfaults hplug hp hlast hnew hst hpark hblocked hlink hestop hother hfull

/-- A reply with a token that is accepted: the session is opened, decided, and left to the reply's later fields. -/
theorem statusReply_accepted :
    exec (.statusReply (x.bytes n)) s = .next (endExchange ⟨n, b, false⟩ (closingSteps n false x (State.setEntry n
      ((s.entry n).taken x)
      (decideSession n (s.openingOf p.token p.source) (s.termsOf p.token) (s.accepted n x p))))) := by
  obtain ⟨z, r, conds, bus, htaken, hoffered, hr, hopened⟩ := offered_of_reply (p := p) hst hplug
  have hopen : (s.session n).state.isOpen = false := by rcases hst with h | h <;> rw [h] <;> rfl
  have hropen : r.state.isOpen = false := by rcases hr with h | h <;> rw [h] <;> rfl
  have hwe : ((s.session n).state == .ending) = false := by rcases hst with h | h <;> rw [h] <;> rfl
  have hservice : ((s.entry n).taken x).outOfService = false := by
    rw [← Bool.not_eq_true, PedestalEntry.taken_outOfService _ hfaults, hblocked, hlink]
    rcases hestop with h | h <;> simp [h]
  have helsewhere : s.tokenHeldElsewhere n p.token = false := by
    rw [← Bool.not_eq_true, tokenHeldElsewhere_iff]
    rintro ⟨m, o, hm, ho, hopening, htoken⟩
    exact hother m o hm ho hopening htoken
  have hdecide := takeToken_offered_accepted (source := p.source) hr
    (State.offered_accepted (r := r) (conds := conds) (bus := bus) hpark hservice helsewhere hfull)
  have hterms : (s.offered n r conds bus ((s.entry n).taken x)).termsOf p.token = s.termsOf p.token := rfl
  rw [statusReply_token hex hfits hfaults hp hlast hnew htaken, hoffered, hdecide, State.offered_openingOf hopen hropen, hterms,
    hopened, hwe, decideSession_setEntry]
  rfl

/-- The same once more, as the outcome where the result of the probe is absent, and as a reduction to the decided state. -/
theorem statusReply_decided :
    let z := decideSession n (s.openingOf p.token p.source) (s.termsOf p.token) (s.accepted n x p)
    (x.probe = .none → exec (.statusReply (x.bytes n)) s = .next (endExchange ⟨n, b, false⟩ (z.answered n x (s.entry n))))
    ∧ exec (.statusReply (x.bytes n)) s = exec (.statusReply (x.bytes n))
        { z with
          pedestals := s.pedestals.set n { s.entry n with lastPlug := some x.plug, lastPresentation := some p.number } } := by
  intro z
  have reply := statusReply_accepted hex hfits hfaults hplug hp hlast hnew hst hpark hblocked hlink hestop hother hfull
  obtain ⟨hauth, hbase⟩ := s.accepted_session n x p
  have hdecided : (z.session n).Decided x.meter := hbase ▸ decideSession_decided n _ _ _ hauth
  have htable : z.pedestals = s.pedestals := State.pedestals_of_withTable (decideSession_withTable _ _ rfl)
  have hexchanging : z.Exchanging n b := decideSession_exchanging _ _ (State.accepted_exchanging hex)
  obtain ⟨hflow, hreleased, hmeter⟩ := hdecided
  have hending : ((z.session n).state == .ending) = false := beq_eq_false_iff_ne.2 fun h => by
    rw [h] at hflow
    cases hflow
  refine ⟨fun hprobe => ?_, ?_⟩
  · rw [reply, closingSteps_probed_idle (e' := s.entry n) (z' := z) (by rw [hprobe]; exact takeProbe_idle _ _ fun _ => rfl) hflow]
  · have hset : ({ z with
          pedestals := s.pedestals.set n { s.entry n with lastPlug := some x.plug, lastPresentation := some p.number } } : State)
        = z.setEntry n { s.entry n with lastPlug := some x.plug, lastPresentation := some p.number } := by
      rw [← htable]
      rfl
    have hbased : z.based n x.meter = z := by
      unfold State.based
      rw [← hmeter]
      exact setSession_same z n
    rw [hset, statusReply_held z (s.entry n) hexchanging hfits hfaults hp hreleased, hending, meterSteps_based n _ z hflow,
      hbased, State.setEntry_setEntry]
    exact reply

end

end Sys2Proof.Machine
end

section
/-! SUPPORT. O40: a token hitting a LOCAL window, and every accepted token by mode and link. -/

namespace Sys2Proof.Machine

variable {s : State} {n : Ped} {x : StatusReply} {b : Bool} {p : Presentation} {token : Token}

/-- The account reference of a token, hit or not (R38). -/
theorem State.openingOf_account (token : Token) (source : TokenSource) (s : State) :
    (s.openingOf token source).account = (s.matchWindow token).elim token fun i =>
      let w := s.windows.get i
      if w.translateEnabled then (w.translate &&& w.mask) ||| (token &&& ~~~w.mask) else token := by
  unfold State.openingOf
  cases s.matchWindow token <;> rfl

/-- The LOCAL grant of a session opened at a FREE record. -/
theorem decideSession_localGranted {i : Fin 12} (o : Opening) (s u : State) (hhit : s.matchWindow token = some i)
    (hmode : (s.windows.get i).mode = .localMode) (hdefined : (u.tariffs.get (s.windows.get i).tariff).defined = true)
    (hfee : (u.tariffs.get (s.windows.get i).tariff).startFee ≤ min (s.windows.get i).localHold u.settings.maxHold)
    (hauth : (u.session n).state = .authorizing) (hp : (u.session n).hasPlug ≠ .yes) :
    decideSession n o (s.termsOf token) u = { u with
      records := u.records.set n { u.session n with
        state := .authorized
        grant := some ⟨.localGrant, (s.windows.get i).tariff, min (s.windows.get i).localHold u.settings.maxHold,
          (s.windows.get i).route, (s.windows.get i).baseRank, (s.windows.get i).powerCap.map fun c => max c (u.entry n).floor⟩
        captured := none, authDeadline := none, alloc := {}, suspendStart := none
        plugDeadline := some (u.timebase + 1000 * u.settings.plugWait) } } := by
  have hterms : s.termsOf token = (s.windows.get i).terms := by
    unfold State.termsOf
    rw [hhit]
    rfl
  rw [hterms, decideSession_local hmode rfl, offerGrant_taken n _ u hdefined hfee,
    takeGrant_unplugged n _ u (by rw [hauth]; decide) hp]
  rfl

/-- Settles O40: a LOCAL grant in the one event, and every accepted token by the mode of its window and the link. -/
theorem acceptedTokensOpenAndDecideASession : Obligations.AcceptedTokensOpenAndDecideASession := by
  refine ⟨fun s n b x p last i base hex hfits hfaults hout hsteady hblocked hlast hp hnew hrecord hpark hfull hother hhit => ?_,
    fun s n b x p last hex hfits hfaults hplug hp hlast hnew => ?_⟩
  · intro w t hold hmode hdefined hfee
    obtain ⟨hlink, hestop, hheld⟩ := hsteady
    have hwas : s.plugWas n = false := by
      unfold State.plugWas
      rw [hheld]
    have hfree : (s.session n).state = .free := by rw [hrecord]
    have hcame : ¬ (s.plugWas n = false ∧ x.plug = true) := fun h => by rw [hout] at h; cases h.2
    have reply := statusReply_accepted hex hfits hfaults (.inl (hwas.trans hout.symm)) hp hlast hnew (.inl hfree) hpark hblocked hlink
      (.inl hestop) hother hfull
    have hsession : (s.accepted n x p).session n = { ({} : Session) with
        state := .authorizing, opening := some (s.openingOf p.token p.source), captured := some (s.termsOf p.token)
        baseline := x.meter } := by
      have h : (s.accepted n x p).session n = _ := get_set_self _ _ _
      rw [h]
      simp only [hrecord, hcame, or_false, if_false, reduceCtorEq]
    rw [reply, decideSession_localGranted (token := p.token) _ s (s.accepted n x p) hhit hmode hdefined hfee
      (by rw [hsession]) (by rw [hsession]; simp), closingSteps_resting _ _ (State.session_put _ n _) (by simp) rfl]
    refine congrArg (fun z => Host.Outcome.next (endExchange ⟨n, b, false⟩ z)) ?_
    have hentry : (s.entry n).replied x = { (s.entry n).metered x.meter with lastPresentation := some p.number } := by
      unfold PedestalEntry.replied PedestalEntry.metered
      simp [hp, hfaults, hblocked, hestop, hlink, hheld, hout]
    have hopening : s.openingOf p.token p.source = ⟨s.nextNumber, p.token, p.source, some i,
        if w.translateEnabled then (w.translate &&& w.mask) ||| (p.token &&& ~~~w.mask) else p.token, s.stamp⟩ := by
      unfold State.openingOf
      rw [hhit]
      rfl
    unfold State.answered
    rw [hentry, if_neg (by rw [hlink]; decide), hsession, hopening]
    unfold State.accepted State.slotTaken
    simp only [vector_set_set, hfree, if_true, hcame, if_false]
    rfl
  · intro e r came hst hpark hblocked hlink hestop hother hfull hit account c opened u leaves
    have hc : c = s.termsOf p.token := by
      show (match s.matchWindow p.token with | some i => _ | none => _) = _
      unfold State.termsOf
      cases s.matchWindow p.token <;> rfl
    have hu : s.accepted n x p = u := by
      have haccount : (s.openingOf p.token p.source).account = account := State.openingOf_account _ _ _
      have hopening : s.openingOf p.token p.source = ⟨s.nextNumber, p.token, p.source, hit, account, s.stamp⟩ := by
        rw [← haccount]
        rfl
      unfold State.accepted
      rw [hopening, ← hc]
      rfl
    have decided := statusReply_decided hex hfits hfaults hplug hp hlast hnew hst hpark hblocked hlink hestop hother hfull
    rw [← hc, hu] at decided
    have leaves_of : ∀ {z : State}, decideSession n (s.openingOf p.token p.source) c u = z → leaves z := by
      rintro z rfl
      exact decided
    have hsession : u.session n = opened := get_set_self _ _ _
    have hrecords : ∀ q, u.records.set n q = s.records.set n q := fun q => vector_set_set s.records n opened q
    have htime : u.timebase + 1000 * u.settings.authWait = s.timebase + 1000 * s.settings.authWait := rfl
    have hline : u.line = s.line := rfl
    clear_value leaves u
    refine ⟨fun h => leaves_of (decideSession_deny h _ u), fun hold h hh => leaves_of (decideSession_local h hh _ u),
      fun hold h hl hh => leaves_of (decideSession_fallback h (by rw [hline, hl]) hh _),
      fun h hl => leaves_of (decideSession_noRoute h (by rw [hline, hl]) _),
      fun h hl => leaves_of ((decideSession_referred h (by rw [hline, hl]) _).trans ?_)⟩
    rw [hsession, hrecords, htime]
    rfl

end Sys2Proof.Machine
end

section
/-! SUPPORT. What a step can do to the sessions and to the tariffs: a record carries on what it holds, a token opens a session, a
session takes a grant, or a tariff that no session uses is replaced (R11, R12, R40, R45, R131 to R133). -/

namespace Sys2Proof.Machine

variable {s t u : State} {n : Ped}

/-! ## What a record carries on -/

/-- What a record holds of its session afterwards it held before: an open session is the one that was open, and a grant is the
one that was held, in a granted state if it was in one (R11, R12). -/
structure Session.CarriedTo (r r' : Session) : Prop where
  opening : r'.state.isOpen = true → r.state.isOpen = true ∧ r'.opening = r.opening
  grant : ∀ g, r'.grant = some g → r.grant = some g ∧ (r.state.granted = true → r'.state.granted = true)

namespace Session.CarriedTo

variable {r r' : Session}

/-- A record that stays in its state, with its opening and grant. -/
theorem of_state (hs : r'.state = r.state) (ho : r'.opening = r.opening) (hg : r'.grant = r.grant) : r.CarriedTo r' :=
  ⟨fun h => ⟨hs ▸ h, ho⟩, fun _ h => ⟨hg ▸ h, fun hr => hs ▸ hr⟩⟩

protected theorem rfl : r.CarriedTo r := of_state rfl rfl rfl

/-- A session that moves on to a granted state. -/
theorem moved (hr : r.state.isOpen = true) (hr' : r'.state.granted = true) (ho : r'.opening = r.opening)
    (hg : r'.grant = r.grant) : r.CarriedTo r' :=
  ⟨fun _ => ⟨hr, ho⟩, fun _ h => ⟨hg ▸ h, fun _ => hr'⟩⟩

/-- A record that holds no session any more. -/
theorem freed (hr' : r'.state.isOpen = false) (hg : r'.grant = none) : r.CarriedTo r' :=
  ⟨fun h => by simp [hr'] at h, fun g h => by simp [hg] at h⟩

theorem cancelled (d : Option RefusalDisplay) : r.CarriedTo { r.toCancelled with refusal := d } := by
  refine freed ?_ rfl
  unfold Session.toCancelled
  by_cases hp : r.hasPlug = .yes <;> simp [hp, SessionState.isOpen]

theorem closed (why : Option EndReason) : r.CarriedTo (Session.toClosed { r with endReason := why }) := by
  unfold Session.toClosed
  split <;> exact freed rfl rfl

/-- A FREE record whose plug has come in (R7). -/
theorem plugged (hs : r.state = .free) : r.CarriedTo (r.enter .plugged) :=
  ⟨fun h => (by cases h), fun _ hg => ⟨hg, fun h => by simp [hs, SessionState.granted] at h⟩⟩

/-- The accrual of a meter count touches meter and flags alone (R59 to R63). -/
theorem accrued (clock : Option Clock) (t : Tariff) (d baseline : Nat) :
    r.CarriedTo { r.accrueDelta clock t d with baseline := baseline } := by
  unfold Session.accrueDelta
  split
  · exact of_state rfl rfl rfl
  · split <;> exact of_state rfl rfl rfl

end Session.CarriedTo

/-! ## Moves -/

/-- The tariff of an index stays, or it is replaced by a valid one while no session is under it (R131 to R133). -/
def State.TariffSpared (s t : State) (i : Fin 8) : Prop :=
  t.tariffs.get i = s.tariffs.get i ∨ (t.tariffs.get i).Valid ∧ ¬ t.UsesTariff i

/-- One move of sessions and tariffs. -/
inductive State.Move (s t : State) : Prop
  /-- every record carries on what it holds -/
  | carried (records : ∀ n, (s.session n).CarriedTo (t.session n)) (tariffs : ∀ i, s.TariffSpared t i)
  /-- a token that no other open session holds opens a session (R11, R40) -/
  | opened (n : Ped) (o : Opening) (others : ∀ m, m ≠ n → t.session m = s.session m) (tariffs : t.tariffs = s.tariffs)
      (wasClosed : (s.session n).state.isOpen = false) (opening : (t.session n).opening = some o)
      (grant : (t.session n).grant = (s.session n).grant) (apart : s.tokenHeldElsewhere n o.token = false)
  /-- an open session takes a grant that a defined tariff covers (R12, R45) -/
  | granted (n : Ped) (g : Grant) (others : ∀ m, m ≠ n → t.session m = s.session m) (tariffs : t.tariffs = s.tariffs)
      (wasOpen : (s.session n).state.isOpen = true) (opening : (t.session n).opening = (s.session n).opening)
      (grant : (t.session n).grant = some g) (state : (t.session n).state.granted = true)
      (covered : (s.tariffOf g).defined = true ∧ (s.tariffOf g).startFee ≤ g.hold)

/-- What a run of moves can make of a state. -/
def State.Moves : State → State → Prop := Relation.ReflTransGen State.Move

namespace State.Moves

protected theorem refl (s : State) : s.Moves s := Relation.ReflTransGen.refl

theorem trans (h : s.Moves t) (h' : t.Moves u) : s.Moves u := Relation.ReflTransGen.trans h h'

theorem of_move (h : s.Move t) : s.Moves t := Relation.ReflTransGen.single h

/-- What every move keeps, moves keep. -/
theorem keeps {P : State → Prop} (hm : s.Moves t) (hP : ∀ a b : State, a.Move b → P a → P b) (h : P s) : P t := by
  induction hm with
  | refl => exact h
  | tail _ hmove ih => exact hP _ _ hmove ih

/-- One record carries on what it holds, and the others and the tariffs stay. -/
theorem update (others : ∀ m, m ≠ n → t.session m = s.session m) (hn : (s.session n).CarriedTo (t.session n))
    (tariffs : t.tariffs = s.tariffs) : s.Moves t :=
  of_move <| .carried (fun m => by
    by_cases hm : m = n
    · subst hm; exact hn
    · rw [others m hm]; exact .rfl) fun i => .inl (by rw [tariffs])

/-- What touches neither records nor tariffs. -/
theorem of_frame (records : t.records = s.records) (tariffs : t.tariffs = s.tariffs) : s.Moves t :=
  have hsession : ∀ m, t.session m = s.session m := fun m => by unfold State.session; rw [records]
  update (n := 0) (fun m _ => hsession m) (by rw [hsession 0]; exact .rfl) tariffs

/-- Sixteen operations, one for each pedestal. -/
theorem forPedestals {f : Ped → State → State} (h : ∀ (n : Ped) (u : State), u.Moves (f n u)) (s : State) :
    s.Moves (forPedestals f s) :=
  forPedestals_induction (.refl s) fun n u hu => hu.trans (h n u)

end State.Moves

/-! ## What moves keep -/

/-- The tokens of the open sessions stay apart: only a token held nowhere else opens a session (R40). -/
theorem State.Move.keeps_tokens (h : s.Move t) (law : s.TokensLaw) : t.TokensLaw := by
  intro m k hmk hm hk
  cases h with
  | carried records _ =>
    obtain ⟨hm', em⟩ := (records m).opening hm
    obtain ⟨hk', ek⟩ := (records k).opening hk
    rw [em, ek]
    exact law m k hmk hm' hk'
  | granted n g others _ wasOpen opening _ _ _ =>
    have same : ∀ j, (t.session j).state.isOpen = true →
        (s.session j).state.isOpen = true ∧ (t.session j).opening = (s.session j).opening := by
      intro j hj
      by_cases hjn : j = n
      · subst hjn; exact ⟨wasOpen, opening⟩
      · rw [others j hjn] at hj ⊢; exact ⟨hj, rfl⟩
    rw [(same m hm).2, (same k hk).2]
    exact law m k hmk (same m hm).1 (same k hk).1
  | opened n o others _ _ opening _ apart =>
    have fresh : ∀ j, j ≠ n → (s.session j).state.isOpen = true → (s.session j).opening.map (·.token) ≠ some o.token := by
      intro j hjn hj e
      have := List.any_eq_false.1 apart j (mem_all j)
      cases ho : (s.session j).opening <;> simp_all
    by_cases hmn : m = n
    · subst hmn
      rw [others k hmk.symm] at hk ⊢
      rw [opening]
      exact (fresh k hmk.symm hk).symm
    · rw [others m hmn] at hm ⊢
      by_cases hkn : k = n
      · subst hkn
        rw [opening]
        exact fresh m hmn hm
      · rw [others k hkn] at hk ⊢
        exact law m k hmk hm hk

/-- Tariffs stay cleared or valid. -/
theorem State.Move.keeps_valid (h : s.Move t) (law : ∀ i, (s.tariffs.get i).Valid) (i : Fin 8) : (t.tariffs.get i).Valid := by
  cases h with
  | carried _ tariffs => exact (tariffs i).elim (fun e => e ▸ law i) And.left
  | opened _ _ _ tariffs | granted _ _ _ tariffs => rw [tariffs]; exact law i

/-- Grants stay covered: a grant is taken under a tariff that covers it, and no tariff in use is replaced (R45, R133). -/
theorem State.Move.keeps_grants (h : s.Move t) (law : s.GrantLaw) : t.GrantLaw := by
  intro m g hg
  have kept : t.tariffs = s.tariffs → t.session m = s.session m →
      (t.session m).state.granted ∧ (t.tariffOf g).defined ∧ (t.tariffOf g).startFee ≤ g.hold := by
    intro tariffs e
    unfold State.tariffOf
    rw [tariffs, e]
    exact law m g (e ▸ hg)
  cases h with
  | carried records tariffs =>
    obtain ⟨hs, carry⟩ := (records m).grant g hg
    obtain ⟨hstate, hdefined, hfee⟩ := law m g hs
    have same : t.tariffOf g = s.tariffOf g :=
      (tariffs g.tariff).resolve_right fun ⟨_, unused⟩ => unused ⟨m, g, carry hstate, hg, rfl⟩
    rw [same]
    exact ⟨carry hstate, hdefined, hfee⟩
  | opened n o others tariffs wasClosed _ grant _ =>
    by_cases hm : m = n
    · subst hm
      have hstate := (law m g (grant ▸ hg)).1
      cases hs : (s.session m).state <;> simp [hs, SessionState.isOpen, SessionState.granted] at wasClosed hstate
    · exact kept tariffs (others m hm)
  | granted n g' others tariffs _ _ grant state covered =>
    by_cases hm : m = n
    · subst hm
      obtain rfl : g' = g := Option.some.inj (grant.symm.trans hg)
      unfold State.tariffOf
      rw [tariffs]
      exact ⟨state, covered⟩
    · exact kept tariffs (others m hm)

end Sys2Proof.Machine
end

section
/-! SUPPORT. The operations on one session are moves: cancel, close, ENDING, grant, probe, token, and the fields of a good reply. -/

namespace Sys2Proof.Machine

variable {s t : State} {n : Ped}

/-! ## Records -/

theorem setSession_moves {r : Session} (h : (s.session n).CarriedTo r) : s.Moves (s.setSession n r) :=
  .update (n := n) (fun _ hm => State.session_setSession_ne s hm r) (by simpa using h) rfl

theorem putSession_moves {r : Session} (h : (s.session n).CarriedTo r) : s.Moves (putSession n r s) := by
  obtain ⟨b, e⟩ := putSession_records n r s
  rw [e]
  exact (setSession_moves h).trans (.of_frame rfl rfl)

theorem State.Moves.setSession {r : Session} (h : s.Moves t) (hr : (t.session n).CarriedTo r) : s.Moves (t.setSession n r) :=
  h.trans (setSession_moves hr)

theorem State.Moves.putSession {r : Session} (h : s.Moves t) (hr : (t.session n).CarriedTo r) : s.Moves (putSession n r t) :=
  h.trans (putSession_moves hr)

theorem latchPed_moves (n : Ped) (k : PedKind) (d : CondData) (s : State) : s.Moves (latchPed n k d s) := .of_frame rfl rfl

/-- Table entries have no part in moves. -/
theorem setEntry_moves (n : Ped) (e : PedestalEntry) (s : State) : s.Moves (s.setEntry n e) := .of_frame rfl rfl

/-- Allocation fields have no part in moves. -/
theorem setAlloc_moves (s : State) (n : Ped) (a : Alloc) : s.Moves (s.setAlloc n a) := setSession_moves (.of_state rfl rfl rfl)

theorem cancelSession_moves (n : Ped) (reason : Byte) (s : State) : s.Moves (cancelSession n reason s) := by
  refine .update (fun _ hm => cancelSession_session_ne hm reason) ?_ ?_
  · rw [cancelSession_session_self]
    exact .cancelled _
  · obtain ⟨_, _, _, _, e⟩ := cancelSession_frame n reason s
    rw [e]

theorem closeSession_moves (n : Ped) (why : EndReason) (s : State) : s.Moves (closeSession n why s) := by
  refine .update (fun _ hm => closeSession_session_ne hm why) ?_ ?_
  · rw [closeSession_session_self]
    exact .closed _
  · obtain ⟨_, _, _, _, e⟩ := closeSession_frame n why s
    rw [e]

theorem refuseToken_moves (n : Ped) (reason : Byte) (s : State) : s.Moves (refuseToken n reason s) :=
  (latchPed_moves n .tokenRefused (.reason reason) s).setSession (.of_state rfl rfl rfl)

theorem enterEnding_moves (why : EndReason) (h : (s.session n).state.isOpen = true) : s.Moves (enterEnding n why s) :=
  putSession_moves (.moved h rfl rfl rfl)

theorem stopSession_moves (n : Ped) (why : EndReason) (s : State) : s.Moves (stopSession n why s) := by
  unfold stopSession
  cases hs : (s.session n).state <;> simp only []
  case authorized | probing => exact closeSession_moves n why s
  case dispensing | suspended | occupying => exact enterEnding_moves why (by rw [hs]; rfl)
  all_goals exact .refl s

theorem haltSession_moves (why : EndReason) (n : Ped) (s : State) : s.Moves (haltSession why n s) := by
  unfold haltSession
  cases (s.session n).state <;> simp only []
  case authorizing => exact cancelSession_moves _ _ _
  case free | plugged | released => exact .refl s
  all_goals exact closeSession_moves _ _ _

theorem loseSession_moves (n : Ped) (s : State) : s.Moves (loseSession n s) := by
  have changed : ∀ r : Session, r.state = (s.session n).state → r.opening = (s.session n).opening →
      r.grant = (s.session n).grant → s.Moves (closeSession n .pedestalLost (s.setSession n r)) := fun r hs ho hg =>
    (setSession_moves (.of_state hs ho hg)).trans (closeSession_moves _ _ _)
  unfold loseSession
  simp only []
  split
  case h_1 => exact cancelSession_moves _ _ _
  case h_2 => exact closeSession_moves _ _ _
  case h_8 | h_9 | h_10 => exact .refl s
  all_goals exact changed _ rfl rfl rfl

/-! ## The probe sequence and the grant -/

theorem startAttempt_moves (n : Ped) (s : State) : s.Moves (startAttempt n s) := setSession_moves (.of_state rfl rfl rfl)

theorem enterProbing_moves (h : (s.session n).state.isOpen = true) : s.Moves (enterProbing n s) := by
  unfold enterProbing
  refine .trans (putSession_moves ?_) (startAttempt_moves n _)
  exact .moved h rfl rfl rfl

theorem attemptFailed_moves (n : Ped) (s : State) : s.Moves (attemptFailed n s) := by
  have cleared : s.Moves (s.setSession n { s.session n with probeDeadline := none }) := setSession_moves (.of_state rfl rfl rfl)
  unfold attemptFailed
  simp only []
  split
  · exact cleared.trans (startAttempt_moves n _)
  · exact cleared.trans (closeSession_moves n _ _)

theorem energize_moves (count : Nat) (h : (s.session n).state.isOpen = true) : s.Moves (energize n count s) :=
  (latchPed_moves n .energized .none s).putSession (.moved h rfl rfl rfl)

/-- A covered grant taken by an open session. -/
theorem takeGrant_moves {g : Grant} (h : (s.session n).state.isOpen = true)
    (covered : (s.tariffOf g).defined = true ∧ (s.tariffOf g).startFee ≤ g.hold) : s.Moves (takeGrant n g s) := by
  have hfree : (s.session n).state ≠ .free := by intro hs; simp [hs, SessionState.isOpen] at h
  have taken : ∀ r : Session, r.state.granted = true → r.opening = (s.session n).opening → r.grant = some g →
      s.Moves { s with records := s.records.set n r } := fun r hr ho hg =>
    .of_move <| .granted n g (fun _ hm => State.session_setSession_ne s hm r) rfl h
      (by rw [State.session_put, ho]) (by rw [State.session_put, hg]) (by rw [State.session_put, hr]) covered
  by_cases hp : (s.session n).hasPlug = .yes
  · rw [takeGrant_plugged n g s hfree hp]
    exact taken _ rfl rfl rfl
  · rw [takeGrant_unplugged n g s hfree hp]
    exact taken _ rfl rfl rfl

theorem offerGrant_moves (o : GrantOffer) (h : (s.session n).state.isOpen = true) : s.Moves (offerGrant n o s) := by
  by_cases hd : (s.tariffs.get o.tariff).defined = true
  · by_cases hf : (s.tariffs.get o.tariff).startFee ≤ min o.hold s.settings.maxHold
    · rw [offerGrant_taken n o s hd hf]
      exact takeGrant_moves h ⟨hd, hf⟩
    · rw [offerGrant_holdTooSmall n o s hd (by omega)]
      exact cancelSession_moves _ _ _
  · rw [offerGrant_noTariff n o s (by simpa using hd)]
    exact cancelSession_moves _ _ _

theorem authExpired_moves (h : (s.session n).state.isOpen = true) : s.Moves (authExpired n s) := by
  unfold authExpired
  split
  · split
    · exact offerGrant_moves _ h
    · exact cancelSession_moves _ _ _
  · exact cancelSession_moves _ _ _

theorem referSession_moves (n : Ped) (o : Opening) (s : State) : s.Moves (referSession n o s) := by
  unfold referSession
  refine .trans (setSession_moves ?_) (latchPed_moves n _ _ _)
  exact .of_state rfl rfl rfl

theorem decideSession_moves (o : Opening) (c : CapturedTerms) (h : (s.session n).state.isOpen = true) :
    s.Moves (decideSession n o c s) := by
  rcases decideSession_cases n o c s with ⟨reason, e⟩ | ⟨g, e⟩ | e <;> rw [e]
  · exact cancelSession_moves _ _ _
  · exact offerGrant_moves g h
  · exact referSession_moves n o s

/-! ## The token -/

/-- A token held by no other open session opens one at a FREE or PLUGGED record, which is then decided (R11, R40, R41). -/
theorem acceptToken_moves {token : Token} (source : TokenSource)
    (hs : (s.session n).state = .free ∨ (s.session n).state = .plugged) (apart : s.tokenHeldElsewhere n token = false) :
    s.Moves (acceptToken n token source s) := by
  have hsession : (s.openedAt n token source).session n
      = (s.session n).openedWith (s.openingOf token source) (s.termsOf token) := get_set_self _ _ _
  rw [acceptToken_eq n token source s hs]
  refine .trans (.of_move ?_) (decideSession_moves _ _ (by rw [hsession]; rfl))
  refine .opened n (s.openingOf token source) (fun _ hm => get_set_ne _ hm _) rfl ?_ (by rw [hsession]; rfl)
    (by rw [hsession]; rfl) apart
  rcases hs with hs | hs <;> rw [hs] <;> rfl

/-- A token that passes the checks of R39 is held by no other open session. -/
theorem acceptanceCheck_none {token : Token} (h : acceptanceCheck n token s = none) : s.tokenHeldElsewhere n token = false := by
  unfold acceptanceCheck at h
  split at h
  · cases h
  · split at h
    · cases h
    · split at h
      · cases h
      · simpa using ‹¬ s.tokenHeldElsewhere n token = true›

theorem takeToken_moves (n : Ped) (token : Token) (source : TokenSource) (s : State) : s.Moves (takeToken n token source s) := by
  have offer : (s.session n).state = .free ∨ (s.session n).state = .plugged → s.Moves (offerToken n token source s) := by
    intro hs
    unfold offerToken
    split
    · exact refuseToken_moves _ _ _
    · rename_i hc
      exact acceptToken_moves source hs (acceptanceCheck_none hc)
  have again : ∀ t, s.Moves t → s.Moves (if (s.session n).opening.any (·.token == token) then t
      else refuseToken n RefusalReason.busyPoint.code s) := by
    intro t ht
    split
    · exact ht
    · exact refuseToken_moves _ _ _
  unfold takeToken
  simp only []
  split
  case h_1 hs => exact offer (.inl hs)
  case h_2 hs => exact offer (.inr hs)
  case h_3 | h_4 => exact again s (.refl s)
  case h_10 => exact refuseToken_moves _ _ _
  all_goals exact again _ (stopSession_moves n _ s)

theorem quietActivity_moves (s : State) : s.Moves (quietActivity s) := by
  rw [quietActivity_eq]
  split
  · exact .of_frame rfl rfl
  · exact .refl s

theorem takePresentation_moves (n : Ped) (p : Presentation) (s : State) : s.Moves (takePresentation n p s) := by
  have stored : s.Moves (s.setEntry n { s.entry n with lastPresentation := some p.number }) := .of_frame rfl rfl
  unfold takePresentation
  simp only []
  split
  · split
    · exact stored
    · exact stored.trans ((quietActivity_moves _).trans (takeToken_moves n _ _ _))
  · exact stored

/-! ## The other fields of a good reply (R5, R153) -/

theorem meterReply_moves (n : Ped) (count : Nat) (s : State) : s.Moves (meterReply n count s) := by
  unfold meterReply
  simp only []
  split
  · split
    · split
      · exact setSession_moves (.accrued _ _ _ _)
      · exact setSession_moves (.of_state rfl rfl rfl)
    · exact (latchPed_moves n .meterJump .none s).setSession (.of_state rfl rfl rfl)
  · exact setSession_moves (.of_state rfl rfl rfl)

theorem meterSteps_moves (n : Ped) (count : Nat) (s : State) : s.Moves (meterSteps n count s) :=
  (setEntry_moves n _ s).trans (meterReply_moves n count _)

theorem faultSteps_moves (n : Ped) (x : StatusReply) (s : State) : s.Moves (sessionFaults n x (tableFaults n x s)) := by
  have table : s.Moves (tableFaults n x s) := by
    rw [tableFaults_eq]
    exact .of_frame rfl rfl
  have stop : ∀ why, s.Moves (faultStop n why (tableFaults n x s)) := by
    intro why
    unfold faultStop
    split
    · exact table
    · exact table.trans (stopSession_moves n why _)
  unfold sessionFaults
  simp only []
  split
  · exact stop _
  · split
    · exact stop _
    · exact table

theorem reactPlugIn_moves (n : Ped) (s : State) : s.Moves (reactPlugIn n s) := by
  unfold reactPlugIn
  split
  case h_1 hs =>
    exact putSession_moves (.plugged hs)
  case h_2 hs =>
    split
    · exact closeSession_moves _ _ _
    · split
      · exact closeSession_moves _ _ _
      · exact enterProbing_moves (by rw [hs]; rfl)
  all_goals exact .refl s

theorem reactPlugOut_moves (n : Ped) (s : State) : s.Moves (reactPlugOut n s) := by
  unfold reactPlugOut
  split
  case h_1 | h_2 => exact putSession_moves (.freed rfl rfl)
  case h_3 | h_4 | h_5 | h_6 => exact stopSession_moves _ _ _
  all_goals exact .refl s

theorem takePlug_moves (n : Ped) (plug : Bool) (s : State) : s.Moves (takePlug n plug s) := by
  unfold takePlug
  simp only []
  split
  · refine .trans (State.Moves.setSession ?_ ?_) (reactPlugIn_moves n _)
    · exact (latchPed_moves n .plugIn .none s).trans (quietActivity_moves _)
    · exact .of_state rfl rfl rfl
  · split
    · refine .trans (State.Moves.setSession ?_ ?_) (reactPlugOut_moves n _)
      · exact latchPed_moves n .plugOut .none s
      · exact .of_state rfl rfl rfl
    · split
      · split
        · exact setSession_moves (.of_state rfl rfl rfl)
        · exact putSession_moves (.freed rfl rfl)
      · exact .refl s

theorem takeProbe_moves (n : Ped) (p : ProbeResult) (count : Nat) (s : State) : s.Moves (takeProbe n p count s) := by
  unfold takeProbe
  split
  · rename_i hs
    cases p <;> simp only []
    case none => exact .refl s
    case openCircuit => exact attemptFailed_moves n s
    case short => exact ((setEntry_moves n _ s).trans (latchPed_moves n _ _ _)).trans (closeSession_moves n _ _)
    case matched =>
      split
      · exact energize_moves count (by rw [hs]; rfl)
      · exact closeSession_moves _ _ _
  · exact .refl s

theorem enterOccupying_moves (h : (s.session n).state.isOpen = true) : s.Moves (enterOccupying n s) :=
  putSession_moves (.moved h rfl rfl rfl)

theorem takeComplete_moves (n : Ped) (complete : Bool) (s : State) : s.Moves (takeComplete n complete s) := by
  unfold takeComplete
  split
  case h_1 hs | h_2 hs =>
    split
    · exact enterOccupying_moves (by rw [hs]; rfl)
    · exact .refl s
  all_goals exact .refl s

theorem takeVehicleRequest_moves (n : Ped) (request : Nat) (complete : Bool) (s : State) :
    s.Moves (takeVehicleRequest n request complete s) := by
  unfold takeVehicleRequest
  split
  case h_1 hs =>
    split
    · split
      · exact .refl s
      · exact putSession_moves (.moved (by rw [hs]; rfl) rfl rfl rfl)
    · exact setAlloc_moves _ _ _
  case h_2 hs | h_3 hs =>
    split
    · exact putSession_moves (.moved (by rw [hs]; rfl) rfl rfl rfl)
    · exact .refl s
  all_goals exact .refl s

theorem takePower_moves (n : Ped) (wasEnding : Bool) (power : Nat) (s : State) : s.Moves (takePower n wasEnding power s) := by
  unfold takePower
  split
  · exact closeSession_moves _ _ _
  · exact .refl s

theorem linkSteps_moves (n : Ped) (plug : Bool) (s : State) : s.Moves (linkSteps n plug s) := by
  unfold linkSteps
  simp only []
  split <;> exact .of_frame rfl rfl

/-- A good reply, field by field in the order of R5. -/
theorem takeReply_moves (n : Ped) (x : StatusReply) (s : State) : s.Moves (takeReply n x s) := by
  have plugged : s.Moves _ :=
    ((meterSteps_moves n x.meter s).trans (faultSteps_moves n x _)).trans (takePlug_moves n x.plug _)
  have presented : ∀ u : State, u.Moves (match x.presentation with | some p => takePresentation n p u | none => u) := by
    intro u
    cases x.presentation with
    | some p => exact takePresentation_moves n p u
    | none => exact .refl u
  exact ((((plugged.trans (presented _)).trans (takeProbe_moves n _ _ _)).trans (takeComplete_moves n _ _)).trans
    (takeVehicleRequest_moves n _ _ _)).trans ((takePower_moves n _ _ _).trans (linkSteps_moves n _ _))

end Sys2Proof.Machine
end

section
/-! SUPPORT. The exchanges and the allocation round of a scan cycle are moves. -/

namespace Sys2Proof.Machine

variable {s t : State} {n : Ped}

/-! ## Exchanges -/

theorem takeMiss_moves (n : Ped) (s : State) : s.Moves (takeMiss n s) := by
  unfold takeMiss
  simp only []
  split
  · exact ((setEntry_moves n _ s).trans (latchPed_moves n _ _ _)).trans (loseSession_moves n _)
  · exact setEntry_moves n _ s

theorem takeExchange_moves (e : Exchange) (reply : Option StatusReply) (s : State) : s.Moves (takeExchange e reply s) := by
  unfold takeExchange
  split
  · exact .refl s
  · cases reply with
    | none => exact takeMiss_moves _ s
    | some x =>
      simp only []
      split
      · exact meterSteps_moves _ _ s
      · exact takeReply_moves _ x s

theorem sendCommand_moves (n : Ped) (b : Bool) (s : State) : s.Moves (sendCommand n b s) := by
  unfold sendCommand
  simp only []
  split
  · refine State.Moves.setSession (t := s.withBus _) (.of_frame rfl rfl) ?_
    exact .of_state rfl rfl rfl
  · exact .of_frame rfl rfl

theorem nextTurn_moves (l : List Ped) (s : State) : s.Moves (nextTurn l s) := by
  unfold nextTurn
  split
  · exact sendCommand_moves _ _ s
  · exact .of_frame rfl rfl

theorem endExchange_moves (e : Exchange) (s : State) : s.Moves (endExchange e s) := by
  unfold endExchange
  split
  · exact .of_frame rfl rfl
  · split
    · exact .of_frame rfl rfl
    · exact nextTurn_moves _ s

theorem takeAlert_moves (reading : Nat) (s : State) : s.Moves (takeAlert reading s) := by
  have ended : ∀ t : State, t.Moves (endCycle t) := fun _ => .of_frame rfl rfl
  unfold takeAlert
  simp only []
  split
  · exact ended s
  · refine (quietActivity_moves s).trans ?_
    split
    · split
      · exact sendCommand_moves _ _ _
      · exact ended _
    · exact ended _

/-! ## The allocation round -/

/-- Stage 1: an exhausted record has been in an energy-flow state since the round's start when it enters ENDING (R82). -/
theorem coverStages_moves (s : State) : s.Moves (forPedestals (fun n => coverStage (s.coverFigure n) n) s) := by
  have isOpen_of_flow : ∀ st : SessionState, st.energyFlow = true → st.isOpen = true := by
    intro st h
    cases st <;> simp [SessionState.energyFlow, SessionState.isOpen] at h ⊢
  refine (forPedestals_induction (s := s) (f := fun n => coverStage (s.coverFigure n) n)
    (P := fun u => s.Moves u ∧ ∀ m, s.coverFigure m = some .exhausted → (u.session m).state.energyFlow = true)
    ⟨.refl s, fun m hm => by rw [State.coverFigure_some hm]; rfl⟩ ?_).1
  rintro n u ⟨hu, hflow⟩
  unfold coverStage
  split
  · rename_i hx
    exact ⟨hu.trans (enterEnding_moves _ (isOpen_of_flow _ (hflow n hx))), fun m hm => enterEnding_energyFlow _ (hflow m hm)⟩
  · exact ⟨hu, hflow⟩

theorem blockedStage_moves (n : Ped) (s : State) : s.Moves (blockedStage n s) := by
  unfold blockedStage
  split
  · exact setAlloc_moves s n _
  · exact .refl s

theorem countdownStage_moves (n : Ped) (s : State) : s.Moves (countdownStage n s) := by
  unfold countdownStage
  simp only []
  split
  · split <;> exact setAlloc_moves s n _
  · exact .refl s

theorem releaseStage_moves (budget : Nat) (s : State) : s.Moves (releaseStage budget s) := by
  unfold releaseStage
  split
  · refine State.Moves.forPedestals (fun n u => ?_) s
    unfold releaseYielder
    split
    · exact setAlloc_moves u n _
    · exact .refl u
  · exact .refl s

theorem prepareRound_moves (s : State) : s.Moves (prepareRound s) :=
  (((coverStages_moves s).trans (.forPedestals blockedStage_moves _)).trans (.forPedestals countdownStage_moves _)).trans
    (releaseStage_moves _ _)

/-- What changes allocation fields of one record after the other is a move. -/
theorem foldl_setAlloc_moves {α : Type} (p : α → Ped) (a : α → State → Alloc) (l : List α) (s : State) :
    s.Moves (l.foldl (fun u x => u.setAlloc (p x) (a x u)) s) := by
  induction l generalizing s with
  | nil => exact .refl s
  | cons x xs ih => exact (setAlloc_moves s (p x) (a x s)).trans (ih _)

theorem reportRound_moves (budget k p : Nat) (s : State) : s.Moves (reportRound budget k p s) := by
  unfold reportRound
  simp only []
  split <;> exact .of_frame rfl rfl

theorem applyPowered_moves (b : Bool) (shares : List (Ped × Nat)) (s : State) : s.Moves (applyPowered b shares s) :=
  foldl_setAlloc_moves Prod.fst
    (fun x u => (u.session x.1).alloc.power x.2 b u.settings.yieldOn u.settings.yieldOff) shares s

theorem applyParked_moves (parked : List Candidate) (s : State) : s.Moves (applyParked parked s) :=
  foldl_setAlloc_moves Candidate.pedestal (fun c u => (u.session c.pedestal).alloc.park) parked s

theorem divideBudget_moves (figure : Ped → Option CoverFigure) (s : State) : s.Moves (divideBudget figure s) := by
  unfold divideBudget
  exact ((applyPowered_moves _ _ s).trans (applyParked_moves _ _)).trans (reportRound_moves _ _ _ _)

theorem allocationRound_moves (s : State) : s.Moves (allocationRound s) := by
  unfold allocationRound
  exact (prepareRound_moves s).trans (divideBudget_moves _ _)

theorem startCycle_moves (s : State) : s.Moves (startCycle s) := by
  have placed : s.Moves ((s.reach s.bus.nextCycle).withBus { s.bus with
      cyclePace := s.bus.pace, nextCycle := (s.reach s.bus.nextCycle).timebase + (s.reach s.bus.nextCycle).scanPeriod }) :=
    .of_frame rfl rfl
  unfold startCycle
  simp only []
  refine .trans ?_ (nextTurn_moves _ _)
  refine .trans ?_ (.forPedestals (fun n u => setEntry_moves n _ u) _)
  split
  · exact placed.trans (allocationRound_moves _)
  · exact placed

end Sys2Proof.Machine
end

section
/-! SUPPORT. Requests, characters, starts and stops are moves, and so is every command. -/

namespace Sys2Proof.Machine

variable {s t : State} {n : Ped}

/-! ## Requests -/

theorem tariffInUse_iff (s : State) (i : Fin 8) : s.tariffInUse i = true ↔ s.UsesTariff i := by
  unfold State.tariffInUse State.tariffUse State.UsesTariff
  rw [decide_eq_true_iff, gt_iff_lt, List.countP_pos_iff]
  constructor
  · rintro ⟨r, hr, h⟩
    obtain ⟨j, hj, rfl⟩ := List.getElem_of_mem hr
    obtain ⟨hstate, hgrant⟩ := Bool.and_eq_true_iff.1 h
    obtain ⟨g, hg, hi⟩ := (Option.any_eq_true _ _).1 hgrant
    exact ⟨⟨j, by simpa using hj⟩, g, hstate, hg, by simpa using hi⟩
  · rintro ⟨n, g, hstate, hg, rfl⟩
    exact ⟨s.session n, by simp [State.session, Vector.get], by simp [hstate, hg]⟩

/-- A tariff that is not in use is replaced by a valid one (R132 to R134). -/
theorem setTariff_moves {i : Fin 8} {r : Tariff} (h : s.tariffInUse i = false) (hr : r.Valid) : s.Moves (s.setTariff i r) := by
  refine .of_move (.carried (fun _ => .rfl) fun j => ?_)
  by_cases hj : j = i
  · subst hj
    refine .inr ⟨?_, fun used => ?_⟩
    · rw [State.setTariff_tariffs, get_set_self]
      exact hr
    · have := (tariffInUse_iff s j).2 used
      simp [h] at this
  · exact .inl (get_set_ne _ hj _)

theorem tariff_cleared_valid : Tariff.Valid {} := by decide

theorem tariffWrite_moves (body : List Byte) (s : State) : s.Moves (tariffWrite.act body s).2 := by
  unfold tariffWrite
  simp only []
  split
  · exact .refl s
  · split
    · exact .refl s
    · split
      · exact .refl s
      · rename_i hused hgood
        push Not at hgood
        obtain ⟨_, _, hbands, hgrace⟩ := hgood
        exact setTariff_moves (by simpa using hused) ⟨fun h => by simp at h, by simpa using hbands, hgrace⟩

theorem tariffClear_moves (body : List Byte) (s : State) : s.Moves (tariffClear.act body s).2 := by
  unfold tariffClear
  simp only []
  split
  · exact .refl s
  · split
    · exact .refl s
    · rename_i hused
      exact setTariff_moves (by simpa using hused) tariff_cleared_valid

theorem enrol_moves (body : List Byte) (s : State) : s.Moves (enrol.act body s).2 := by
  have dropped : ∀ n, s.Moves (dropShare n s) := by
    intro n
    unfold dropShare
    simp only []
    split
    · exact setAlloc_moves s n _
    · exact .refl s
  unfold enrol
  simp only []
  split
  · exact .refl s
  · split
    · exact .refl s
    · split
      · exact (dropped _).trans (setEntry_moves _ _ _)
      · exact setEntry_moves _ _ s

theorem sessionStop_moves (body : List Byte) (s : State) : s.Moves (sessionStop.act body s).2 := by
  unfold sessionStop hostStop
  simp only []
  generalize (if body.length = 3 then some (fieldAt body 1 2) else none) = given
  split
  · exact .refl s
  · split
    · exact .refl s
    · split
      · exact .refl s
      · simp only [done]
        split
        · exact cancelSession_moves _ _ s
        · exact stopSession_moves _ _ s

theorem sessionCap_moves (body : List Byte) (s : State) : s.Moves (sessionCap.act body s).2 := by
  have capped : ∀ n cap, s.Moves (s.setHostCap n cap) := fun _ _ => setSession_moves (.of_state rfl rfl rfl)
  unfold sessionCap
  simp only []
  split
  · exact .refl s
  · split
    · exact .refl s
    · split
      · exact .refl s
      · split
        · exact capped _ _
        · split <;> exact capped _ _

theorem authDecision_moves (body : List Byte) (s : State) : s.Moves (authDecision.act body s).2 := by
  unfold authDecision
  simp only []
  split
  · exact .refl s
  · rename_i n hn
    split
    · exact .refl s
    · split
      · exact .refl s
      · exact cancelSession_moves _ _ s
      · split
        · exact .refl s
        · exact offerGrant_moves _ (by rw [State.waiting_authorizing hn]; rfl)

theorem requestStopAll_moves (s : State) : s.Moves (requestStopAll s) := by
  rw [requestStopAll_eq]
  exact .of_frame rfl rfl

theorem enterRestarting_moves (kind : RestartKind) (s : State) : s.Moves (enterRestarting kind s) :=
  (requestStopAll_moves s).trans (.of_frame rfl rfl)

theorem haltAll_moves (why : EndReason) (s : State) : s.Moves (forPedestals (haltSession why) s) :=
  .forPedestals (haltSession_moves why) s

theorem restart_moves (body : List Byte) (s : State) : s.Moves (restart.act body s).2 := by
  unfold restart
  simp only []
  split
  · exact (haltAll_moves _ s).trans (enterRestarting_moves _ _)
  · split
    · exact .refl s
    · exact enterRestarting_moves _ s
  · exact .refl s

theorem countersRead_moves (body : List Byte) (s : State) : s.Moves (countersRead.act body s).2 := by
  unfold countersRead
  exact .forPedestals (f := fun n u => u.setEntry n { u.entry n with frameErrors := 0, missMark := false })
    (fun n u => setEntry_moves n _ u) s

theorem voidExchange_moves (n : Ped) (s : State) : s.Moves (voidExchange n s) := by
  unfold voidExchange
  split
  · split
    · exact .of_frame rfl rfl
    · exact .refl s
  all_goals exact .refl s

theorem withdraw_moves (body : List Byte) (s : State) : s.Moves (withdraw.act body s).2 := by
  unfold withdraw
  simp only []
  split
  · exact .refl s
  · split
    · exact .refl s
    · split
      · exact .refl s
      · exact (setEntry_moves _ _ s).trans (voidExchange_moves _ _)

/-- Every request of the catalogue is a move; those named in no lemma above leave records and tariffs as they are. -/
theorem catalogue_moves {kind : Byte} {q : Request} (h : catalogue kind = some q) (body : List Byte) (s : State) :
    s.Moves (q.act body s).2 := by
  unfold catalogue at h
  split at h <;> cases h
  case h_8 => exact tariffWrite_moves body s
  case h_10 => exact tariffClear_moves body s
  case h_14 => exact enrol_moves body s
  case h_15 => exact withdraw_moves body s
  case h_18 => exact countersRead_moves body s
  case h_20 => exact sessionStop_moves body s
  case h_21 => exact sessionCap_moves body s
  case h_22 => exact authDecision_moves body s
  case h_29 => exact restart_moves body s
  all_goals
    dsimp only [statusRead, parkSet, parkRead, parkOpen, parkClose, clockSet, siteLoad, tariffRead, windowWrite, windowRead,
      windowClear, unblock, pedestalRead, sessionRead, queryList, settleFetch, fetchUnnamed, fetchNamed, settleConfirm,
      conditionsRead, conditionsClear, conditionsMask]
    repeat' split
    all_goals exact .of_frame rfl rfl

/-! ## Frames and characters -/

theorem sendReply_moves (r : Reply) (s : State) : s.Moves (sendReply r s) := by
  obtain ⟨l, e⟩ := sendReply_eq r s
  rw [e]
  exact .of_frame rfl rfl

theorem takeFrame_moves (kind tag : Byte) (body : List Byte) (s : State) :
    s.Moves (takeFrame kind tag body (catalogue kind) s) := by
  have linked : s.Moves (linkFrame (s.withLine { s.line with parser := .hunt false })) := by
    rcases linkFrame_cases (s.withLine { s.line with parser := .hunt false }) with ⟨_, e⟩ | ⟨_, e⟩ <;> rw [e] <;>
      exact .of_frame rfl rfl
  unfold takeFrame
  split
  · refine linked.trans ?_
    generalize linkFrame _ = u
    unfold answerFrame refuseBusy
    split
    · split <;> exact .of_frame rfl rfl
    · split
      · exact sendReply_moves _ u
      · split
        · exact sendReply_moves _ u
        · rename_i q hq
          split
          · exact (catalogue_moves hq body u).trans (sendReply_moves _ _)
          · exact sendReply_moves _ u
  · exact .refl s

theorem badSyncByte_moves (b : Bool) (s : State) : s.Moves (badSyncByte b s) := by
  unfold badSyncByte
  split <;> exact .of_frame rfl rfl

theorem discardFrame_moves (s : State) : s.Moves (discardFrame s) := .of_frame rfl rfl

theorem withParser_moves (p : Parser) (s : State) : s.Moves (s.withParser p) := .of_frame rfl rfl

theorem parseByte_moves (b : Byte) (s : State) : s.Moves (parseByte b s) := by
  unfold parseByte endFrame
  split
  case h_1 =>
    split
    · exact withParser_moves _ s
    · exact badSyncByte_moves _ s
  case h_2 =>
    split
    · exact withParser_moves _ s
    · exact discardFrame_moves s
  case h_7 =>
    split
    · exact takeFrame_moves _ _ _ s
    · exact discardFrame_moves s
  all_goals exact withParser_moves _ s

theorem receiveChar_moves (c : RxChar) (s : State) : s.Moves (receiveChar c s) := by
  unfold receiveChar badStop
  split
  · split
    · exact parseByte_moves _ s
    · split
      · exact badSyncByte_moves _ s
      all_goals exact discardFrame_moves s
  · exact .refl s

theorem receive_moves (received : List RxChar) (s : State) : s.Moves (receive received s) := by
  unfold receive
  induction received generalizing s with
  | nil => exact .refl s
  | cons c cs ih => exact (receiveChar_moves c s).trans (ih _)

theorem startNotice_moves (s : State) : s.Moves (startNotice s) := by
  rcases startNotice_cases s with e | ⟨_, _, _, e⟩ <;> rw [e]
  · exact .refl s
  · exact .of_frame rfl rfl

theorem frameSent_moves (s : State) : s.Moves (frameSent s) := by
  unfold frameSent
  split
  · exact .of_frame rfl rfl
  · exact .of_frame rfl rfl
  · refine .trans ?_ (startNotice_moves _)
    exact .of_frame rfl rfl

/-! ## Starts and stops -/

theorem latchStart_tariffs (kind : StartKind) (cause : StartCause) (s : State) :
    (latchStart kind cause s).tariffs = s.tariffs := by
  unfold latchStart
  simp only []
  split <;> rfl

/-- A start leaves every record FREE, and every tariff as it was or cleared (R32, R135). -/
theorem start_moves (records : t.records = Vector.replicate 16 {})
    (tariffs : t.tariffs = s.tariffs ∨ t.tariffs = Vector.replicate 8 {}) : s.Moves t := by
  have free : ∀ n, t.session n = {} := by
    intro n
    unfold State.session
    rw [records]
    simp [Vector.get]
  refine .of_move (.carried (fun n => ?_) fun i => ?_)
  · rw [free n]
    exact .freed rfl rfl
  · rcases tariffs with e | e
    · exact .inl (by rw [e])
    · refine .inr ⟨?_, ?_⟩
      · have : t.tariffs.get i = {} := by rw [e]; simp [Vector.get]
        rw [this]
        exact tariff_cleared_valid
      · rintro ⟨n, g, _, hg, _⟩
        rw [free n] at hg
        cases hg

theorem freshStart_moves (kind : StartKind) (cause : StartCause) (q : Settlement) (s : State) :
    s.Moves (freshStart kind cause q s) :=
  start_moves (latchStart_records _ _ _) (.inr (latchStart_tariffs _ _ _))

theorem softStart_moves (s : State) : s.Moves (softStart s) :=
  start_moves (latchStart_records _ _ _) (.inl (latchStart_tariffs _ _ _))

theorem markerStart_moves (cause : StartCause) (s : State) : s.Moves (markerStart cause s) := by
  unfold markerStart
  split <;> exact freshStart_moves _ _ _ s

theorem haltDevice_moves (s : State) : s.Moves (haltDevice s) := by
  have stopped := (haltAll_moves .supplyLoss s).trans (requestStopAll_moves _)
  unfold haltDevice
  generalize requestStopAll _ = u at stopped ⊢
  exact stopped.trans (.of_frame rfl rfl)

theorem stopCause_moves (s : State) : s.Moves (stopCause s) := by
  unfold stopCause
  split
  · exact .refl s
  · exact haltDevice_moves s

/-! ## Timers -/

theorem reach_moves (p : Point) (s : State) : s.Moves (s.reach p) := .of_frame rfl rfl

theorem tickSecond_moves (s : State) : s.Moves (tickSecond s) := by
  refine .of_move (.carried (fun n => ?_) fun _ => .inl rfl)
  have ticked : (tickSecond s).session n = (s.session n).tickOccupying := Vector.getElem_map _ _
  rw [ticked]
  unfold Session.tickOccupying
  split
  · exact .of_state rfl rfl rfl
  · exact .rfl

theorem idleMinuteOf_moves (n : Ped) (s : State) : s.Moves (idleMinuteOf n s) := by
  unfold idleMinuteOf Session.chargeIdleMinute
  split
  · split
    · split <;> exact setSession_moves (.of_state rfl rfl rfl)
    · exact .refl s
  · exact .refl s

/-! ## Commands and steps -/

/-- A request row is a frame of its kind. -/
theorem exec_requestFrame {i : Instr} {kind tag : Byte} {body : List Byte} (h : requestFrame i = some (kind, tag, body))
    (s : State) : exec i s = .next (takeFrame kind tag body (catalogue kind) s) := by
  cases i <;> cases h <;> rfl

theorem withSupply_moves (u : Supply) (s : State) : s.Moves (s.withSupply u) := .of_frame rfl rfl

theorem losePower_moves (s : State) : s.Moves (losePower s) := .of_frame rfl rfl

/-- What is done only in some states is a move if the deed is. -/
theorem State.Moves.ite {p : Prop} [Decidable p] (h : s.Moves t) : s.Moves (if p then t else s) := by
  split
  · exact h
  · exact .refl s

/-- Every command is a run of moves. -/
theorem exec_moves (i : Instr) (s : State) : ∃ t, exec i s = .next t ∧ s.Moves t := by
  cases i
  case frameDiscarded received => exact ⟨_, rfl, receive_moves received s⟩
  case badSyncRun received => exact ⟨_, rfl, receive_moves received s⟩
  case frameGapTimeout received =>
    exact ⟨_, rfl, (receive_moves received s).trans (discardFrame_moves _).ite⟩
  case linkSilenceExpiry =>
    refine ⟨_, rfl, ?_⟩
    split
    · exact State.Moves.ite (.of_frame rfl rfl)
    · exact .refl s
  case replySent | noticeSent =>
    refine ⟨_, rfl, ?_⟩
    split
    case h_1 => exact frameSent_moves s
    all_goals exact .refl s
  case notice => exact ⟨_, rfl, startNotice_moves s⟩
  case softRestart => exact ⟨_, rfl, (softStart_moves s).ite⟩
  case hardRestart => exact ⟨_, rfl, (freshStart_moves _ _ _ s).ite⟩
  case cycleStart => exact ⟨_, rfl, (startCycle_moves s).ite⟩
  case statusReply | exchangeMiss =>
    refine ⟨_, rfl, ?_⟩
    split
    case h_1 => exact (takeExchange_moves _ _ s).trans (endExchange_moves _ _)
    all_goals exact .refl s
  case alertSlot =>
    refine ⟨_, rfl, ?_⟩
    split
    case h_1 => exact takeAlert_moves _ s
    all_goals exact .refl s
  case quietTimerExpiry =>
    refine ⟨_, rfl, ?_⟩
    split
    · exact State.Moves.ite (.of_frame rfl rfl)
    · exact .refl s
  case authDeadlineExpiry n =>
    refine ⟨_, rfl, ?_⟩
    split
    · rename_i p hp
      refine (reach_moves p s).trans (authExpired_moves ?_)
      rw [State.reach_session, State.authDeadlineOf_some hp]
      rfl
    · exact .refl s
  case probeDeadlineExpiry n =>
    refine ⟨_, rfl, ?_⟩
    split
    · exact (reach_moves _ s).trans (attemptFailed_moves n _)
    · exact .refl s
  case plugDeadlineExpiry n | endingDeadlineExpiry n =>
    refine ⟨_, rfl, ?_⟩
    split
    · exact (reach_moves _ s).trans (closeSession_moves n _ _)
    · exact .refl s
  case refusalDisplayExpiry n =>
    refine ⟨_, rfl, ?_⟩
    split
    · refine State.Moves.ite ((reach_moves _ s).setSession ?_)
      exact .of_state rfl rfl rfl
    · exact .refl s
  case oneSecondTick =>
    refine ⟨_, rfl, ?_⟩
    split
    · exact .refl s
    · exact tickSecond_moves s
  case suspendLimit n =>
    refine ⟨_, rfl, ?_⟩
    split
    · rename_i hc
      have hst : (s.session n).state = .suspended := by
        have := hc.2
        simp only [State.suspendLimitReached, Bool.and_eq_true, beq_iff_eq] at this
        exact this.1
      exact enterOccupying_moves (by rw [hst]; rfl)
    · exact .refl s
  case idleMinute n => exact ⟨_, rfl, (idleMinuteOf_moves n s).ite⟩
  case supplyWarning | reset => exact ⟨_, rfl, (stopCause_moves s).trans (withSupply_moves _ _)⟩
  case supplyFail =>
    refine ⟨_, rfl, ?_⟩
    split
    · exact losePower_moves s
    · exact (haltDevice_moves s).trans (withSupply_moves _ _)
  case retentionLoss => exact ⟨_, rfl, State.Moves.ite (.of_frame rfl rfl)⟩
  case powerOn => exact ⟨_, rfl, (markerStart_moves _ s).ite⟩
  case haltedStart => exact ⟨_, rfl, (markerStart_moves _ s).ite⟩
  all_goals exact ⟨_, exec_requestFrame rfl s, takeFrame_moves _ _ _ s⟩

/-- Every step is a run of moves. -/
theorem step_moves (e : step s = .next t) : s.Moves t := by
  unfold step at e
  split at e
  · obtain rfl := Host.Outcome.next.inj e
    unfold idle
    split
    · exact .refl s
    · exact .of_frame rfl rfl
  · rename_i c rest _
    obtain ⟨u, hu, moves⟩ := exec_moves c { s with pending := rest }
    obtain rfl := Host.Outcome.next.inj (hu.symm.trans e)
    have taken : s.Moves { s with pending := rest } := .of_frame rfl rfl
    exact taken.trans moves

/-- Settles O55: a session is opened only by a token that no other open session holds, and no other move gives an open session
another token. -/
theorem stepsKeepTokensApart : Obligations.StepsKeepTokensApart := by
  intro s t _ law e
  exact (step_moves e).keeps (P := State.TokensLaw) (fun _ _ hm => hm.keeps_tokens) law

/-- Settles O57: a grant is taken only under a tariff that covers it, and a tariff in use is not replaced. -/
theorem stepsKeepGrantsCovered : Obligations.StepsKeepGrantsCovered := by
  intro s t valid law e
  exact (step_moves e).keeps (P := fun u => (∀ i, (u.tariffs.get i).Valid) ∧ u.GrantLaw)
    (fun _ _ hm h => ⟨hm.keeps_valid h.1, hm.keeps_grants h.2⟩) ⟨valid, law⟩

end Sys2Proof.Machine
end

section
/-! SUPPORT. The requests of the Acceptance Unit: windows written, read, cleared and matched, and the site computer's decision (R34,
R35, R37, R46, R47). -/

namespace Sys2Proof.Machine

variable {s : State} {n : Ped}

/-! ## A request row that is answered -/

/-- A request row of an accepted length, on a ready device, goes out with what its owner answers (R177). -/
theorem exec_answered {i : Instr} {kind reply tag : Byte} {body data : List Byte} {q : Request} {code : ReplyCode} {t : State}
    (hi : requestFrame i = some (kind, tag, body)) (hq : catalogue kind = some q) (hk : kind.toNat < 0x80 ∧ kind + 0x80#8 = reply)
    (h : s.Ready tag) (hl : body.length ∈ q.lengths) (ha : q.act body s.served = (⟨code, data⟩, t)) :
    exec i s = .next (State.answering reply tag code data t) := by
  obtain ⟨hlow, rfl⟩ := hk
  rw [exec_requestFrame hi, hq, takeFrame_ready h hlow hl, ha]

@[simp] theorem State.served_windows (s : State) : s.served.windows = s.windows := by
  obtain ⟨l, c, h⟩ := s.served_eq; rw [h]

@[simp] theorem State.served_tariffs (s : State) : s.served.tariffs = s.tariffs := by
  obtain ⟨l, c, h⟩ := s.served_eq; rw [h]

/-! ## Windows (R34, R35) -/

theorem windowWrite_good {body : List Byte} {i : Fin 12} (hi : fieldAt body 0 1 = i.val) (hg : WindowBodyGood body) (s : State) :
    windowWrite.act body s = (⟨.done, []⟩, { s with windows := s.windows.set i (windowOfBody body) }) := by
  simp only [windowWrite, windowIndexOf_some hi, windowOf_good body hg]
  rfl

theorem windowWrite_bad {body : List Byte} (h : 11 < fieldAt body 0 1 ∨ ¬ WindowBodyGood body) (s : State) :
    windowWrite.act body s = (⟨.outOfRange, []⟩, s) := by
  rcases h with hi | hb
  · simp only [windowWrite, windowIndexOf_none hi]
    rfl
  · simp only [windowWrite, windowOf_bad body hb]
    cases windowIndexOf (fieldAt body 0 1) <;> rfl

theorem windowClear_some {body : List Byte} {i : Fin 12} (hi : fieldAt body 0 1 = i.val) (s : State) :
    windowClear.act body s = (⟨.done, []⟩, { s with windows := s.windows.set i {} }) := by
  simp only [windowClear, windowIndexOf_some hi]
  rfl

theorem windowClear_none {body : List Byte} (h : 11 < fieldAt body 0 1) (s : State) :
    windowClear.act body s = (⟨.outOfRange, []⟩, s) := by
  simp only [windowClear, windowIndexOf_none h]
  rfl

theorem windowRead_some {body : List Byte} {i : Fin 12} (hi : fieldAt body 0 1 = i.val) (s : State) :
    windowRead.act body s = (⟨.done, windowBytes i (s.windows.get i)⟩, s) := by
  simp only [windowRead, windowIndexOf_some hi]

theorem windowRead_none {body : List Byte} (h : 11 < fieldAt body 0 1) (s : State) :
    windowRead.act body s = (⟨.outOfRange, []⟩, s) := by
  simp only [windowRead, windowIndexOf_none h]
  rfl

/-- The presence byte of a power cap. -/
theorem powerCap_presence (c : Option Nat) : bytesOf 1 c.isSome.toNat = bytesOf 1 (if c = none then 0 else 1) := by
  cases c <;> rfl

/-- Settles O16: each of the three requests by its index, and a write also by its fields. -/
theorem windowsAreWrittenReadAndCleared : Obligations.WindowsAreWrittenReadAndCleared := by
  refine ⟨fun tag body s h hl => ⟨fun i hi hg => ?_, fun hb => ?_⟩,
    fun tag body s h hl => ⟨fun hi => ⟨?_, ?_⟩, fun i hi => ⟨?_, ?_⟩⟩⟩
  · refine exec_answered rfl rfl (by decide) h (by simp [windowWrite, hl]) ?_
    rw [windowWrite_good hi hg, State.served_windows]
  · exact exec_answered rfl rfl (by decide) h (by simp [windowWrite, hl]) (windowWrite_bad hb _)
  · exact exec_answered rfl rfl (by decide) h (by simp [windowRead, hl]) (windowRead_none hi _)
  · exact exec_answered rfl rfl (by decide) h (by simp [windowClear, hl]) (windowClear_none hi _)
  · refine exec_answered rfl rfl (by decide) h (by simp [windowClear, hl]) ?_
    rw [windowClear_some hi, State.served_windows]
  · refine ⟨bytesOf 2 ((s.windows.get i).powerCap.getD Config.absentWindowCap), by simp, fun c hc => by rw [hc]; rfl, ?_⟩
    refine exec_answered rfl rfl (by decide) h (by simp [windowRead, hl]) ?_
    rw [windowRead_some hi, State.served_windows]
    simp only [windowBytes, yesNoByte_eq, powerCap_presence]

/-! ## The match (R37) -/

/-- A window hits a token when it is enabled and agrees with it in every position where its mask has a 1. -/
theorem Window.hits_iff (w : Window) (token : Token) : w.hits token = true ↔
    w.enabled = true ∧ ∀ b < 64, w.mask.getLsbD b = true → token.getLsbD b = w.base.getLsbD b := by
  unfold Window.hits
  rw [Bool.and_eq_true, beq_iff_eq]
  refine and_congr_right fun _ => ⟨fun h b hb hm => ?_, fun h => BitVec.eq_of_getLsbD_eq fun b hb => ?_⟩
  · have hbit := congrArg (·.getLsbD b) h
    simpa [hm] using hbit
  · have hbit := h b hb
    cases hm : w.mask.getLsbD b <;> simp_all

theorem State.matchWindow_some (s : State) (token : Token) (i : Fin 12) : s.matchWindow token = some i ↔
    (s.windows.get i).hits token = true ∧ ∀ j < i, ¬ (s.windows.get j).hits token = true := by
  unfold State.matchWindow
  rw [← Fin.find?_eq_find?_finRange, Fin.find?_eq_some_iff]
  simp

theorem State.matchWindow_none (s : State) (token : Token) :
    s.matchWindow token = none ↔ ∀ i, ¬ (s.windows.get i).hits token = true := by
  simp [State.matchWindow]

/-- A grant taken leaves the opening of its session. -/
theorem takeGrant_opening (n : Ped) (g : Grant) (s : State) : ((takeGrant n g s).session n).opening = (s.session n).opening := by
  unfold takeGrant
  simp only []
  split
  · rw [enterProbing_session, State.session_setSession_self]
    rfl
  · rw [putSession_session_self]
    rfl

/-- A decision keeps the opening of its session, or cancels it and leaves none. -/
theorem decideSession_opening {o o' : Opening} {c : CapturedTerms}
    (h : ((decideSession n o c s).session n).opening = some o') : (s.session n).opening = some o' := by
  have cancelled : ∀ reason, ((cancelSession n reason s).session n).opening ≠ some o' := by
    intro reason
    rw [cancelSession_session_self]
    exact fun h => by cases h
  rcases decideSession_cases n o c s with ⟨reason, e⟩ | ⟨g, e⟩ | e <;> rw [e] at h
  · exact absurd h (cancelled reason)
  · unfold offerGrant at h
    split at h
    · rwa [takeGrant_opening] at h
    · exact absurd h (cancelled _)
  · unfold referSession at h
    simpa using h

/-- The opening of an accepted token carries the match against the table as it stands. -/
theorem acceptToken_window {token : Token} {source : TokenSource} {o : Opening}
    (h : ((acceptToken n token source s).session n).opening = some o) : o.window = s.matchWindow token := by
  unfold acceptToken at h
  have opened := decideSession_opening h
  rw [putSession_session_self] at opened
  cases opened
  rfl

/-- Settles O17: the match is the first hit of the table in ascending order, and an accepted token's opening carries it. -/
theorem lowestEnabledHittingWindowMatches : Obligations.LowestEnabledHittingWindowMatches := by
  intro s token agrees hit
  have hits : ∀ i, (s.windows.get i).hits token = true ↔ hit i := fun i => (s.windows.get i).hits_iff token
  refine ⟨fun i => ?_, ?_, fun i hm => and_congr_right fun _ => ?_, fun i hm => and_iff_left ?_,
    fun n source o => acceptToken_window⟩
  · simp only [State.matchWindow_some, hits]
  · simp only [State.matchWindow_none, hits]
  · refine ⟨fun h => BitVec.eq_of_getLsbD_eq fun b hb => h b hb ?_, fun h b _ _ => by rw [h]⟩
    rw [hm, BitVec.getLsbD_allOnes, decide_eq_true hb]
  · intro b _ hb
    rw [hm] at hb
    simp at hb

/-! ## AUTH-DECISION (R46, R47) -/

theorem yesNoAt_none {body : List Byte} {off : Nat} (h : fieldAt body off 1 > 1) : yesNoAt body off = none := by
  unfold yesNoAt
  split
  · omega
  · omega
  · rfl

theorem yesNoAt_no {body : List Byte} {off : Nat} (h : fieldAt body off 1 = 0) : yesNoAt body off = some false := by
  simp [yesNoAt, h]

theorem yesNoAt_yes {body : List Byte} {off : Nat} (h : fieldAt body off 1 = 1) : yesNoAt body off = some true := by
  simp [yesNoAt, h]

theorem decisionOf_eq (body : List Byte) : decisionOf body =
    ⟨fieldAt body 4 4, decisionField body 0 8 1, decisionField body 1 9 2, decisionField body 2 11 1⟩ := rfl

/-- The rows of R47 pass a grant whose hold, overrides and cap are in range. -/
theorem decisionOutOfRange_iff (d : Decision) (s : State) : decisionOutOfRange d s = false ↔
    (1 ≤ d.hold ∧ d.hold ≤ 999999)
      ∧ (∀ t, d.tariff = some t → t ≤ 7 ∧ (s.tariffs.get (Fin.ofNat 8 t)).defined = true)
      ∧ (∀ c, d.cap = some c → c ≠ 0) ∧ (∀ k, d.rank = some k → k ≤ 15) := by
  obtain ⟨hold, tariff, cap, rank⟩ := d
  have inRange : (hold == 0 || decide (hold > 999999)) = false ↔ 1 ≤ hold ∧ hold ≤ 999999 := by
    simp
    omega
  have hcap : (cap == some 0) = false ↔ ∀ c, cap = some c → c ≠ 0 := by cases cap <;> simp
  have hrank : rank.any (fun r => decide (r > 15)) = false ↔ ∀ k, rank = some k → k ≤ 15 := by cases rank <;> simp
  unfold decisionOutOfRange
  rw [Bool.or_eq_false_iff, Bool.or_eq_false_iff, Bool.or_eq_false_iff, inRange, hcap, hrank]
  cases tariff with
  | none => simp [and_comm, and_left_comm]
  | some t => by_cases ht : t ≤ 7 <;> simp [tariffIndexOf, ht, and_assoc, and_comm, and_left_comm]

theorem authDecision_late {body : List Byte} (h : ∀ n, ¬ s.WaitsUnder n (fieldAt body 0 2)) :
    authDecision.act body s = (⟨.late, []⟩, s) := by
  simp only [authDecision, State.waiting_none s _ h]

section

/-! One record waits under the number. -/

variable {body : List Byte} (hw : s.waiting (fieldAt body 0 2) = some n)

include hw

theorem authDecision_undefined (h : fieldAt body 2 1 > 1 ∨ fieldAt body 3 1 > 7) :
    authDecision.act body s = (⟨.outOfRange, []⟩, s) := by
  simp only [authDecision, hw]
  split
  · rfl
  · rename_i hpresence
    rw [yesNoAt_none (h.resolve_right hpresence)]
    rfl

theorem authDecision_deny (hv : fieldAt body 2 1 = 0) (hpresence : fieldAt body 3 1 ≤ 7) :
    authDecision.act body s = (⟨.done, []⟩, cancelSession n (BitVec.ofNat 8 (fieldAt body 12 1)) s) := by
  simp only [authDecision, hw, if_neg (Nat.not_lt.2 hpresence), yesNoAt_no hv]
  rfl

theorem authDecision_bad (hv : fieldAt body 2 1 = 1) (hpresence : fieldAt body 3 1 ≤ 7)
    (hd : decisionOutOfRange (decisionOf body) s = true) : authDecision.act body s = (⟨.outOfRange, []⟩, s) := by
  simp only [authDecision, hw, if_neg (Nat.not_lt.2 hpresence), yesNoAt_yes hv, hd, if_true]
  rfl

theorem authDecision_grant {c : CapturedTerms} (hc : (s.session n).captured = some c) (hv : fieldAt body 2 1 = 1)
    (hpresence : fieldAt body 3 1 ≤ 7) (hd : decisionOutOfRange (decisionOf body) s = false) :
    authDecision.act body s = (⟨.done, []⟩, offerGrant n (referredOffer c (decisionOf body)) s) := by
  simp only [authDecision, hw, if_neg (Nat.not_lt.2 hpresence), yesNoAt_yes hv, hd, hc]
  rfl

end

/-- The terms of a REFERRED grant: those captured, but for what the decision carries (R46). -/
theorem referredOffer_eq (c : CapturedTerms) (body : List Byte) : referredOffer c (decisionOf body) =
    { kind := .referred, hold := fieldAt body 4 4, tariff := (decisionField body 0 8 1).elim c.tariff (Fin.ofNat 8),
      route := c.route, baseRank := (decisionField body 2 11 1).elim c.baseRank (Fin.ofNat 16),
      cap := (decisionField body 1 9 2).elim c.powerCap some } := by
  unfold referredOffer
  rw [decisionOf_eq]
  cases decisionField body 0 8 1 <;> cases decisionField body 1 9 2 <;> cases decisionField body 2 11 1 <;> rfl

/-- Settles O18: the rows of R47 in their order. -/
theorem authDecisionGrantsOrDenies : Obligations.AuthDecisionGrantsOrDenies := by
  intro tag body s h hl
  have answered : ∀ {code : ReplyCode} {t : State}, authDecision.act body s.served = (⟨code, []⟩, t) →
      exec (.authDecision tag body) s = .next (State.answering 0x96#8 tag code [] t) :=
    exec_answered rfl rfl (by decide) h (by simp [authDecision, hl])
  have waits : ∀ n, s.served.WaitsUnder n (fieldAt body 0 2) ↔ s.WaitsUnder n (fieldAt body 0 2) := by
    intro n
    unfold State.WaitsUnder
    rw [State.served_session]
  have good : decisionOutOfRange (decisionOf body) s.served = false ↔ s.DecisionGood body := by
    rw [decisionOutOfRange_iff, State.served_tariffs, decisionOf_eq]
  refine ⟨fun late => answered (authDecision_late fun n => by rw [waits]; exact late n), fun n hn only => ?_⟩
  have hw : s.served.waiting (fieldAt body 0 2) = some n :=
    State.waiting_some _ _ n ((waits n).2 hn) fun m hm => by rw [waits]; exact only m hm
  refine ⟨fun hu => answered (authDecision_undefined hw hu), fun hv hp => answered (authDecision_deny hw hv hp),
    fun hv hp hbad => answered (authDecision_bad hw hv hp ?_), fun c hc hv hp hgood => answered ?_⟩
  · rw [← Bool.not_eq_false, good]
    exact hbad
  · rw [← referredOffer_eq]
    exact authDecision_grant hw (by rw [State.served_session, hc]) hv hp (good.2 hgood)

end Sys2Proof.Machine
end

section
/-! SUPPORT. The settlement record of a close: its figures and its band list (R70 to R72, R114, R119). -/

namespace Sys2Proof.Machine

/-! ## Band list (R72, R114) -/

/-- The band list keeps the bands with energy, each under its index. -/
theorem bandListFrom_eq (energies : List Nat) (first : Nat) : bandListFrom first energies =
    (energies.zipIdx first).filterMap fun x => if x.1 > 0 then some ⟨x.2, x.1⟩ else none := by
  induction energies generalizing first with
  | nil => rfl
  | cons x xs ih =>
    rw [bandListFrom, List.zipIdx_cons, List.filterMap_cons, ih]
    split <;> rfl

theorem mem_bandListFrom {e : BandEntry} {energies : List Nat} {first : Nat} :
    e ∈ bandListFrom first energies ↔ 0 < e.energy ∧ first ≤ e.index ∧ energies[e.index - first]? = some e.energy := by
  rw [bandListFrom_eq, List.mem_filterMap]
  constructor
  · rintro ⟨⟨y, i⟩, hmem, hkept⟩
    obtain ⟨hfirst, hat⟩ := List.mk_mem_zipIdx_iff_le_and_getElem?_sub.1 hmem
    obtain ⟨hpos, ⟨⟩⟩ := Option.ite_none_right_eq_some.1 hkept
    exact ⟨hpos, hfirst, hat⟩
  · rintro ⟨hpos, hfirst, hat⟩
    exact ⟨(e.energy, e.index), List.mk_mem_zipIdx_iff_le_and_getElem?_sub.2 ⟨hfirst, hat⟩, if_pos hpos⟩

/-- The band list ascends. -/
theorem bandListFrom_ascending (energies : List Nat) (first : Nat) :
    (bandListFrom first energies).Pairwise fun a b => a.index < b.index := by
  induction energies generalizing first with
  | nil => exact .nil
  | cons x xs ih =>
    rw [bandListFrom]
    split
    · exact .cons (fun _ hb => (mem_bandListFrom.1 hb).2.1) (ih _)
    · exact ih _

/-- The band list of a record holds the bands whose energy is above 0 (R114). -/
theorem mem_bandList {m : Meter} {e : BandEntry} : e ∈ m.bandList ↔ 0 < e.energy ∧ m.bandEnergy[e.index]? = some e.energy := by
  simp [Meter.bandList, mem_bandListFrom]

/-! ## Close figures (R70, R71) -/

/-- The start fee of a meter that has been charged it in the energy-flow states alone. -/
theorem chargedStartFee_flow {st : SessionState} {m : Meter} (t : Tariff) (h : m.startFeeCharged = st.energyFlow) :
    chargedStartFee t m = if st.energyFlow then t.startFee else 0 := by
  rw [chargedStartFee, h]

theorem closeEnergyCost_rounded {m : Meter} (h : m.costWhole < 4294967295) :
    closeEnergyCost m = m.costWhole + (if 500000 ≤ m.costRemainder then 1 else 0) := by
  simp only [closeEnergyCost, roundedCost, Config.max32, ge_iff_le]
  split <;> omega

theorem closeEnergyCost_saturated {m : Meter} (h : m.costWhole = 4294967295) : closeEnergyCost m = 4294967295 := by
  simp only [closeEnergyCost, roundedCost, Config.max32]
  omega

/-! ## The record of a close (R114, R118, R119) -/

section

variable (n : Ped) (r : Session) (o : Opening) (g : Grant) (why : EndReason) (s : State)

@[simp] theorem buildRecord_energyCost : (buildRecord n r o g why s).energyCost = closeEnergyCost r.meter := rfl

@[simp] theorem buildRecord_startFee : (buildRecord n r o g why s).startFee = chargedStartFee (s.tariffOf g) r.meter := rfl

@[simp] theorem buildRecord_idleFee : (buildRecord n r o g why s).idleFee = r.meter.idleFee := rfl

/-- The total of a record is the sum of its three amounts, saturating (R71). -/
theorem buildRecord_total : (buildRecord n r o g why s).total = min Config.max32
    (chargedStartFee (s.tariffOf g) r.meter + closeEnergyCost r.meter + r.meter.idleFee) := rfl

/-- What is due is the total within the hold (R71). -/
theorem buildRecord_due : (buildRecord n r o g why s).due = min (buildRecord n r o g why s).total g.hold := rfl

/-- What is absorbed is the part of the total above the hold (R71). -/
theorem buildRecord_absorbed : (buildRecord n r o g why s).absorbed = (buildRecord n r o g why s).total - g.hold := tsub_min

/-- HOLD-CLAMPED says that something is absorbed: the total passes the hold (R119). -/
theorem buildRecord_holdClamped :
    (buildRecord n r o g why s).flags.holdClamped = decide (g.hold < (buildRecord n r o g why s).total) := by
  have clamped : (buildRecord n r o g why s).flags.holdClamped = decide (0 < (buildRecord n r o g why s).absorbed) := rfl
  rw [clamped, buildRecord_absorbed, decide_eq_decide]
  exact Nat.sub_pos_iff_lt

/-- The money of a record built at a close is split as R71 says. -/
theorem buildRecord_moneyLaw : (buildRecord n r o g why s).MoneyLaw := by
  refine ⟨Nat.min_le_right _ _, ?_, Nat.min_le_left _ _, rfl, ?_, rfl⟩
  · rw [buildRecord_absorbed, buildRecord_due]
    omega
  · rw [buildRecord_absorbed, buildRecord_due]
    intro (h : _ ≠ 0)
    change _ = g.hold
    omega

theorem buildRecord_bandLaw : (buildRecord n r o g why s).BandLaw := by
  refine ⟨bandListFrom_ascending _ _, fun e he => ?_⟩
  obtain ⟨positive, stands⟩ := mem_bandList.1 he
  obtain ⟨inRange, _⟩ := Vector.getElem?_eq_some_iff.1 stands
  exact ⟨inRange, positive⟩

end

/-- Settles O28: the record is the session's, with its close figures. -/
theorem settlementRecordCarriesTheSession : Obligations.SettlementRecordCarriesTheSession := by
  intro n r o g why s charged below q fee cost total
  have hfee : q.startFee = fee := (buildRecord_startFee n r o g why s).trans (chargedStartFee_flow _ charged)
  have hcost : q.energyCost = cost := closeEnergyCost_rounded below
  have htotal : q.total = total := by
    have saturating : q.total = min Config.max32 (q.startFee + q.energyCost + r.meter.idleFee) := buildRecord_total n r o g why s
    rw [saturating, hfee, hcost, min_comm, Nat.min_def]
    rfl
  have hdue : q.due = if total ≤ g.hold then total else g.hold := by
    rw [← htotal, ← Nat.min_def]
    exact buildRecord_due n r o g why s
  have habsorbed : q.absorbed = total - g.hold := htotal ▸ buildRecord_absorbed n r o g why s
  have hclamped : q.flags.holdClamped = decide (g.hold < total) := htotal ▸ buildRecord_holdClamped n r o g why s
  refine ⟨⟨rfl, rfl, rfl, rfl, rfl, rfl, rfl⟩, ⟨rfl, rfl, rfl, rfl, rfl⟩, ⟨rfl, rfl, rfl, rfl, rfl, rfl⟩, rfl,
    ⟨hfee, hcost, htotal, hdue, habsorbed⟩, fun i e => mem_bandList, ?_⟩
  rw [← hclamped]
  rfl

/-- Settles O29: the cost whole is rounded half up, and saturates. -/
theorem energyCostRoundsHalfUp : Obligations.EnergyCostRoundsHalfUp := by
  rintro m n r o g why s rfl -
  simp only [buildRecord_energyCost, buildRecord_idleFee]
  refine ⟨fun below half => ?_, fun below small => ?_, closeEnergyCost_saturated, trivial⟩
  · rw [closeEnergyCost_rounded below, if_pos half]
  · rw [closeEnergyCost_rounded below, if_neg (Nat.not_le.2 small), Nat.add_zero]

end Sys2Proof.Machine
end

section
/-! SUPPORT. The one-second tick: clock, occupying seconds and seconds since the start (R66, R136, R188). -/

namespace Sys2Proof.Machine

/-- A valid clock advances, with the wraps at midnight and after the last day (R136). -/
theorem Clock.tick_cases (c : Clock) : (c.second < 86399 → c.tick = ⟨c.day, c.second + 1⟩)
    ∧ (86399 ≤ c.second → c.day < 65534 → c.tick = ⟨c.day + 1, 0⟩)
    ∧ (86399 ≤ c.second → 65534 ≤ c.day → c.tick = ⟨0, 0⟩) := by
  unfold Clock.tick
  refine ⟨fun h => if_pos h, fun h hday => ?_, fun h hday => ?_⟩
  · rw [if_neg (by omega), if_pos hday]
  · rw [if_neg (by omega), if_neg (by omega)]

theorem tickSecond_session (n : Ped) (s : State) : (tickSecond s).session n = (s.session n).tickOccupying :=
  Vector.getElem_map _ _

/-- Settles O34: the tick as it is taken while the device is fed. -/
theorem oneSecondTickAdvancesTheClock : Obligations.OneSecondTickAdvancesTheClock := by
  intro s fed
  have taken : exec .oneSecondTick s = .next (tickSecond s) := congrArg Host.Outcome.next (if_neg fed)
  refine ⟨tickSecond s, taken, rfl, fun unset => ?_, fun c set => ?_, fun n => ?_⟩
  · change s.clock.map Clock.tick = none
    rw [unset]
    rfl
  · have ticked : (tickSecond s).clock = some c.tick := by
      change s.clock.map Clock.tick = some c.tick
      rw [set]
      rfl
    obtain ⟨within, midnight, lastDay⟩ := c.tick_cases
    rw [ticked]
    exact ⟨fun h => congrArg some (within h), fun h h' => congrArg some (midnight h h'),
      fun h h' => congrArg some (lastDay h h')⟩
  · rw [tickSecond_session]
    unfold Session.tickOccupying
    exact ⟨fun h => if_neg h, fun h => if_pos h⟩

end Sys2Proof.Machine
end

section
/-! SUPPORT. What a step can do to the settlement queue: a close joins a record, a fetch marks or removes one, a confirm removes one,
and a start makes every record PENDING or empties the queue (R118, R122, R124, R125, R128, R129). -/

namespace Sys2Proof.Machine

/-! ## Lawful records -/

/-- What the queue law asks of one record. -/
abbrev SettlementRecord.Lawful (r : SettlementRecord) : Prop := r.MoneyLaw ∧ r.BandLaw ∧ (r.posted → r.delivery = .pending)

theorem buildRecord_lawful (n : Ped) (r : Session) (o : Opening) (g : Grant) (why : EndReason) (s : State) :
    (buildRecord n r o g why s).Lawful :=
  ⟨buildRecord_moneyLaw n r o g why s, buildRecord_bandLaw n r o g why s, fun _ => rfl⟩

/-- A record fetched for the first time stays lawful where it is not posted. -/
theorem SettlementRecord.Lawful.delivered {r : SettlementRecord} (h : r.Lawful) (hp : r.posted = false) :
    SettlementRecord.Lawful { r with delivery := .delivered } :=
  have ⟨money, bands, _⟩ := h
  ⟨money, bands, fun posted => by simp [hp] at posted⟩

theorem SettlementRecord.Lawful.undelivered {r : SettlementRecord} (h : r.Lawful) :
    SettlementRecord.Lawful { r with delivery := .pending } :=
  have ⟨money, bands, _⟩ := h
  ⟨money, bands, fun _ => rfl⟩

/-- A fetch leaves of a queue its records, one of them marked DELIVERED if it is not posted (R122, R124). -/
theorem mem_fetchOldest {queue rest : List SettlementRecord} {r x : SettlementRecord} (h : fetchOldest queue = some (r, rest))
    (hx : x ∈ rest) : x ∈ queue ∨ r ∈ queue ∧ r.posted = false ∧ x = { r with delivery := .delivered } := by
  induction queue generalizing rest with
  | nil => cases h
  | cons y ys ih =>
    rw [fetchOldest] at h
    split at h
    · obtain ⟨rfl, rfl⟩ := Prod.mk.inj (Option.some.inj h)
      by_cases hp : y.posted = true
      · rw [if_pos hp] at hx
        exact .inl (.tail _ hx)
      · rw [if_neg hp] at hx
        exact (List.mem_cons.1 hx).elim (fun e => .inr ⟨.head _, by simpa using hp, e⟩) fun hx => .inl (.tail _ hx)
    · obtain ⟨⟨got, left⟩, hgot, he⟩ := Option.map_eq_some_iff.1 h
      obtain ⟨rfl, rfl⟩ := Prod.mk.inj he
      rcases List.mem_cons.1 hx with rfl | hx
      · exact .inl (.head _)
      · exact (ih hgot hx).imp (.tail _) fun ⟨hr, hmarked⟩ => ⟨.tail _ hr, hmarked⟩

/-! ## Moves of the queue -/

/-- One change of the queue. -/
inductive QueueMove : List SettlementRecord → List SettlementRecord → Prop
  /-- the record of a close joins at the newest end (R118) -/
  | joined {queue} (n : Ped) (r : Session) (o : Opening) (g : Grant) (why : EndReason) (s : State) :
      QueueMove queue (queue ++ [buildRecord n r o g why s])
  /-- the oldest PENDING record is fetched (R122, R124) -/
  | fetched {queue rest r} (h : fetchOldest queue = some (r, rest)) : QueueMove queue rest
  /-- records leave the queue, and the others stay in their order (R125, R128) -/
  | removed {queue rest} (h : rest.Sublist queue) : QueueMove queue rest
  /-- every record becomes PENDING in its place (R129) -/
  | undelivered {queue} : QueueMove queue (undeliver queue)

/-- A change of the queue leaves lawful records lawful. -/
theorem QueueMove.keeps_lawful {queue queue' : List SettlementRecord} (h : QueueMove queue queue') (law : ∀ r ∈ queue, r.Lawful) :
    ∀ r ∈ queue', r.Lawful := by
  intro x hx
  cases h with
  | joined n r o g why s =>
    rcases List.mem_append.1 hx with hx | hx
    · exact law x hx
    · rw [List.mem_singleton.1 hx]
      exact buildRecord_lawful n r o g why s
  | fetched h =>
    rcases mem_fetchOldest h hx with hx | ⟨hr, hp, rfl⟩
    · exact law x hx
    · exact (law _ hr).delivered hp
  | removed h => exact law x (h.subset hx)
  | undelivered =>
    obtain ⟨r, hr, rfl⟩ := List.mem_map.1 hx
    exact (law r hr).undelivered

/-- What a run of changes can make of the queue of a state. -/
def State.QueueMoves (s t : State) : Prop := Relation.ReflTransGen QueueMove s.settlement.queue t.settlement.queue

namespace State.QueueMoves

variable {s t u : State}

protected theorem refl (s : State) : s.QueueMoves s := Relation.ReflTransGen.refl

theorem trans (h : s.QueueMoves t) (h' : t.QueueMoves u) : s.QueueMoves u := Relation.ReflTransGen.trans h h'

theorem of_move (h : QueueMove s.settlement.queue t.settlement.queue) : s.QueueMoves t := Relation.ReflTransGen.single h

/-- What leaves the queue alone. -/
theorem of_queue (h : t.settlement.queue = s.settlement.queue) : s.QueueMoves t := by
  unfold State.QueueMoves
  rw [h]

/-- What leaves the whole Settlement Queue alone. -/
theorem of_settlement (h : t.settlement = s.settlement) : s.QueueMoves t := of_queue (by rw [h])

/-- What is done only in some states moves the queue if the deed does. -/
theorem ite {p : Prop} [Decidable p] (h : s.QueueMoves t) : s.QueueMoves (if p then t else s) := by
  split
  · exact h
  · exact .refl s

/-- Sixteen operations, one for each pedestal. -/
theorem forPedestals {f : Ped → State → State} (h : ∀ (n : Ped) (u : State), u.QueueMoves (f n u)) (s : State) :
    s.QueueMoves (forPedestals f s) :=
  forPedestals_induction (.refl s) fun n u hu => hu.trans (h n u)

theorem keeps_queueLaw (h : s.QueueMoves t) (law : s.QueueLaw) : t.QueueLaw :=
  Relation.ReflTransGen.head_induction_on (motive := fun queue _ => (∀ r ∈ queue, r.Lawful) → t.QueueLaw) h id
    (fun move _ ih law => ih (move.keeps_lawful law)) law

end State.QueueMoves

end Sys2Proof.Machine
end

section
/-! SUPPORT. The operations that leave the Settlement Queue alone: records, grants, the fields of a reply that close nothing, commands
and the allocation round. -/

namespace Sys2Proof.Machine

/-! ## Records -/

@[simp] theorem putSession_settlement (n : Ped) (r : Session) (s : State) : (putSession n r s).settlement = s.settlement := by
  obtain ⟨b, h⟩ := putSession_records n r s
  rw [h]

@[simp] theorem refuseToken_settlement (n : Ped) (reason : Byte) (s : State) : (refuseToken n reason s).settlement = s.settlement :=
  rfl

/-- A cancel gives up its slot and leaves the queue. -/
@[simp] theorem cancelSession_queue (n : Ped) (reason : Byte) (s : State) :
    (cancelSession n reason s).settlement.queue = s.settlement.queue := by
  rw [cancelSession_settlement]

@[simp] theorem enterEnding_settlement (n : Ped) (why : EndReason) (s : State) :
    (enterEnding n why s).settlement = s.settlement :=
  putSession_settlement n _ s

@[simp] theorem enterSuspended_settlement (n : Ped) (s : State) : (enterSuspended n s).settlement = s.settlement :=
  putSession_settlement n _ s

@[simp] theorem enterOccupying_settlement (n : Ped) (s : State) : (enterOccupying n s).settlement = s.settlement :=
  putSession_settlement n _ s

@[simp] theorem returnToDispensing_settlement (n : Ped) (request : Nat) (s : State) :
    (returnToDispensing n request s).settlement = s.settlement :=
  putSession_settlement n _ s

@[simp] theorem startAttempt_settlement (n : Ped) (s : State) : (startAttempt n s).settlement = s.settlement := rfl

@[simp] theorem enterProbing_settlement (n : Ped) (s : State) : (enterProbing n s).settlement = s.settlement :=
  putSession_settlement n _ s

@[simp] theorem energize_settlement (n : Ped) (count : Nat) (s : State) : (energize n count s).settlement = s.settlement :=
  putSession_settlement n _ _

/-! ## Grants and tokens -/

@[simp] theorem takeGrant_settlement (n : Ped) (g : Grant) (s : State) : (takeGrant n g s).settlement = s.settlement := by
  unfold takeGrant
  simp only []
  split
  · exact enterProbing_settlement n _
  · exact putSession_settlement n _ _

@[simp] theorem offerGrant_queue (n : Ped) (o : GrantOffer) (s : State) :
    (offerGrant n o s).settlement.queue = s.settlement.queue := by
  unfold offerGrant
  split
  · rw [takeGrant_settlement]
  · exact cancelSession_queue n _ s

@[simp] theorem authExpired_queue (n : Ped) (s : State) : (authExpired n s).settlement.queue = s.settlement.queue := by
  unfold authExpired
  split
  · split
    · exact offerGrant_queue n _ s
    · exact cancelSession_queue n _ s
  · exact cancelSession_queue n _ s

@[simp] theorem decideSession_queue (n : Ped) (o : Opening) (c : CapturedTerms) (s : State) :
    (decideSession n o c s).settlement.queue = s.settlement.queue := by
  rcases decideSession_cases n o c s with ⟨reason, e⟩ | ⟨g, e⟩ | e <;> rw [e]
  · exact cancelSession_queue n reason s
  · exact offerGrant_queue n g s
  · rfl

/-- An accepted token takes a slot and a number, and leaves the queue. -/
@[simp] theorem acceptToken_queue (n : Ped) (token : Token) (source : TokenSource) (s : State) :
    (acceptToken n token source s).settlement.queue = s.settlement.queue := by
  unfold acceptToken
  rw [decideSession_queue, putSession_settlement, reserveSlot_settlement]

@[simp] theorem offerToken_queue (n : Ped) (token : Token) (source : TokenSource) (s : State) :
    (offerToken n token source s).settlement.queue = s.settlement.queue := by
  unfold offerToken
  split
  · rfl
  · exact acceptToken_queue n token source s

@[simp] theorem quietActivity_settlement (s : State) : (quietActivity s).settlement = s.settlement := by
  rw [quietActivity_eq]
  split <;> rfl

/-! ## Fields of a reply -/

@[simp] theorem tableFaults_settlement (n : Ped) (x : StatusReply) (s : State) :
    (tableFaults n x s).settlement = s.settlement := by
  rw [tableFaults_eq]

@[simp] theorem takeComplete_settlement (n : Ped) (complete : Bool) (s : State) :
    (takeComplete n complete s).settlement = s.settlement := by
  unfold takeComplete
  split
  case h_1 | h_2 => split <;> simp
  all_goals rfl

@[simp] theorem takeVehicleRequest_settlement (n : Ped) (request : Nat) (complete : Bool) (s : State) :
    (takeVehicleRequest n request complete s).settlement = s.settlement := by
  unfold takeVehicleRequest
  split
  case h_1 =>
    split
    · split <;> simp
    · rfl
  case h_2 | h_3 => split <;> simp
  all_goals rfl

@[simp] theorem linkSteps_settlement (n : Ped) (plug : Bool) (s : State) : (linkSteps n plug s).settlement = s.settlement := by
  unfold linkSteps
  simp only []
  split <;> rfl

/-! ## Commands and turns -/

@[simp] theorem sendCommand_settlement (n : Ped) (b : Bool) (s : State) : (sendCommand n b s).settlement = s.settlement := by
  unfold sendCommand
  simp only []
  split <;> rfl

@[simp] theorem nextTurn_settlement (l : List Ped) (s : State) : (nextTurn l s).settlement = s.settlement := by
  unfold nextTurn
  split
  · exact sendCommand_settlement _ _ s
  · rfl

@[simp] theorem endExchange_settlement (e : Exchange) (s : State) : (endExchange e s).settlement = s.settlement := by
  unfold endExchange
  split
  · rfl
  · split
    · rfl
    · exact nextTurn_settlement _ s

@[simp] theorem takeAlert_settlement (reading : Nat) (s : State) : (takeAlert reading s).settlement = s.settlement := by
  have ended : ∀ t : State, (endCycle t).settlement = t.settlement := fun _ => rfl
  unfold takeAlert
  simp only []
  split
  · rfl
  · split
    · split <;> simp [ended]
    · simp [ended]

@[simp] theorem requestStopAll_settlement (s : State) : (requestStopAll s).settlement = s.settlement := by
  rw [requestStopAll_eq]

/-! ## The allocation round -/

theorem prepareRound_settlement (s : State) : (prepareRound s).settlement = s.settlement := by
  have cover : ∀ (figure : Ped → Option CoverFigure) (n : Ped) (u : State),
      (coverStage (figure n) n u).settlement = u.settlement := by
    intro figure n u
    unfold coverStage
    split <;> simp
  have blocked : ∀ (n : Ped) (u : State), (blockedStage n u).settlement = u.settlement := by
    intro n u
    unfold blockedStage
    split <;> rfl
  have countdown : ∀ (n : Ped) (u : State), (countdownStage n u).settlement = u.settlement := by
    intro n u
    unfold countdownStage
    simp only []
    split
    · split <;> rfl
    · rfl
  have release : ∀ (budget : Nat) (u : State), (releaseStage budget u).settlement = u.settlement := by
    intro budget u
    unfold releaseStage
    split
    · refine forPedestals_frame fun n v => ?_
      unfold releaseYielder
      split <;> rfl
    · rfl
  unfold prepareRound
  simp only []
  rw [release, forPedestals_frame (proj := State.settlement) countdown, forPedestals_frame (proj := State.settlement) blocked]
  exact forPedestals_frame (cover s.coverFigure)

/-- Allocation fields changed in one record after the other. -/
theorem foldl_setAlloc_settlement {α : Type} (p : α → Ped) (a : α → State → Alloc) (l : List α) (s : State) :
    (l.foldl (fun u x => u.setAlloc (p x) (a x u)) s).settlement = s.settlement := by
  induction l generalizing s with
  | nil => rfl
  | cons x xs ih => exact ih _

theorem divideBudget_settlement (figure : Ped → Option CoverFigure) (s : State) :
    (divideBudget figure s).settlement = s.settlement := by
  have report : ∀ (budget k p : Nat) (u : State), (reportRound budget k p u).settlement = u.settlement := by
    intro budget k p u
    unfold reportRound
    simp only []
    split <;> rfl
  unfold divideBudget
  simp only []
  rw [report]
  exact (foldl_setAlloc_settlement Candidate.pedestal (fun c u => (u.session c.pedestal).alloc.park) _ _).trans
    (foldl_setAlloc_settlement Prod.fst
      (fun x u => (u.session x.1).alloc.power x.2 _ u.settings.yieldOn u.settings.yieldOff) _ s)

@[simp] theorem allocationRound_settlement (s : State) : (allocationRound s).settlement = s.settlement := by
  unfold allocationRound
  rw [divideBudget_settlement, prepareRound_settlement]

@[simp] theorem startCycle_settlement (s : State) : (startCycle s).settlement = s.settlement := by
  have marks : ∀ u : State, (forPedestals (fun n v => v.setEntry n { v.entry n with missMark := false }) u).settlement
      = u.settlement := fun _ => forPedestals_frame fun _ _ => rfl
  unfold startCycle
  simp only []
  rw [nextTurn_settlement, marks]
  split <;> simp

end Sys2Proof.Machine
end

section
/-! SUPPORT. The operations that can close a session move the queue: stops, losses, tokens, the fields of a reply and misses. -/

namespace Sys2Proof.Machine

/-! ## Closes and stops -/

/-- A close hands the queue at most the record that is built of its session (R118). -/
theorem closeSession_queueMoves (n : Ped) (why : EndReason) (s : State) : s.QueueMoves (closeSession n why s) := by
  have joins : ∀ q : Session, ∀ o g, s.QueueMoves (joinQueue (buildRecord n q o g ((s.session n).endReason.getD why) s) s) := by
    intro q o g
    refine .of_move ?_
    rw [joinQueue_settlement]
    exact .joined n q o g _ s
  have closed : ∀ (r : Session) (u : State), s.QueueMoves u → s.QueueMoves (putSession n r (latchPed n .sessionClosed .none u)) :=
    fun r u hu => hu.trans (.of_settlement (putSession_settlement n r _))
  unfold closeSession
  refine closed _ _ ?_
  split
  · exact joins _ _ _
  · exact .refl s

theorem stopSession_queueMoves (n : Ped) (why : EndReason) (s : State) : s.QueueMoves (stopSession n why s) := by
  unfold stopSession
  split
  case h_1 | h_2 => exact closeSession_queueMoves n why s
  case h_3 | h_4 | h_5 => exact .of_settlement (enterEnding_settlement n why s)
  all_goals exact .refl s

theorem haltSession_queueMoves (why : EndReason) (n : Ped) (s : State) : s.QueueMoves (haltSession why n s) := by
  unfold haltSession
  split
  case h_1 => exact .of_queue (cancelSession_queue n _ s)
  case h_8 | h_9 | h_10 => exact .refl s
  all_goals exact closeSession_queueMoves n why s

theorem haltAll_queueMoves (why : EndReason) (s : State) : s.QueueMoves (forPedestals (haltSession why) s) :=
  .forPedestals (haltSession_queueMoves why) s

theorem loseSession_queueMoves (n : Ped) (s : State) : s.QueueMoves (loseSession n s) := by
  have changed : ∀ r : Session, s.QueueMoves (closeSession n .pedestalLost (s.setSession n r)) := fun r =>
    closeSession_queueMoves n .pedestalLost (s.setSession n r)
  unfold loseSession
  simp only []
  split
  case h_1 => exact .of_queue (cancelSession_queue n _ s)
  case h_2 => exact closeSession_queueMoves n _ s
  case h_8 | h_9 | h_10 => exact .refl s
  all_goals exact changed _

theorem attemptFailed_queueMoves (n : Ped) (s : State) : s.QueueMoves (attemptFailed n s) := by
  unfold attemptFailed
  simp only []
  split
  · exact .of_settlement rfl
  · exact closeSession_queueMoves n .cableOpen (s.setSession n _)

/-! ## The fields of a good reply (R5, R153) -/

theorem takeToken_queueMoves (n : Ped) (token : Token) (source : TokenSource) (s : State) :
    s.QueueMoves (takeToken n token source s) := by
  have refused : ∀ reason, s.QueueMoves (refuseToken n reason s) := fun reason => .of_settlement (refuseToken_settlement n reason s)
  unfold takeToken
  simp only []
  split
  case h_1 | h_2 => exact .of_queue (offerToken_queue n token source s)
  case h_3 | h_4 =>
    split
    · exact .refl s
    · exact refused _
  case h_10 => exact refused _
  all_goals
    split
    · exact stopSession_queueMoves n .userStop s
    · exact refused _

theorem takePresentation_queueMoves (n : Ped) (p : Presentation) (s : State) : s.QueueMoves (takePresentation n p s) := by
  have stored : s.QueueMoves (s.setEntry n { s.entry n with lastPresentation := some p.number }) := .of_settlement rfl
  unfold takePresentation
  simp only []
  split
  · split
    · exact stored
    · exact (stored.trans (.of_settlement (quietActivity_settlement _))).trans (takeToken_queueMoves n _ _ _)
  · exact stored

theorem sessionFaults_queueMoves (n : Ped) (x : StatusReply) (s : State) : s.QueueMoves (sessionFaults n x s) := by
  have stop : ∀ why, s.QueueMoves (faultStop n why s) := by
    intro why
    unfold faultStop
    split
    · exact .refl s
    · exact stopSession_queueMoves n why s
  unfold sessionFaults
  simp only []
  split
  · exact stop _
  · split
    · exact stop _
    · exact .refl s

theorem reactPlugIn_queueMoves (n : Ped) (s : State) : s.QueueMoves (reactPlugIn n s) := by
  unfold reactPlugIn
  split
  case h_1 => exact .of_settlement (putSession_settlement n _ s)
  case h_2 =>
    split
    · exact closeSession_queueMoves n _ s
    · split
      · exact closeSession_queueMoves n _ s
      · exact .of_settlement (enterProbing_settlement n s)
  all_goals exact .refl s

theorem reactPlugOut_queueMoves (n : Ped) (s : State) : s.QueueMoves (reactPlugOut n s) := by
  unfold reactPlugOut
  split
  case h_1 | h_2 => exact .of_settlement (putSession_settlement n _ s)
  case h_3 | h_4 | h_5 | h_6 => exact stopSession_queueMoves n _ s
  all_goals exact .refl s

theorem takePlug_queueMoves (n : Ped) (plug : Bool) (s : State) : s.QueueMoves (takePlug n plug s) := by
  unfold takePlug
  simp only []
  split
  · exact .trans (.of_settlement (quietActivity_settlement (latchPed n .plugIn .none s)))
      (reactPlugIn_queueMoves n (State.setSession n _ _))
  · split
    · exact reactPlugOut_queueMoves n (State.setSession n _ (latchPed n .plugOut .none s))
    · split
      · split
        · exact .of_settlement rfl
        · exact .of_settlement (putSession_settlement n _ s)
      · exact .refl s

theorem takeProbe_queueMoves (n : Ped) (p : ProbeResult) (count : Nat) (s : State) : s.QueueMoves (takeProbe n p count s) := by
  unfold takeProbe
  split
  · cases p with
    | none => exact .refl s
    | openCircuit => exact attemptFailed_queueMoves n s
    | short => exact closeSession_queueMoves n .cableShort (latchPed n _ _ (s.setEntry n _))
    | matched length =>
      simp only []
      split
      · exact .of_settlement (energize_settlement n count s)
      · exact closeSession_queueMoves n _ s
  · exact .refl s

theorem takePower_queueMoves (n : Ped) (wasEnding : Bool) (power : Nat) (s : State) :
    s.QueueMoves (takePower n wasEnding power s) := by
  unfold takePower
  split
  · exact closeSession_queueMoves n _ s
  · exact .refl s

/-- A good reply, field by field in the order of R5. -/
theorem takeReply_queueMoves (n : Ped) (x : StatusReply) (s : State) : s.QueueMoves (takeReply n x s) := by
  have metered : s.QueueMoves (meterSteps n x.meter s) := .of_settlement (meterSteps_settlement n x.meter)
  have faulted : ∀ u : State, u.QueueMoves (sessionFaults n x (tableFaults n x u)) := fun u =>
    .trans (.of_settlement (tableFaults_settlement n x u)) (sessionFaults_queueMoves n x _)
  have presented : ∀ u : State, u.QueueMoves (match x.presentation with | some p => takePresentation n p u | none => u) := by
    intro u
    cases x.presentation with
    | some p => exact takePresentation_queueMoves n p u
    | none => exact .refl u
  have driven : ∀ u : State, u.QueueMoves (takeVehicleRequest n x.request x.complete (takeComplete n x.complete u)) := fun u =>
    .of_settlement (by simp)
  have probed := ((metered.trans (faulted _)).trans (takePlug_queueMoves n x.plug _)).trans
    ((presented _).trans (takeProbe_queueMoves n x.probe x.meter _))
  exact ((probed.trans (driven _)).trans (takePower_queueMoves n _ x.power _)).trans
    (.of_settlement (linkSteps_settlement n x.plug _))

/-! ## Exchanges -/

theorem takeMiss_queueMoves (n : Ped) (s : State) : s.QueueMoves (takeMiss n s) := by
  unfold takeMiss
  simp only []
  split
  · exact loseSession_queueMoves n (latchPed n _ _ (s.setEntry n _))
  · exact .of_settlement rfl

theorem takeExchange_queueMoves (e : Exchange) (reply : Option StatusReply) (s : State) :
    s.QueueMoves (takeExchange e reply s) := by
  unfold takeExchange
  split
  · exact .refl s
  · cases reply with
    | none => exact takeMiss_queueMoves _ s
    | some x =>
      simp only []
      split
      · exact .of_settlement (meterSteps_settlement _ _)
      · exact takeReply_queueMoves _ x s

end Sys2Proof.Machine
end

section
/-! SUPPORT. Requests, characters, starts and stops move the queue, and so does every command (R122 to R125, R128, R129). -/

namespace Sys2Proof.Machine

variable {s t : State}

/-! ## Requests -/

/-- The fetch of the oldest PENDING record (R122, R124). -/
theorem settleFetch_queueMoves (body : List Byte) (s : State) : s.QueueMoves (settleFetch.act body s).2 := by
  unfold settleFetch fetchUnnamed fetchNamed
  simp only []
  split
  · split
    · rename_i hfetched
      exact .of_move (.fetched hfetched)
    · exact .refl s
  · repeat' split
    all_goals exact .refl s

/-- The confirm of a DELIVERED record (R125). -/
theorem settleConfirm_queueMoves (body : List Byte) (s : State) : s.QueueMoves (settleConfirm.act body s).2 := by
  unfold settleConfirm
  simp only []
  split
  · exact .refl s
  · split
    · exact .refl s
    · split
      · exact .refl s
      · exact .of_move (.removed List.eraseP_sublist)

theorem sessionStop_queueMoves (body : List Byte) (s : State) : s.QueueMoves (sessionStop.act body s).2 := by
  unfold sessionStop hostStop
  simp only []
  generalize (if body.length = 3 then some (fieldAt body 1 2) else none) = given
  split
  · exact .refl s
  · split
    · exact .refl s
    · split
      · exact .refl s
      · simp only [done]
        split
        · exact .of_queue (cancelSession_queue _ _ s)
        · exact stopSession_queueMoves _ _ s

theorem authDecision_queue (body : List Byte) (s : State) : (authDecision.act body s).2.settlement.queue = s.settlement.queue := by
  unfold authDecision
  simp only []
  split
  · rfl
  · split
    · rfl
    · split
      · rfl
      · exact cancelSession_queue _ _ s
      · split
        · rfl
        · exact offerGrant_queue _ _ s

theorem enterRestarting_settlement (kind : RestartKind) (s : State) : (enterRestarting kind s).settlement = s.settlement :=
  requestStopAll_settlement s

theorem restart_queueMoves (body : List Byte) (s : State) : s.QueueMoves (restart.act body s).2 := by
  unfold restart
  simp only []
  split
  · exact (haltAll_queueMoves _ s).trans (.of_settlement (enterRestarting_settlement _ _))
  · split
    · exact .refl s
    · exact .of_settlement (enterRestarting_settlement _ s)
  · exact .refl s

theorem countersRead_settlement (body : List Byte) (s : State) : (countersRead.act body s).2.settlement = s.settlement := by
  unfold countersRead
  exact forPedestals_frame (f := fun n u => u.setEntry n { u.entry n with frameErrors := 0, missMark := false }) fun _ _ => rfl

/-- Every request of the catalogue moves the queue; those named in no lemma above leave the Settlement Queue alone. -/
theorem catalogue_queueMoves {kind : Byte} {q : Request} (h : catalogue kind = some q) (body : List Byte) (s : State) :
    s.QueueMoves (q.act body s).2 := by
  unfold catalogue at h
  split at h <;> cases h
  case h_18 => exact .of_settlement (countersRead_settlement body s)
  case h_20 => exact sessionStop_queueMoves body s
  case h_22 => exact .of_queue (authDecision_queue body s)
  case h_24 => exact settleFetch_queueMoves body s
  case h_25 => exact settleConfirm_queueMoves body s
  case h_29 => exact restart_queueMoves body s
  all_goals
    dsimp only [statusRead, parkSet, parkRead, parkOpen, parkClose, clockSet, siteLoad, tariffWrite, tariffRead, tariffClear,
      windowWrite, windowRead, windowClear, enrol, dropShare, withdraw, voidExchange, unblock, pedestalRead, sessionRead,
      sessionCap, queryList, conditionsRead, conditionsClear, conditionsMask]
    repeat' split
    all_goals exact .of_settlement rfl

/-! ## Frames and characters -/

@[simp] theorem sendReply_settlement (r : Reply) (s : State) : (sendReply r s).settlement = s.settlement := by
  obtain ⟨l, e⟩ := sendReply_eq r s
  rw [e]
  rfl

@[simp] theorem linkFrame_settlement (s : State) : (linkFrame s).settlement = s.settlement := by
  rcases linkFrame_cases s with ⟨_, e⟩ | ⟨_, e⟩ <;> rw [e] <;> rfl

theorem takeFrame_queueMoves (kind tag : Byte) (body : List Byte) (s : State) :
    s.QueueMoves (takeFrame kind tag body (catalogue kind) s) := by
  have replied : ∀ (r : Reply) (u : State), u.QueueMoves (sendReply r u) := fun r u => .of_settlement (sendReply_settlement r u)
  unfold takeFrame
  split
  · refine .trans (t := linkFrame (s.withLine { s.line with parser := .hunt false })) (.of_settlement (linkFrame_settlement _)) ?_
    generalize linkFrame _ = u
    unfold answerFrame refuseBusy
    split
    · split <;> exact .of_settlement rfl
    · split
      · exact replied _ u
      · split
        · exact replied _ u
        · rename_i q hq
          split
          · exact (catalogue_queueMoves hq body u).trans (replied _ _)
          · exact replied _ u
  · exact .refl s

theorem badSyncByte_settlement (b : Bool) (s : State) : (badSyncByte b s).settlement = s.settlement := by
  unfold badSyncByte
  split <;> rfl

theorem parseByte_queueMoves (b : Byte) (s : State) : s.QueueMoves (parseByte b s) := by
  unfold parseByte endFrame
  split
  case h_1 =>
    split
    · exact .of_settlement rfl
    · exact .of_settlement (badSyncByte_settlement _ s)
  case h_2 => split <;> exact .of_settlement rfl
  case h_7 =>
    split
    · exact takeFrame_queueMoves _ _ _ s
    · exact .of_settlement rfl
  all_goals exact .of_settlement rfl

theorem receive_queueMoves (received : List RxChar) (s : State) : s.QueueMoves (receive received s) := by
  have char : ∀ (c : RxChar) (u : State), u.QueueMoves (receiveChar c u) := by
    intro c u
    unfold receiveChar badStop
    split
    · split
      · exact parseByte_queueMoves _ u
      · split
        · exact .of_settlement (badSyncByte_settlement _ u)
        all_goals exact .of_settlement rfl
    · exact .refl u
  unfold receive
  induction received generalizing s with
  | nil => exact .refl s
  | cons c cs ih => exact (char c s).trans (ih _)

@[simp] theorem startNotice_settlement (s : State) : (startNotice s).settlement = s.settlement := by
  rcases startNotice_cases s with e | ⟨_, _, _, e⟩ <;> rw [e]

@[simp] theorem frameSent_settlement (s : State) : (frameSent s).settlement = s.settlement := by
  unfold frameSent
  split
  · rfl
  · rfl
  · exact startNotice_settlement _

/-! ## Starts and stops -/

@[simp] theorem latchStart_settlement (kind : StartKind) (cause : StartCause) (s : State) :
    (latchStart kind cause s).settlement = s.settlement := by
  unfold latchStart
  simp only []
  split <;> rfl

/-- A WARM start makes every record PENDING in its place (R129). -/
theorem keptStart_queueMoves (h : t.settlement = s.settlement.kept) : s.QueueMoves t := by
  refine .of_move ?_
  rw [h]
  exact .undelivered

theorem freshStart_queueMoves (kind : StartKind) (cause : StartCause) (s : State) :
    s.QueueMoves (freshStart kind cause s.settlement.kept s) :=
  keptStart_queueMoves (latchStart_settlement _ _ _)

theorem softStart_queueMoves (s : State) : s.QueueMoves (softStart s) := keptStart_queueMoves (latchStart_settlement _ _ _)

/-- A COLD start empties the queue (R128). -/
theorem markerStart_queueMoves (cause : StartCause) (s : State) : s.QueueMoves (markerStart cause s) := by
  unfold markerStart
  split
  · exact freshStart_queueMoves _ _ s
  · refine .of_move (.removed ?_)
    rw [show (freshStart .cold cause {} s).settlement = {} from latchStart_settlement _ _ _]
    exact List.nil_sublist _

theorem haltDevice_queueMoves (s : State) : s.QueueMoves (haltDevice s) := by
  have stopped := (haltAll_queueMoves .supplyLoss s).trans (.of_settlement (requestStopAll_settlement _))
  unfold haltDevice
  generalize requestStopAll _ = u at stopped ⊢
  exact stopped

theorem stopCause_queueMoves (s : State) : s.QueueMoves (stopCause s) := by
  unfold stopCause
  split
  · exact .refl s
  · exact haltDevice_queueMoves s

/-! ## Commands and steps -/

theorem idleMinuteOf_settlement (n : Ped) (s : State) : (idleMinuteOf n s).settlement = s.settlement := by
  unfold idleMinuteOf
  split
  · split <;> rfl
  · rfl

/-- Every command is a run of changes of the queue. -/
theorem exec_queueMoves (i : Instr) (s : State) : ∃ t, exec i s = .next t ∧ s.QueueMoves t := by
  have supplied : ∀ (u : Supply) (v : State), v.QueueMoves (v.withSupply u) := fun u v =>
    .of_settlement (State.withSupply_settlement v u)
  cases i
  case frameDiscarded received | badSyncRun received => exact ⟨_, rfl, receive_queueMoves received s⟩
  case frameGapTimeout received =>
    exact ⟨_, rfl, (receive_queueMoves received s).trans (.ite (.of_settlement rfl))⟩
  case linkSilenceExpiry | quietTimerExpiry =>
    refine ⟨_, rfl, ?_⟩
    split
    · exact .ite (.of_settlement rfl)
    · exact .refl s
  case replySent | noticeSent =>
    refine ⟨_, rfl, ?_⟩
    split
    case h_1 => exact .of_settlement (frameSent_settlement s)
    all_goals exact .refl s
  case notice => exact ⟨_, rfl, .of_settlement (startNotice_settlement s)⟩
  case softRestart => exact ⟨_, rfl, (softStart_queueMoves s).ite⟩
  case hardRestart => exact ⟨_, rfl, (freshStart_queueMoves _ _ s).ite⟩
  case cycleStart => exact ⟨_, rfl, .ite (.of_settlement (startCycle_settlement s))⟩
  case statusReply | exchangeMiss =>
    refine ⟨_, rfl, ?_⟩
    split
    case h_1 => exact (takeExchange_queueMoves _ _ s).trans (.of_settlement (endExchange_settlement _ _))
    all_goals exact .refl s
  case alertSlot =>
    refine ⟨_, rfl, ?_⟩
    split
    case h_1 => exact .of_settlement (takeAlert_settlement _ s)
    all_goals exact .refl s
  case authDeadlineExpiry n =>
    refine ⟨_, rfl, ?_⟩
    split
    · exact .of_queue (authExpired_queue n (s.reach _))
    · exact .refl s
  case probeDeadlineExpiry n =>
    refine ⟨_, rfl, ?_⟩
    split
    · exact attemptFailed_queueMoves n (s.reach _)
    · exact .refl s
  case plugDeadlineExpiry n | endingDeadlineExpiry n =>
    refine ⟨_, rfl, ?_⟩
    split
    · exact closeSession_queueMoves n _ (s.reach _)
    · exact .refl s
  case refusalDisplayExpiry n =>
    refine ⟨_, rfl, ?_⟩
    split
    · exact .ite (.of_settlement rfl)
    · exact .refl s
  case oneSecondTick =>
    refine ⟨_, rfl, ?_⟩
    split
    · exact .refl s
    · exact .of_settlement rfl
  case suspendLimit n => exact ⟨_, rfl, .ite (.of_settlement (enterOccupying_settlement n s))⟩
  case idleMinute n => exact ⟨_, rfl, .ite (.of_settlement (idleMinuteOf_settlement n s))⟩
  case supplyWarning | reset => exact ⟨_, rfl, (stopCause_queueMoves s).trans (supplied _ _)⟩
  case supplyFail =>
    refine ⟨_, rfl, ?_⟩
    split
    · exact .of_settlement rfl
    · exact (haltDevice_queueMoves s).trans (supplied _ _)
  case retentionLoss => exact ⟨_, rfl, .ite (.of_queue rfl)⟩
  case powerOn | haltedStart => exact ⟨_, rfl, (markerStart_queueMoves _ s).ite⟩
  all_goals exact ⟨_, exec_requestFrame rfl s, takeFrame_queueMoves _ _ _ s⟩

theorem step_queueMoves (e : step s = .next t) : s.QueueMoves t := by
  unfold step at e
  split at e
  · obtain rfl := Host.Outcome.next.inj e
    unfold idle
    split <;> exact .of_settlement rfl
  · rename_i c rest _
    obtain ⟨u, hu, moves⟩ := exec_queueMoves c { s with pending := rest }
    obtain rfl := Host.Outcome.next.inj (hu.symm.trans e)
    exact moves

/-- Settles O56: a close joins a lawful record, and a fetch, a confirm and a start leave lawful records lawful. -/
theorem stepsKeepTheQueueSound : Obligations.StepsKeepTheQueueSound :=
  fun _ _ law e => (step_queueMoves e).keeps_queueLaw law

end Sys2Proof.Machine
end

section
/-! SUPPORT. O48: stages 1 to 5 of a round (R75 to R82, R93, R99, R100), each as one function of the record it writes. -/

namespace Sys2Proof.Machine

variable {s : State} {n : Ped}

/-! ## All records written at once -/

/-- The session records, given pedestal by pedestal. Irreducible, so that no comparison of states evaluates the vector. -/
@[irreducible] def recordTable (f : Ped → Session) : Vector Session 16 := Vector.ofFn f

@[simp] theorem recordTable_get (f : Ped → Session) (m : Ped) : (recordTable f).get m = f m := by
  show (recordTable f)[m.val] = f m
  unfold recordTable
  simp

/-- A vector of records is the table of what it holds. -/
theorem recordTable_eq {v : Vector Session 16} {f : Ped → Session} (h : ∀ m, v.get m = f m) : v = recordTable f := by
  ext1 i hi
  exact (h ⟨i, hi⟩).trans (recordTable_get f ⟨i, hi⟩).symm

/-- The state with the record of every pedestal written. -/
def State.withSessions (f : Ped → Session) (s : State) : State := { s with records := recordTable f }

@[simp] theorem State.withSessions_session (f : Ped → Session) (s : State) (m : Ped) :
    (s.withSessions f).session m = f m := recordTable_get f m
@[simp] theorem State.withSessions_entry (f : Ped → Session) (s : State) (m : Ped) :
    (s.withSessions f).entry m = s.entry m := rfl
@[simp] theorem State.withSessions_roundBudget (f : Ped → Session) (s : State) :
    (s.withSessions f).roundBudget = s.roundBudget := rfl
@[simp] theorem State.withSessions_withSessions (f g : Ped → Session) (s : State) :
    (s.withSessions f).withSessions g = s.withSessions g := rfl

theorem State.withSessions_self (s : State) : s.withSessions s.session = s := by
  have held : s.records = recordTable s.session := recordTable_eq fun _ => rfl
  rw [State.withSessions, ← held]

theorem State.setSession_withSessions (f : Ped → Session) (r : Session) (s : State) :
    (s.withSessions f).setSession n r = s.withSessions (Function.update f n r) := by
  have written : (recordTable f).set n r = recordTable (Function.update f n r) := by
    refine recordTable_eq fun m => ?_
    by_cases hm : m = n
    · subst hm; simp [get_set_self]
    · simp [get_set_ne _ hm, Function.update_of_ne hm]
  show { s with records := (recordTable f).set n r } = s.withSessions _
  rw [written]
  rfl

/-- Updates of one record each, at pedestals that differ: every update finds its record as it was at the start. -/
theorem foldl_writes {f : Ped → State → State} {g : Ped → Session}
    (writes : ∀ n c, c n = s.session n → f n (s.withSessions c) = (s.withSessions c).setSession n (g n)) :
    ∀ (l : List Ped) (c : Ped → Session), l.Nodup → (∀ n ∈ l, c n = s.session n) →
      l.foldl (fun u n => f n u) (s.withSessions c) = s.withSessions fun m => if m ∈ l then g m else c m := by
  intro l
  induction l with
  | nil =>
    intro c _ _
    simp
  | cons a l ih =>
    intro c hl hc
    obtain ⟨ha, hl⟩ := List.nodup_cons.1 hl
    have later : ∀ n ∈ l, Function.update c a (g a) n = s.session n := fun n hn => by
      rw [Function.update_of_ne (ne_of_mem_of_not_mem hn ha)]
      exact hc n (List.mem_cons_of_mem _ hn)
    rw [List.foldl_cons, writes a c (hc a List.mem_cons_self), State.setSession_withSessions, ih _ hl later]
    congr 1
    funext m
    by_cases hm : m = a
    · subst hm; simp [ha]
    · simp [hm]

/-- Sixteen updates of one record each write all records at once. -/
theorem forPedestals_writes {f : Ped → State → State} {g : Ped → Session}
    (writes : ∀ n c, c n = s.session n → f n (s.withSessions c) = (s.withSessions c).setSession n (g n)) :
    forPedestals f s = s.withSessions g := by
  have key := foldl_writes writes Ped.all s.session (List.nodup_finRange 16) fun _ _ => rfl
  rw [State.withSessions_self] at key
  simp only [mem_all, if_true] at key
  exact key

/-- As `forPedestals_writes`, where an update reads its own record and pedestal alone. -/
theorem forPedestals_maps {f : Ped → State → State} {g : PedestalEntry → Session → Session}
    (writes : ∀ n u, f n u = u.setSession n (g (u.entry n) (u.session n))) (s : State) :
    forPedestals f s = s.withSessions fun n => g (s.entry n) (s.session n) :=
  forPedestals_writes fun n c hc => by rw [writes, State.withSessions_session, hc, State.withSessions_entry]

/-- A record written as it stands changes nothing. -/
theorem State.setSession_self (s : State) (n : Ped) : s.setSession n (s.session n) = s := by
  show { s with records := s.records.set n (s.session n) } = s
  rw [s.set_session_self]

/-! ## The budget and the cover cap -/

/-- The budget of the rules is that of the model (R90, R91). -/
theorem State.roundBudget_eq (s : State) : s.roundBudget = s.ruleBudget := by
  unfold State.roundBudget State.roundBaseLoad State.ruleBudget
  cases s.alloc.baseLoad with
  | none => dsimp only; omega
  | some b =>
    have fresh : s.timebase - b.takenAt ≤ 1000 * s.settings.staleTime
        ↔ s.timebase ≤ b.takenAt + 1000 * s.settings.staleTime := Nat.sub_le_iff_le_add'
    simp only [fresh]
    omega

/-- Where the hold does not exceed what is committed the allowance is 0, and the cap with it (R78, R80). -/
theorem coverCap_natSub (hold committed price period : Nat) :
    coverCap ((hold : Int) - committed) price period =
      if price = 0 then 65535
      else if hold ≤ committed then 0 else min 65535 ((hold - committed) / price * 18000 / period) := by
  have allowance : ((hold : Int) - committed).toNat = hold - committed := by omega
  unfold coverCap energyAllowance
  rw [allowance]
  by_cases h : hold ≤ committed
  · simp [Nat.sub_eq_zero_of_le h, h, Config.max16]
  · rw [if_neg h]
    rfl

/-- The cover cap of the rules is that of the model (R77 to R81). -/
theorem State.coverSteps_eq {r : Session} {g : Grant} {band price : Nat} (h : s.PricedAt (s.tariffs.get g.tariff) band price) :
    s.coverSteps r g = s.capAtPrice r g price := by
  have hprice : coverPrice s.clock (s.tariffOf g) = price := by
    rw [coverPrice, State.tariffOf, priceNow_eq h]
    rfl
  unfold State.coverSteps
  simp only []
  rw [hprice]
  exact coverCap_natSub _ _ _ _

theorem State.coverFigure_exhausted_iff {g : Grant} (hs : (s.session n).state = .dispensing) (hg : (s.session n).grant = some g) :
    s.coverFigure n = some .exhausted ↔ s.coverSteps (s.session n) g < (s.entry n).floor := by
  unfold State.coverFigure
  simp [hs, hg]

/-! ## What a stage makes of a record -/

/-- The record of an exhausted session in ENDING, and any other as it stands (R82). -/
def State.covered (s : State) (n : Ped) : Session :=
  if s.coverFigure n = some .exhausted then
    (s.session n).ended .coverExhausted (s.timebase + 1000 * s.settings.endingTimeout)
  else s.session n

/-- A record that keeps of its allocation fields the held request alone (R93). -/
def Session.aside (r : Session) : Session := { r with alloc := r.alloc.setAside }

/-- A DISPENSING record on a blocked pedestal is set aside (R93). -/
def Session.asideIfBlocked (e : PedestalEntry) (r : Session) : Session :=
  if r.state = .dispensing ∧ e.blocked then r.aside else r

/-- A YIELDING record has a round less to yield, and is set aside at the last (R99). -/
def Session.countedDown (r : Session) : Session :=
  if r.yielding then
    if r.alloc.yieldLeft ≤ 1 then r.aside
    else { r with alloc := { r.alloc with yieldLeft := r.alloc.yieldLeft - 1, share := 0 } }
  else r

/-- A YIELDING record is set aside when the budget covers every floor (R100). -/
def Session.releasedIf (covers : Prop) [Decidable covers] (r : Session) : Session :=
  if covers ∧ r.yielding then r.aside else r

/-- What stages 3 to 5 make of a record on a pedestal (R93, R99, R100). -/
def Session.prepared (covers : Prop) [Decidable covers] (e : PedestalEntry) (r : Session) : Session :=
  ((r.asideIfBlocked e).countedDown).releasedIf covers

/-- A record set aside is not YIELDING (R93). -/
theorem Session.aside_yielding (r : Session) : r.aside.yielding = false := by
  simp [Session.yielding, Session.aside, Alloc.setAside]

theorem Session.yielding_of_not_dispensing {r : Session} (h : r.state ≠ .dispensing) : r.yielding = false := by
  simp [Session.yielding, h]

theorem Session.asideIfBlocked_of_not {e : PedestalEntry} {r : Session} (h : ¬(r.state = .dispensing ∧ e.blocked = true)) :
    r.asideIfBlocked e = r := if_neg h

theorem Session.countedDown_of_not_yielding {r : Session} (h : r.yielding = false) : r.countedDown = r := by
  simp [Session.countedDown, h]

section Released

variable (covers : Prop) [Decidable covers] {e : PedestalEntry} {r : Session}

theorem Session.releasedIf_of_not_yielding (h : r.yielding = false) : r.releasedIf covers = r := by
  simp [Session.releasedIf, h]

theorem Session.releasedIf_state (r : Session) : (r.releasedIf covers).state = r.state := by
  unfold Session.releasedIf
  split <;> rfl

/-- Stages 4 and 5 leave a record that is not YIELDING as stage 3 left it. -/
theorem Session.prepared_of_not_yielding (h : (r.asideIfBlocked e).yielding = false) :
    r.prepared covers e = r.asideIfBlocked e := by
  rw [Session.prepared, Session.countedDown_of_not_yielding h, Session.releasedIf_of_not_yielding covers h]

theorem Session.prepared_of_not_dispensing (h : r.state ≠ .dispensing) : r.prepared covers e = r := by
  have same : r.asideIfBlocked e = r := Session.asideIfBlocked_of_not fun hb => h hb.1
  rw [Session.prepared_of_not_yielding covers (by rw [same]; exact Session.yielding_of_not_dispensing h), same]

theorem Session.prepared_of_blocked (h : r.state = .dispensing) (he : e.blocked = true) : r.prepared covers e = r.aside := by
  have aside : r.asideIfBlocked e = r.aside := if_pos ⟨h, he⟩
  rw [Session.prepared_of_not_yielding covers (by rw [aside]; exact r.aside_yielding), aside]

theorem Session.prepared_of_unblocked (he : e.blocked = false) :
    r.prepared covers e = (r.countedDown).releasedIf covers := by
  rw [Session.prepared, Session.asideIfBlocked_of_not fun hb => by simp [he] at hb]

/-- A yielder that the countdown leaves YIELDING keeps its request when it is released (R99, R100). -/
theorem Session.releasedIf_countedDown (hy : r.yielding = true) :
    (r.countedDown).releasedIf covers = if r.alloc.yieldLeft ≤ 1 ∨ covers then r.aside
      else { r with alloc := { r.alloc with yieldLeft := r.alloc.yieldLeft - 1, share := 0 } } := by
  rw [Session.countedDown, if_pos hy]
  by_cases hleft : r.alloc.yieldLeft ≤ 1
  · rw [if_pos hleft, if_pos (.inl hleft), Session.releasedIf_of_not_yielding covers r.aside_yielding]
  · obtain ⟨hs, hgrant⟩ := (Session.yielding_iff r).1 hy
    simp [hleft, Session.releasedIf, Session.yielding, hs, hgrant, Session.aside, Alloc.setAside]

end Released

/-! ## The stages -/

/-- Stage 1: an exhausted record leaves DISPENSING, so that no pace or quiet timer moves (R82, R151). -/
theorem coverStages_eq (s : State) : forPedestals (fun n => coverStage (s.coverFigure n) n) s = s.withSessions s.covered := by
  refine forPedestals_writes fun n c hc => ?_
  unfold coverStage State.covered
  split
  · rename_i hx
    have hfree : ((s.withSessions c).session n).state ≠ .free := by
      rw [State.withSessions_session, hc, State.coverFigure_some hx]
      decide
    rw [enterEnding_eq_put, putSession_plain _ _ _ hfree (by simp [Session.ended]), State.withSessions_session, hc]
    rfl
  · rw [← hc, ← State.withSessions_session c s n, State.setSession_self]

theorem blockedStage_eq (n : Ped) (s : State) :
    blockedStage n s = s.setSession n ((s.session n).asideIfBlocked (s.entry n)) := by
  unfold blockedStage Session.asideIfBlocked
  split
  · rfl
  · exact (s.setSession_self n).symm

theorem countdownStage_eq (n : Ped) (s : State) : countdownStage n s = s.setSession n (s.session n).countedDown := by
  unfold countdownStage Session.countedDown
  simp only []
  split
  · split <;> rfl
  · exact (s.setSession_self n).symm

theorem releaseYielder_eq (n : Ped) (s : State) :
    releaseYielder n s = s.setSession n ((s.session n).releasedIf True) := by
  unfold releaseYielder Session.releasedIf
  simp only [true_and]
  split
  · rfl
  · exact (s.setSession_self n).symm

theorem releaseStage_withSessions (budget : Nat) (c : Ped → Session) (s : State) :
    releaseStage budget (s.withSessions c)
      = s.withSessions fun n => (c n).releasedIf ((s.withSessions c).floorSum ≤ budget) := by
  unfold releaseStage
  split
  · rename_i hcovers
    rw [forPedestals_maps (g := fun _ r => r.releasedIf True) releaseYielder_eq]
    simp only [State.withSessions_withSessions, State.withSessions_session, Session.releasedIf, hcovers]
  · rename_i hcovers
    simp only [Session.releasedIf, hcovers, false_and, if_false]

/-- The floors of the DISPENSING records depend on states and pedestals alone (R100). -/
theorem State.floorSum_congr {t u : State} (hstate : ∀ n, (t.session n).state = (u.session n).state)
    (hentry : ∀ n, t.entry n = u.entry n) : t.floorSum = u.floorSum := by
  have drawing : ∀ n, t.drawing n = u.drawing n := fun n => by rw [State.drawing, State.drawing, hstate, hentry]
  unfold State.floorSum
  congr 2
  funext n
  rw [drawing, hentry]

theorem State.floorSum_eq (s : State) : s.floorSum = (Ped.all.map fun m =>
    if (s.session m).state = .dispensing ∧ (s.entry m).blocked = false then (s.entry m).floor else 0).sum := by
  simp only [State.floorSum, State.drawing, Bool.and_eq_true, beq_iff_eq, Bool.not_eq_true']

/-- The record that stages 1, 3 and 4 leave. -/
def State.counted (s : State) (n : Ped) : Session := ((s.covered n).asideIfBlocked (s.entry n)).countedDown

theorem stagesBeforeRelease_eq (s : State) :
    forPedestals countdownStage (forPedestals blockedStage (forPedestals (fun n => coverStage (s.coverFigure n) n) s))
      = s.withSessions s.counted := by
  rw [coverStages_eq, forPedestals_maps blockedStage_eq, forPedestals_maps (g := fun _ r => r.countedDown) countdownStage_eq]
  simp only [State.withSessions_withSessions, State.withSessions_session, State.withSessions_entry]
  rfl

/-- Stages 1 to 5 write every record by itself, given whether the budget covers the floors (R75 to R82, R93, R99, R100). -/
theorem prepareRound_eq (s : State) :
    prepareRound s = s.withSessions fun n =>
      (s.covered n).prepared ((s.withSessions s.counted).floorSum ≤ s.ruleBudget) (s.entry n) := by
  unfold prepareRound
  simp only []
  rw [stagesBeforeRelease_eq, releaseStage_withSessions, State.withSessions_roundBudget, State.roundBudget_eq]
  rfl

@[simp] theorem prepareRound_entry (s : State) (n : Ped) : (prepareRound s).entry n = s.entry n := by
  rw [prepareRound_eq, State.withSessions_entry]

/-- Stages 1 to 5 change nothing but the records. -/
theorem prepareRound_frame (s : State) : prepareRound s = { s with records := (prepareRound s).records } := by
  rw [prepareRound_eq]
  rfl

/-- The release takes no record out of DISPENSING, so that it leaves the floors as it found them. -/
theorem prepareRound_floorSum (s : State) : (prepareRound s).floorSum = (s.withSessions s.counted).floorSum := by
  refine State.floorSum_congr (fun n => ?_) fun n => prepareRound_entry s n
  rw [prepareRound_eq, State.withSessions_session, State.withSessions_session]
  exact Session.releasedIf_state _ _

/-- Settles O48: every stage writes each record as a function of the record and its pedestal, and the figures of the model's
Cover Guard and budget are those of the rules. -/
theorem coverAndYieldingPrepareTheRound : Obligations.CoverAndYieldingPrepareTheRound := by
  intro s p floors
  have hfloors : floors = (s.withSessions s.counted).floorSum := by
    rw [← prepareRound_floorSum, State.floorSum_eq]
    simp only [floors, p, prepareRound_entry]
  have session : ∀ n, p.session n = (s.covered n).prepared (floors ≤ s.ruleBudget) (s.entry n) := by
    intro n
    rw [hfloors]
    exact (congrArg (·.session n) (prepareRound_eq s)).trans (State.withSessions_session _ _ _)
  refine ⟨prepareRound_frame s, fun n => ⟨fun hs => ?_, fun g band price hs hg hprice => ?_⟩⟩
  · have hcovered : s.covered n = s.session n := if_neg fun hx => hs (State.coverFigure_some hx)
    rw [session, hcovered, Session.prepared_of_not_dispensing _ hs]
  have exhausted := State.coverFigure_exhausted_iff hs hg
  rw [State.coverSteps_eq hprice] at exhausted
  have covered (h : (s.entry n).floor ≤ s.capAtPrice (s.session n) g price) : s.covered n = s.session n :=
    if_neg fun hx => Nat.not_lt.2 h (exhausted.1 hx)
  refine ⟨fun hcap => ?_, fun hcap hb => ?_, fun hcap hb => ⟨fun hy => ?_, fun hy hr => ?_, fun hy hleft hbudget => ?_⟩⟩
  · have hended : s.covered n = (s.session n).ended .coverExhausted (s.timebase + 1000 * s.settings.endingTimeout) :=
      if_pos (exhausted.2 hcap)
    rw [session, hended, Session.prepared_of_not_dispensing _ (by simp [Session.ended])]
  · rw [session, covered hcap, Session.prepared_of_blocked _ hs hb]
    rfl
  all_goals rw [session, covered hcap, Session.prepared_of_unblocked _ hb]
  · have hnot : (s.session n).yielding = false :=
      (Bool.not_eq_true _).mp fun hyield => hy ((Session.yielding_iff _).1 hyield).2
    rw [Session.countedDown_of_not_yielding hnot, Session.releasedIf_of_not_yielding _ hnot]
  · rw [Session.releasedIf_countedDown _ ((Session.yielding_iff _).2 ⟨hs, hy⟩), if_pos hr]
    rfl
  · rw [Session.releasedIf_countedDown _ ((Session.yielding_iff _).2 ⟨hs, hy⟩), if_neg (by omega)]

end Sys2Proof.Machine
end

section
/-! SUPPORT. Stages 7 and 8 of a round as lists: the floor pass and the fill pass, what each gives and that it never gives more than
there is (R101 to R104). -/

namespace Sys2Proof.Machine

/-! ## The floor pass (R101) -/

/-- The floors of some candidates together. -/
def floorsOf (cs : List Candidate) : Nat := (cs.map (·.floor)).sum

theorem floorPass_sublist (cs : List Candidate) : ∀ left, (floorPass left cs).1.Sublist cs := by
  induction cs with
  | nil => exact fun _ => .slnil
  | cons c cs ih =>
    intro left
    unfold floorPass
    split
    · exact (ih _).cons_cons c
    · exact (ih _).cons c

/-- Every candidate is POWERED or PARKED. -/
theorem floorPass_length (cs : List Candidate) : ∀ left,
    (floorPass left cs).1.length + (floorPass left cs).2.1.length = cs.length := by
  induction cs with
  | nil => exact fun _ => rfl
  | cons c cs ih =>
    intro left
    unfold floorPass
    split
    · have := ih (left - c.floor)
      simp only [List.length_cons]
      omega
    · have := ih left
      simp only [List.length_cons]
      omega

/-- The floors of the POWERED candidates and what remains make up the budget. -/
theorem floorPass_floors (cs : List Candidate) : ∀ left,
    floorsOf (floorPass left cs).1 + (floorPass left cs).2.2 = left := by
  induction cs with
  | nil => exact fun _ => Nat.zero_add _
  | cons c cs ih =>
    intro left
    unfold floorPass
    split
    · have := ih (left - c.floor)
      simp only [floorsOf, List.map_cons, List.sum_cons] at this ⊢
      omega
    · exact ih left

theorem floorPass_left (left : Nat) (cs : List Candidate) :
    (floorPass left cs).2.2 = left - floorsOf (floorPass left cs).1 := by
  have := floorPass_floors cs left
  omega

/-- The pass over candidates and more candidates goes on with what the first ones leave. -/
theorem floorPass_append (xs ys : List Candidate) : ∀ left, floorPass left (xs ++ ys) =
    ((floorPass left xs).1 ++ (floorPass (floorPass left xs).2.2 ys).1,
      (floorPass left xs).2.1 ++ (floorPass (floorPass left xs).2.2 ys).2.1, (floorPass (floorPass left xs).2.2 ys).2.2) := by
  induction xs with
  | nil => exact fun _ => rfl
  | cons c xs ih =>
    intro left
    simp only [List.cons_append, floorPass]
    split
    · rw [ih]; rfl
    · rw [ih]; rfl

/-- Of candidates that differ, those not POWERED are PARKED, in their order. -/
theorem floorPass_parked {cs : List Candidate} (h : cs.Nodup) : ∀ left,
    (floorPass left cs).2.1 = cs.filter fun c => decide (c ∉ (floorPass left cs).1) := by
  induction cs with
  | nil => exact fun _ => rfl
  | cons c cs ih =>
    intro left
    obtain ⟨hc, hcs⟩ := List.nodup_cons.1 h
    unfold floorPass
    split
    · have others : ∀ d ∈ cs, d ≠ c := fun d hd e => hc (e ▸ hd)
      simp only [List.filter_cons, List.mem_cons, true_or, not_true_eq_false, decide_false, Bool.false_eq_true, if_false]
      rw [ih hcs]
      refine List.filter_congr fun d hd => ?_
      simp [others d hd]
    · have hnot : c ∉ (floorPass left cs).1 := fun hm => hc ((floorPass_sublist cs left).subset hm)
      simp only [List.filter_cons, hnot, not_false_eq_true, decide_true, if_true]
      rw [← ih hcs]

/-- A sublist of a list without repetitions is what the list holds of it. -/
theorem filter_mem_of_sublist {α : Type} [DecidableEq α] {xs ys : List α} (h : xs.Sublist ys) (hy : ys.Nodup) :
    ys.filter (fun y => decide (y ∈ xs)) = xs := by
  refine (List.Nodup.perm_iff_eq_of_sublist hy List.filter_sublist h).1 ?_
  rw [List.perm_ext_iff_of_nodup (hy.filter _) (hy.sublist h)]
  intro a
  simp only [List.mem_filter, decide_eq_true_eq, and_iff_right_iff_imp]
  exact fun ha => h.subset ha

/-- A candidate is POWERED exactly when its floor fits with those of the POWERED ones before it (R101). -/
theorem mem_floorPass_iff {left : Nat} {before after : List Candidate} {c : Candidate} (h : (before ++ c :: after).Nodup) :
    let powered := (floorPass left (before ++ c :: after)).1
    c ∈ powered ↔ c.floor + floorsOf (before.filter fun d => decide (d ∈ powered)) ≤ left := by
  intro powered
  obtain ⟨hbefore, hrest, apart⟩ := List.nodup_append.1 h
  obtain ⟨hc, _⟩ := List.nodup_cons.1 hrest
  have split : powered = (floorPass left before).1 ++ (floorPass (floorPass left before).2.2 (c :: after)).1 := by
    show (floorPass left (before ++ c :: after)).1 = _
    rw [floorPass_append]
  have first : (before.filter fun d => decide (d ∈ powered)) = (floorPass left before).1 := by
    rw [← filter_mem_of_sublist (floorPass_sublist before left) hbefore]
    refine List.filter_congr fun d hd => ?_
    have later : d ∉ (floorPass (floorPass left before).2.2 (c :: after)).1 := fun hm =>
      apart d hd d ((floorPass_sublist _ _).subset hm) rfl
    simp [split, later]
  have own : c ∈ powered ↔ c.floor ≤ (floorPass left before).2.2 := by
    have notBefore : c ∉ (floorPass left before).1 := fun hm =>
      apart c ((floorPass_sublist _ _).subset hm) c List.mem_cons_self rfl
    rw [split, List.mem_append, or_iff_right notBefore, floorPass]
    split
    · rename_i hfits
      simp [hfits]
    · rename_i hfits
      exact iff_of_false (fun hm => hc ((floorPass_sublist _ _).subset hm)) hfits
  have floors := floorPass_floors before left
  rw [own, first]
  omega

/-! ## The fill pass (R102, R103) -/

/-- What a candidate adds to the use of the leftover: a step if its headroom lies above the level. -/
def Candidate.above (level : Nat) (c : Candidate) : Bool := decide (level < c.headroom)

/-- The share at a level of a candidate that comes after others, with one of the leftover steps if they leave one (R103). -/
def shareAtLevel (level leftover : Nat) (before : List Candidate) (c : Candidate) : Nat :=
  c.floor + min c.headroom level + if level < c.headroom ∧ before.countP (Candidate.above level) < leftover then 1 else 0

/-- The fill to a level, one candidate after the other: the leftover shrinks by a step for each headroom above the level. -/
theorem sharesAtLevel_cons (level leftover : Nat) (c : Candidate) (cs : List Candidate) :
    sharesAtLevel level leftover (c :: cs) = (c.pedestal, c.floor + min c.headroom level
        + if level < c.headroom ∧ 0 < leftover then 1 else 0)
      :: sharesAtLevel level (leftover - if c.above level then 1 else 0) cs := by
  rw [sharesAtLevel]
  by_cases h : level < c.headroom
  · by_cases hk : 0 < leftover
    · simp [h, hk, Candidate.above, Nat.min_eq_right h.le]
    · have : leftover = 0 := by omega
      simp [this]
  · simp [h, Candidate.above]

/-- The candidates that stand before `c` in a list. -/
def candidatesBefore (cs : List Candidate) (c : Candidate) : List Candidate := cs.takeWhile fun d => decide (d ≠ c)

theorem candidatesBefore_append {before after : List Candidate} {c : Candidate} (h : (before ++ c :: after).Nodup) :
    candidatesBefore (before ++ c :: after) c = before := by
  have apart := (List.nodup_append.1 h).2.2
  rw [candidatesBefore, List.takeWhile_append_of_pos fun d hd => by simpa using apart d hd c List.mem_cons_self]
  simp

theorem sharesAtLevel_eq_map (level leftover : Nat) (cs : List Candidate) : ∀ before : List Candidate, (before ++ cs).Nodup →
    sharesAtLevel level (leftover - before.countP (Candidate.above level)) cs =
      cs.map fun c => (c.pedestal, shareAtLevel level leftover (candidatesBefore (before ++ cs) c) c) := by
  induction cs with
  | nil => exact fun _ _ => rfl
  | cons c cs ih =>
    intro before h
    have rest := ih (before ++ [c]) (by rwa [← List.append_cons])
    have left : leftover - (before ++ [c]).countP (Candidate.above level)
        = leftover - before.countP (Candidate.above level) - if c.above level then 1 else 0 := by
      rw [List.countP_append, List.countP_singleton, Nat.sub_add_eq]
    rw [left, ← List.append_cons] at rest
    rw [sharesAtLevel_cons, rest, List.map_cons, shareAtLevel, candidatesBefore_append h]
    simp only [Nat.sub_pos_iff_lt]

/-- The share of a POWERED candidate (R102, R103). -/
def fairShare (left : Nat) (powered : List Candidate) (c : Candidate) : Nat :=
  if (powered.map Candidate.headroom).sum ≤ left then c.demand
  else
    let level := fillLevel left powered
    shareAtLevel level (left - levelUse level powered) (candidatesBefore powered c) c

theorem fairShare_of_fits {left : Nat} {powered : List Candidate} (h : (powered.map Candidate.headroom).sum ≤ left) (c : Candidate) :
    fairShare left powered c = c.demand := if_pos h

/-- Where the headrooms do not fit whole, the share of a candidate by those before it (R102, R103). -/
theorem fairShare_of_short {left : Nat} {powered before after : List Candidate} {c : Candidate}
    (h : left < (powered.map Candidate.headroom).sum) (hc : powered = before ++ c :: after) (hn : powered.Nodup) :
    fairShare left powered c =
      shareAtLevel (fillLevel left powered) (left - levelUse (fillLevel left powered) powered) before c := by
  have own : candidatesBefore powered c = before := by
    subst hc
    exact candidatesBefore_append hn
  rw [fairShare, if_neg (Nat.not_le.2 h)]
  simp only [own]

theorem fillPass_eq_map {powered : List Candidate} (h : powered.Nodup) (left : Nat) :
    fillPass left powered = powered.map fun c => (c.pedestal, fairShare left powered c) := by
  unfold fillPass fairShare
  split
  · rfl
  · exact sharesAtLevel_eq_map _ _ powered [] h

theorem levelUse_cons (level : Nat) (c : Candidate) (cs : List Candidate) :
    levelUse level (c :: cs) = min c.headroom level + levelUse level cs := by
  simp [levelUse]

/-- A level at or above every headroom uses them whole. -/
theorem levelUse_of_headroom_le {level : Nat} {powered : List Candidate} (h : ∀ c ∈ powered, c.headroom ≤ level) :
    levelUse level powered = (powered.map Candidate.headroom).sum := by
  unfold levelUse
  rw [List.map_congr_left fun c hc => Nat.min_eq_left (h c hc)]

theorem levelUse_zero (powered : List Candidate) : levelUse 0 powered = 0 := by
  simp [levelUse]

/-- The fill level uses no more than there is (R102). -/
theorem levelUse_fillLevel (left : Nat) (powered : List Candidate) : levelUse (fillLevel left powered) powered ≤ left := by
  have := Nat.findGreatest_spec (P := fun l => levelUse l powered ≤ left) (Nat.zero_le left)
    (by rw [levelUse_zero]; exact Nat.zero_le left)
  exact this

/-- One level higher uses more than there is, where the headrooms do not fit whole (R102). -/
theorem lt_levelUse_fillLevel_succ {left : Nat} {powered : List Candidate} (h : left < (powered.map Candidate.headroom).sum) :
    left < levelUse (fillLevel left powered + 1) powered := by
  have bound : fillLevel left powered ≤ left := Nat.findGreatest_le left
  rcases Nat.lt_or_ge (fillLevel left powered) left with hlt | hge
  · exact Nat.lt_of_not_le (Nat.findGreatest_is_greatest (P := fun l => levelUse l powered ≤ left) (Nat.lt_succ_self _) hlt)
  · have top : fillLevel left powered = left := by omega
    rw [top]
    by_cases hall : ∀ c ∈ powered, c.headroom ≤ left + 1
    · rwa [levelUse_of_headroom_le hall]
    · push Not at hall
      obtain ⟨c, hc, habove⟩ := hall
      have single : min c.headroom (left + 1) ≤ levelUse (left + 1) powered :=
        List.single_le_sum (fun _ _ => Nat.zero_le _) _ (List.mem_map_of_mem hc)
      omega

/-! ## What the fill pass gives (R104, R108) -/

theorem sharesAtLevel_sum_le (level : Nat) (cs : List Candidate) : ∀ leftover,
    ((sharesAtLevel level leftover cs).map Prod.snd).sum ≤ floorsOf cs + levelUse level cs + leftover := by
  induction cs with
  | nil => exact fun _ => Nat.zero_le _
  | cons c cs ih =>
    intro leftover
    have rest := ih (leftover - if c.above level then 1 else 0)
    rw [sharesAtLevel_cons, levelUse_cons]
    simp only [floorsOf, List.map_cons, List.sum_cons, Candidate.above, decide_eq_true_eq] at rest ⊢
    split at rest <;> split <;> omega

/-- The shares never add up to more than the floors and what remains (R104). -/
theorem fillPass_sum_le {powered : List Candidate} (h : ∀ c ∈ powered, c.floor ≤ c.demand) (left : Nat) :
    ((fillPass left powered).map Prod.snd).sum ≤ floorsOf powered + left := by
  unfold fillPass
  split
  · rename_i hfits
    have demands : (powered.map (·.demand)).sum = floorsOf powered + (powered.map Candidate.headroom).sum := by
      rw [floorsOf, ← List.sum_map_add]
      refine congrArg List.sum (List.map_congr_left fun c hc => ?_)
      have := h c hc
      simp only [Candidate.headroom]
      omega
    rw [List.map_map]
    show (powered.map (·.demand)).sum ≤ _
    omega
  · have shares := sharesAtLevel_sum_le (fillLevel left powered) powered (left - levelUse (fillLevel left powered) powered)
    have use := levelUse_fillLevel left powered
    simp only [] at shares ⊢
    omega

/-- A share lies between floor and demand of its candidate (R108). -/
theorem fairShare_bounds {c : Candidate} (h : c.floor ≤ c.demand) (left : Nat) (powered : List Candidate) :
    c.floor ≤ fairShare left powered c ∧ fairShare left powered c ≤ c.demand := by
  unfold fairShare
  split
  · exact ⟨h, le_rfl⟩
  · generalize fillLevel left powered = level
    unfold shareAtLevel Candidate.headroom
    dsimp only
    by_cases hstep : level < c.demand - c.floor
        ∧ (candidatesBefore powered c).countP (Candidate.above level) < left - levelUse level powered
    · rw [if_pos hstep]
      omega
    · rw [if_neg hstep]
      omega

end Sys2Proof.Machine
end

section
/-! SUPPORT. Stages 6 to 10 of a round: the candidates and their order (R93 to R98), what the division of the budget writes into each
record, and what it leaves alone (R101, R105, R106, R109). -/

namespace Sys2Proof.Machine

variable {s : State} {n : Ped} {figure : Ped → Option CoverFigure}

/-! ## Candidates (R93 to R98) -/

/-- When a record is a candidate, and which one (R93 to R97). -/
theorem State.candidate_eq_some_iff {f : Option CoverFigure} {c : Candidate} : s.candidate f n = some c ↔
    ∃ g cover, (s.session n).grant = some g ∧ f = some (.steps cover) ∧ s.drawing n = true
      ∧ (s.session n).alloc.grantState ≠ .yielding
      ∧ c = ⟨n, (s.entry n).floor, demandOf (s.session n) (s.entry n) g cover,
          effectiveRank g.baseRank.val (s.session n).alloc.waitRounds s.settings.agingRounds⟩ := by
  unfold State.candidate
  simp only []
  split
  · rename_i g cover hg
    split
    · rename_i hd
      rw [Bool.and_eq_true, bne_iff_ne] at hd
      rw [Option.some.injEq]
      constructor
      · exact fun h => ⟨g, cover, hg, rfl, hd.1, hd.2, h.symm⟩
      · rintro ⟨g', cover', hg', hf, _, _, h⟩
        cases hg.symm.trans hg'
        cases hf
        exact h.symm
    · rename_i hd
      rw [Bool.and_eq_true, bne_iff_ne] at hd
      exact iff_of_false (by simp) fun ⟨_, _, _, _, hdraw, hyield, _⟩ => hd ⟨hdraw, hyield⟩
  · rename_i hnone
    refine iff_of_false (by simp) ?_
    rintro ⟨g, cover, hg, hf, _⟩
    exact hnone g cover hg hf

theorem State.candidate_pedestal {f : Option CoverFigure} {c : Candidate} (h : s.candidate f n = some c) : c.pedestal = n := by
  obtain ⟨_, _, _, _, _, _, rfl⟩ := State.candidate_eq_some_iff.1 h
  rfl

theorem State.mem_candidates_iff {c : Candidate} :
    c ∈ s.candidates figure ↔ s.candidate (figure c.pedestal) c.pedestal = some c := by
  unfold State.candidates
  rw [List.mem_insertionSort, List.mem_filterMap]
  constructor
  · rintro ⟨n, _, hc⟩
    rwa [State.candidate_pedestal hc]
  · exact fun hc => ⟨c.pedestal, mem_all _, hc⟩

/-- No two candidates of a round stand at one pedestal. -/
theorem State.candidates_pedestal_nodup (s : State) (figure : Ped → Option CoverFigure) :
    ((s.candidates figure).map (·.pedestal)).Nodup := by
  have unsorted : ((Ped.all.filterMap fun n => s.candidate (figure n) n).map (·.pedestal)).Nodup := by
    rw [List.map_filterMap]
    refine (List.nodup_finRange 16).filterMap fun m k p hm hk => ?_
    obtain ⟨c, hc, rfl⟩ := Option.map_eq_some_iff.1 hm
    obtain ⟨d, hd, e⟩ := Option.map_eq_some_iff.1 hk
    exact (State.candidate_pedestal hc).symm.trans (e.symm.trans (State.candidate_pedestal hd))
  exact ((List.perm_insertionSort _ _).map _).nodup_iff.2 unsorted

theorem State.candidates_nodup (s : State) (figure : Ped → Option CoverFigure) : (s.candidates figure).Nodup :=
  .of_map _ (s.candidates_pedestal_nodup figure)

/-- The candidates stand in strict candidate order (R98). -/
theorem State.candidates_ordered (s : State) (figure : Ped → Option CoverFigure) :
    (s.candidates figure).Pairwise fun a c => a.rank < c.rank ∨ (a.rank = c.rank ∧ a.pedestal < c.pedestal) := by
  have total : ∀ a c : Candidate, Candidate.le a c ∨ Candidate.le c a := by
    intro a c
    rcases Nat.lt_trichotomy a.rank c.rank with h | h | h
    · exact .inl (.inl h)
    · exact (le_total a.pedestal c.pedestal).imp (fun hp => .inr ⟨h, hp⟩) fun hp => .inr ⟨h.symm, hp⟩
    · exact .inr (.inl h)
  have trans : ∀ a c d : Candidate, Candidate.le a c → Candidate.le c d → Candidate.le a d := by
    rintro a c d (h | ⟨h, hp⟩) (h' | ⟨h', hp'⟩)
    · exact .inl (h.trans h')
    · exact .inl (h'.symm ▸ h)
    · exact .inl (h ▸ h')
    · exact .inr ⟨h.trans h', hp.trans hp'⟩
  have sorted : (s.candidates figure).Pairwise Candidate.le :=
    have : Std.Total Candidate.le := ⟨total⟩
    have : IsTrans Candidate Candidate.le := ⟨trans⟩
    List.pairwise_insertionSort _ _
  have apart : (s.candidates figure).Pairwise fun a c => a.pedestal ≠ c.pedestal :=
    List.pairwise_map.1 (s.candidates_pedestal_nodup figure)
  refine (sorted.and apart).imp fun {a c} h => ?_
  obtain ⟨hle, hne⟩ := h
  exact hle.imp id fun ⟨hrank, hped⟩ => ⟨hrank, lt_of_le_of_ne hped hne⟩

/-! ## Allocation fields of one record after the other -/

section Fold

variable {α : Type} (key : α → Ped) (write : α → State → Alloc)

/-- Allocation fields written into some records touch the records alone. -/
theorem foldl_setAlloc_frame (l : List α) (s : State) :
    l.foldl (fun u x => u.setAlloc (key x) (write x u)) s
      = { s with records := (l.foldl (fun u x => u.setAlloc (key x) (write x u)) s).records } := by
  induction l generalizing s with
  | nil => rfl
  | cons x l ih =>
    rw [List.foldl_cons, ih]
    rfl

theorem foldl_setAlloc_session_other {l : List α} (h : ∀ x ∈ l, key x ≠ n) (s : State) :
    (l.foldl (fun u x => u.setAlloc (key x) (write x u)) s).session n = s.session n := by
  induction l generalizing s with
  | nil => rfl
  | cons x l ih =>
    rw [List.foldl_cons, ih (fun y hy => h y (List.mem_cons_of_mem _ hy))]
    exact State.session_setSession_ne s (h x List.mem_cons_self).symm _

/-- Where every write looks at its own record and the settings alone, each record is written from what it held at the start. -/
theorem foldl_setAlloc_session_mem {l : List α} (own : ∀ x u v, State.session u (key x) = State.session v (key x) →
      u.settings = v.settings → write x u = write x v)
    (h : (l.map key).Nodup) {x : α} (hx : x ∈ l) (s : State) :
    (l.foldl (fun u y => u.setAlloc (key y) (write y u)) s).session (key x)
      = { s.session (key x) with alloc := write x s } := by
  induction l generalizing s with
  | nil => cases hx
  | cons y l ih =>
    obtain ⟨hy, hl⟩ := List.nodup_cons.1 h
    rw [List.foldl_cons]
    rcases List.mem_cons.1 hx with rfl | hx
    · rw [foldl_setAlloc_session_other key write fun z hz e => hy (List.mem_map.2 ⟨z, hz, e⟩)]
      exact State.session_setSession_self s _ _
    · have apart : key x ≠ key y := fun e => hy (List.mem_map.2 ⟨x, hx, e⟩)
      have same : (s.setAlloc (key y) (write y s)).session (key x) = s.session (key x) :=
        State.session_setSession_ne s apart _
      rw [ih hl hx, same, own x _ s same rfl]

end Fold

/-! ## The division of the budget, record by record -/

/-- The candidates that a division of the budget makes POWERED, before it makes some of them yield. -/
def State.poweredCandidates (s : State) (figure : Ped → Option CoverFigure) : List Candidate :=
  (floorPass s.roundBudget (s.candidates figure)).1

def State.parkedCandidates (s : State) (figure : Ped → Option CoverFigure) : List Candidate :=
  (floorPass s.roundBudget (s.candidates figure)).2.1

/-- The share of a POWERED candidate in the division of the budget. -/
def State.shareOf (s : State) (figure : Ped → Option CoverFigure) (c : Candidate) : Nat :=
  fairShare (s.roundBudget - floorsOf (s.poweredCandidates figure)) (s.poweredCandidates figure) c

theorem State.poweredCandidates_sublist (s : State) (figure : Ped → Option CoverFigure) :
    (s.poweredCandidates figure).Sublist (s.candidates figure) := floorPass_sublist _ _

theorem State.poweredCandidates_pedestal_nodup (s : State) (figure : Ped → Option CoverFigure) :
    ((s.poweredCandidates figure).map (·.pedestal)).Nodup :=
  (s.candidates_pedestal_nodup figure).sublist ((s.poweredCandidates_sublist figure).map _)

theorem State.parkedCandidates_eq (s : State) (figure : Ped → Option CoverFigure) :
    s.parkedCandidates figure = (s.candidates figure).filter fun c => decide (c ∉ s.poweredCandidates figure) :=
  floorPass_parked (s.candidates_nodup figure) _

theorem State.length_parkedCandidates (s : State) (figure : Ped → Option CoverFigure) :
    (s.parkedCandidates figure).length = (s.candidates figure).length - (s.poweredCandidates figure).length := by
  have := floorPass_length (s.candidates figure) s.roundBudget
  unfold State.parkedCandidates State.poweredCandidates
  omega

/-- The floors of the POWERED candidates fit into the budget (R101). -/
theorem State.floorsOf_poweredCandidates_le (s : State) (figure : Ped → Option CoverFigure) :
    floorsOf (s.poweredCandidates figure) ≤ s.roundBudget := by
  have := floorPass_floors (s.candidates figure) s.roundBudget
  unfold State.poweredCandidates
  omega

/-- Candidates at one pedestal are one candidate. -/
theorem State.eq_of_mem_candidates {c d : Candidate} (hc : c ∈ s.candidates figure) (hd : d ∈ s.candidates figure)
    (h : c.pedestal = d.pedestal) : c = d :=
  List.inj_on_of_nodup_map (s.candidates_pedestal_nodup figure) hc hd h

/-- The division by its parts. -/
theorem divideBudget_eq (figure : Ped → Option CoverFigure) (s : State) : divideBudget figure s =
    reportRound s.roundBudget (s.candidates figure).length (s.parkedCandidates figure).length
      (applyParked (s.parkedCandidates figure) (applyPowered (decide (0 < (s.parkedCandidates figure).length))
        ((s.poweredCandidates figure).map fun c => (c.pedestal, s.shareOf figure c)) s)) := by
  have nodup : (floorPass s.roundBudget (s.candidates figure)).1.Nodup :=
    .of_map _ (s.poweredCandidates_pedestal_nodup figure)
  have any : (!(s.parkedCandidates figure).isEmpty) = decide (0 < (s.parkedCandidates figure).length) := by
    cases s.parkedCandidates figure <;> rfl
  unfold divideBudget State.shareOf
  simp only [fillPass_eq_map nodup, floorPass_left]
  rw [← any]
  rfl

theorem applyPowered_frame (b : Bool) (shares : List (Ped × Nat)) (s : State) :
    applyPowered b shares s = { s with records := (applyPowered b shares s).records } :=
  foldl_setAlloc_frame Prod.fst
    (fun x u => (u.session x.1).alloc.power x.2 b u.settings.yieldOn u.settings.yieldOff) shares s

theorem applyParked_frame (parked : List Candidate) (s : State) :
    applyParked parked s = { s with records := (applyParked parked s).records } :=
  foldl_setAlloc_frame Candidate.pedestal (fun c u => (u.session c.pedestal).alloc.park) parked s

/-- A record that no share is given to stays as it is. -/
theorem applyPowered_session_other {b : Bool} {shares : List (Ped × Nat)} (h : ∀ x ∈ shares, x.1 ≠ n) (s : State) :
    (applyPowered b shares s).session n = s.session n :=
  foldl_setAlloc_session_other Prod.fst
    (fun x u => (u.session x.1).alloc.power x.2 b u.settings.yieldOn u.settings.yieldOff) h s

theorem applyPowered_session_mem {b : Bool} {shares : List (Ped × Nat)} (h : (shares.map Prod.fst).Nodup) {x : Ped × Nat}
    (hx : x ∈ shares) (s : State) : (applyPowered b shares s).session x.1 =
      { s.session x.1 with alloc := (s.session x.1).alloc.power x.2 b s.settings.yieldOn s.settings.yieldOff } :=
  foldl_setAlloc_session_mem Prod.fst
    (fun x u => (u.session x.1).alloc.power x.2 b u.settings.yieldOn u.settings.yieldOff)
    (fun x u v hs ht => by simp only [hs, ht]) h hx s

theorem applyParked_session_other {parked : List Candidate} (h : ∀ c ∈ parked, c.pedestal ≠ n) (s : State) :
    (applyParked parked s).session n = s.session n :=
  foldl_setAlloc_session_other Candidate.pedestal (fun c u => (u.session c.pedestal).alloc.park) h s

theorem applyParked_session_mem {parked : List Candidate} (h : (parked.map (·.pedestal)).Nodup) {c : Candidate} (hc : c ∈ parked)
    (s : State) : (applyParked parked s).session c.pedestal =
      { s.session c.pedestal with alloc := (s.session c.pedestal).alloc.park } :=
  foldl_setAlloc_session_mem Candidate.pedestal (fun c u => (u.session c.pedestal).alloc.park)
    (fun c u v hs _ => by simp only [hs]) h hc s

theorem reportRound_session (budget k p : Nat) (s : State) : (reportRound budget k p s).session n = s.session n := by
  unfold State.session
  rw [reportRound_records]

/-- A candidate that is not POWERED is PARKED (R101, R105). -/
theorem divideBudget_session_parked {c : Candidate} (hc : c ∈ s.candidates figure) (hp : c ∉ s.poweredCandidates figure) :
    (divideBudget figure s).session c.pedestal
      = { s.session c.pedestal with alloc := (s.session c.pedestal).alloc.park } := by
  have parked : c ∈ s.parkedCandidates figure := by
    rw [s.parkedCandidates_eq]
    simp [hc, hp]
  have nodup : ((s.parkedCandidates figure).map (·.pedestal)).Nodup := by
    rw [s.parkedCandidates_eq]
    exact (s.candidates_pedestal_nodup figure).sublist (List.filter_sublist.map _)
  rw [divideBudget_eq, reportRound_session, applyParked_session_mem nodup parked, applyPowered_session_other]
  rintro x hx e
  obtain ⟨d, hd, rfl⟩ := List.mem_map.1 hx
  exact hp (State.eq_of_mem_candidates ((s.poweredCandidates_sublist figure).subset hd) hc e ▸ hd)

/-- A POWERED candidate takes its share, or yields (R101 to R103, R105, R106). -/
theorem divideBudget_session_powered {c : Candidate} (hp : c ∈ s.poweredCandidates figure) :
    (divideBudget figure s).session c.pedestal = { s.session c.pedestal with
      alloc := (s.session c.pedestal).alloc.power (s.shareOf figure c) (decide (0 < (s.parkedCandidates figure).length))
        s.settings.yieldOn s.settings.yieldOff } := by
  have nodup : (((s.poweredCandidates figure).map fun c => (c.pedestal, s.shareOf figure c)).map Prod.fst).Nodup := by
    rw [List.map_map]
    exact s.poweredCandidates_pedestal_nodup figure
  rw [divideBudget_eq, reportRound_session, applyParked_session_other]
  · exact applyPowered_session_mem nodup (List.mem_map_of_mem (f := fun c => (c.pedestal, s.shareOf figure c)) hp) s
  · rintro d hd e
    rw [s.parkedCandidates_eq, List.mem_filter, decide_eq_true_eq] at hd
    exact hd.2 (State.eq_of_mem_candidates hd.1 ((s.poweredCandidates_sublist figure).subset hp) e ▸ hp)

/-- A record that is no candidate stays as it is. -/
theorem divideBudget_session_other (h : ∀ c ∈ s.candidates figure, c.pedestal ≠ n) :
    (divideBudget figure s).session n = s.session n := by
  rw [divideBudget_eq, reportRound_session, applyParked_session_other, applyPowered_session_other]
  · rintro x hx
    obtain ⟨d, hd, rfl⟩ := List.mem_map.1 hx
    exact h d ((s.poweredCandidates_sublist figure).subset hd)
  · rintro d hd
    rw [s.parkedCandidates_eq, List.mem_filter] at hd
    exact h d hd.1

/-- The figures of a division, and BUDGET-SHORT at the first round of a shortage; nothing else but records changes (R87, R109). -/
theorem divideBudget_frame (figure : Ped → Option CoverFigure) (s : State) : divideBudget figure s = { s with
    records := (divideBudget figure s).records
    alloc := { s.alloc with
      shortMark := decide (0 < (s.parkedCandidates figure).length)
      lastBudget := s.roundBudget
      lastCandidates := (s.candidates figure).length
      lastParked := (s.parkedCandidates figure).length }
    conds := if 0 < (s.parkedCandidates figure).length ∧ s.alloc.shortMark = false then s.conds.withPark 2 .none
      else s.conds } := by
  rw [divideBudget_eq, applyParked_frame, applyPowered_frame]
  unfold reportRound
  by_cases h : 0 < (s.parkedCandidates figure).length ∧ s.alloc.shortMark = false
  · simp [h, latchPark, Conditions.withPark, ParkKind.index]
  · have quiet : (decide (0 < (s.parkedCandidates figure).length) && !s.alloc.shortMark) = false := by
      simpa using h
    simp [h, quiet]

end Sys2Proof.Machine
end

section
/-! SUPPORT. O49: the floor pass, the fill, the counters and the figures of a whole round (R87, R92, R101 to R103, R105, R106, R109). -/

namespace Sys2Proof.Machine

variable {s : State} {n : Ped}

/-! ## The state that stages 1 to 5 leave to the division -/

@[simp] theorem prepareRound_roundBudget (s : State) : (prepareRound s).roundBudget = s.ruleBudget :=
  (congrArg State.roundBudget (prepareRound_eq s)).trans s.roundBudget_eq

@[simp] theorem prepareRound_settings (s : State) : (prepareRound s).settings = s.settings :=
  (congrArg State.settings (prepareRound_eq s)).trans rfl

/-- What differs from the state before stages 1 to 5 in records, figures and conditions alone differs from the state after them in
nothing else. -/
theorem prepareRound_rest (s : State) (records : Vector Session 16) (alloc : Allocation) (conds : Conditions) :
    { prepareRound s with records := records, alloc := alloc, conds := conds }
      = { s with records := records, alloc := alloc, conds := conds } := by
  rw [prepareRound_eq]
  rfl

/-- The candidates that a round parks. -/
def State.parkedInRound (s : State) : List Candidate := (prepareRound s).parkedCandidates s.coverFigure

/-- A round changes records, figures and BUDGET-SHORT alone (R87, R109). -/
theorem allocationRound_frame (s : State) : allocationRound s = { s with
    records := (allocationRound s).records
    alloc := { s.alloc with
      shortMark := decide (0 < s.parkedInRound.length)
      lastBudget := s.ruleBudget
      lastCandidates := ((prepareRound s).candidates s.coverFigure).length
      lastParked := s.parkedInRound.length }
    conds := if 0 < s.parkedInRound.length ∧ s.alloc.shortMark = false then s.conds.withPark 2 .none else s.conds } := by
  have alloc : (prepareRound s).alloc = s.alloc := (congrArg State.alloc (prepareRound_eq s)).trans rfl
  have conds : (prepareRound s).conds = s.conds := (congrArg State.conds (prepareRound_eq s)).trans rfl
  have divided := divideBudget_frame s.coverFigure (prepareRound s)
  rw [prepareRound_roundBudget, alloc, conds] at divided
  exact divided.trans (prepareRound_rest s _ _ _)

/-! ## PARKED, POWERED or YIELDING -/

theorem Alloc.park_eq (a : Alloc) : a.park =
    { a with grantState := .parked, share := 0, waitRounds := min 65535 (a.waitRounds + 1), yieldLeft := 0 } := by
  rw [Alloc.park, satAdd, Config.max16]

/-- The served rounds that a POWERED session counts (R105). -/
def Alloc.servedAfter (a : Alloc) (parked : Nat) : Nat := if 0 < parked then min 65535 (a.servedRounds + 1) else 0

theorem Alloc.power_powered {a : Alloc} {parked yieldOn : Nat} (h : a.servedAfter parked < yieldOn) (share yieldOff : Nat) :
    a.power share (decide (0 < parked)) yieldOn yieldOff =
      { a with grantState := .powered, share := share, waitRounds := 0, servedRounds := a.servedAfter parked, yieldLeft := 0 } := by
  unfold Alloc.servedAfter at h ⊢
  simp only [Alloc.power, decide_eq_true_eq]
  exact if_neg (Nat.not_le.2 h)

theorem Alloc.power_yielding {a : Alloc} {parked yieldOn : Nat} (h : yieldOn ≤ a.servedAfter parked) (share yieldOff : Nat) :
    a.power share (decide (0 < parked)) yieldOn yieldOff =
      { a with grantState := .yielding, share := 0, waitRounds := 0, servedRounds := 0, yieldLeft := yieldOff } := by
  unfold Alloc.servedAfter at h
  simp only [Alloc.power, decide_eq_true_eq]
  exact if_pos h

/-- The candidates that a round makes POWERED, before it makes some of them yield. -/
def State.poweredInRound (s : State) : List Candidate := (prepareRound s).poweredCandidates s.coverFigure

theorem State.length_parkedInRound (s : State) :
    s.parkedInRound.length = ((prepareRound s).candidates s.coverFigure).length - s.poweredInRound.length :=
  (prepareRound s).length_parkedCandidates s.coverFigure

/-- The share of a POWERED candidate of a round. -/
def State.shareInRound (s : State) (c : Candidate) : Nat :=
  fairShare (s.ruleBudget - floorsOf s.poweredInRound) s.poweredInRound c

theorem allocationRound_session_powered {c : Candidate} (h : c ∈ s.poweredInRound) : (allocationRound s).session c.pedestal =
    { (prepareRound s).session c.pedestal with
      alloc := ((prepareRound s).session c.pedestal).alloc.power (s.shareInRound c) (decide (0 < s.parkedInRound.length))
        s.settings.yieldOn s.settings.yieldOff } := by
  have divided := divideBudget_session_powered h
  rw [prepareRound_settings, State.shareOf, prepareRound_roundBudget] at divided
  exact divided

theorem allocationRound_session_parked {c : Candidate} (hc : c ∈ (prepareRound s).candidates s.coverFigure)
    (h : c ∉ s.poweredInRound) : (allocationRound s).session c.pedestal =
      { (prepareRound s).session c.pedestal with alloc := ((prepareRound s).session c.pedestal).alloc.park } :=
  divideBudget_session_parked hc h

theorem allocationRound_session_other (h : ∀ c ∈ (prepareRound s).candidates s.coverFigure, c.pedestal ≠ n) :
    (allocationRound s).session n = (prepareRound s).session n :=
  divideBudget_session_other h

/-- Settles O49: the powered list is that of the floor pass, and the shares are those of the fill. -/
theorem roundsFillTheBudgetFairly : Obligations.RoundsFillTheBudgetFairly := by
  intro s p t cs
  have nodup : s.poweredInRound.Nodup := .of_map _ (p.poweredCandidates_pedestal_nodup s.coverFigure)
  refine ⟨s.poweredInRound, s.shareInRound, ⟨p.poweredCandidates_sublist _, fun before c after hcs => ?_⟩,
    fun fits c _ => fairShare_of_fits fits c, fun short => ⟨_, levelUse_fillLevel _ _, lt_levelUse_fillLevel_succ short,
      fun before c after hc => fairShare_of_short short hc nodup⟩,
    fun c hc => ⟨fun hp => ?_, fun hp hserved => ?_, fun hp hserved => ?_⟩,
    fun n h => allocationRound_session_other h, ?_⟩
  · have nodup := p.candidates_nodup s.coverFigure
    have budget : p.roundBudget = s.ruleBudget := prepareRound_roundBudget s
    unfold State.poweredInRound State.poweredCandidates
    rw [show (prepareRound s).candidates s.coverFigure = before ++ c :: after from hcs] at nodup ⊢
    rw [budget]
    exact mem_floorPass_iff nodup
  · exact (allocationRound_session_parked hc hp).trans (by rw [Alloc.park_eq])
  · rw [← s.length_parkedInRound] at hserved ⊢
    exact (allocationRound_session_powered hp).trans (by rw [Alloc.power_powered hserved]; rfl)
  · rw [← s.length_parkedInRound] at hserved
    exact (allocationRound_session_powered hp).trans (by rw [Alloc.power_yielding hserved])
  · rw [← s.length_parkedInRound]
    exact allocationRound_frame s

end Sys2Proof.Machine
end

section
/-! SUPPORT. O47: the demand of a candidate, and what a round leaves of every record: shares from floor to rating, and setpoints within
the budget (R93 to R98, R101 to R104, R106, R108). -/

namespace Sys2Proof.Machine

variable {s : State} {n : Ped}

/-! ## The demand (R94, R95) -/

theorem capTerm_le_other (cap : Option Nat) (floor other : Nat) : capTerm cap floor other ≤ other := by
  cases cap with
  | none => exact le_rfl
  | some c => exact Nat.min_le_right _ _

theorem capTerm_le_cap (c floor other : Nat) : capTerm (some c) floor other ≤ max c floor := Nat.min_le_left _ _

theorem le_capTerm (cap : Option Nat) {floor other : Nat} (h : floor ≤ other) : floor ≤ capTerm cap floor other := by
  cases cap with
  | none => exact h
  | some c => exact Nat.le_min.2 ⟨Nat.le_max_right _ _, h⟩

theorem capTerm_cases (cap : Option Nat) (floor other : Nat) :
    capTerm cap floor other = other ∨ ∃ c, cap = some c ∧ capTerm cap floor other = max c floor := by
  cases cap with
  | none => exact .inl rfl
  | some c => exact (min_choice (max c floor) other).elim (fun h => .inr ⟨c, rfl, h⟩) .inl

section Demand

variable (r : Session) (e : PedestalEntry) (g : Grant) (cover : Nat)

/-- The terms of a demand that bind every candidate: held request, rating and cover cap (R94). -/
def freeDemand : Nat := min (max r.alloc.request e.floor) (min e.rating cover)

theorem demandOf_le_freeDemand : demandOf r e g cover ≤ freeDemand r e cover :=
  (capTerm_le_other _ _ _).trans (capTerm_le_other _ _ _)

theorem demandOf_le_request : demandOf r e g cover ≤ max r.alloc.request e.floor :=
  (demandOf_le_freeDemand r e g cover).trans (Nat.min_le_left _ _)

theorem demandOf_le_rating : demandOf r e g cover ≤ e.rating :=
  (demandOf_le_freeDemand r e g cover).trans ((Nat.min_le_right _ _).trans (Nat.min_le_left _ _))

theorem demandOf_le_cover : demandOf r e g cover ≤ cover :=
  (demandOf_le_freeDemand r e g cover).trans ((Nat.min_le_right _ _).trans (Nat.min_le_right _ _))

theorem demandOf_le_authCap {cap : Nat} (h : g.authCap = some cap) : demandOf r e g cover ≤ max cap e.floor := by
  unfold demandOf
  rw [h]
  exact capTerm_le_cap _ _ _

theorem demandOf_le_hostCap {cap : Nat} (h : r.hostCap = some cap) : demandOf r e g cover ≤ max cap e.floor := by
  unfold demandOf
  rw [h]
  exact (capTerm_le_other _ _ _).trans (capTerm_le_cap _ _ _)

theorem floor_le_demandOf {r : Session} {e : PedestalEntry} {cover : Nat} (hr : e.floor ≤ e.rating) (hc : e.floor ≤ cover) :
    e.floor ≤ demandOf r e g cover :=
  le_capTerm _ (le_capTerm _ (Nat.le_min.2 ⟨Nat.le_max_right _ _, Nat.le_min.2 ⟨hr, hc⟩⟩))

/-- A demand is one of its terms (R94). -/
theorem demandOf_cases : demandOf r e g cover = e.rating ∨ demandOf r e g cover = max r.alloc.request e.floor
    ∨ demandOf r e g cover = cover ∨ (∃ cap, g.authCap = some cap ∧ demandOf r e g cover = max cap e.floor)
    ∨ ∃ cap, r.hostCap = some cap ∧ demandOf r e g cover = max cap e.floor := by
  rcases capTerm_cases g.authCap e.floor (capTerm r.hostCap e.floor (freeDemand r e cover)) with hauth | ⟨cap, hcap, h⟩
  · rcases capTerm_cases r.hostCap e.floor (freeDemand r e cover) with hhost | ⟨cap, hcap, h⟩
    · have least : demandOf r e g cover = freeDemand r e cover := hauth.trans hhost
      rw [least, freeDemand]
      rcases min_choice (max r.alloc.request e.floor) (min e.rating cover) with h | h
      · exact .inr (.inl h)
      · rcases min_choice e.rating cover with h' | h'
        · exact .inl (h.trans h')
        · exact .inr (.inr (.inl (h.trans h')))
    · exact .inr (.inr (.inr (.inr ⟨cap, hcap, hauth.trans h⟩)))
  · exact .inr (.inr (.inr (.inl ⟨cap, hcap, h⟩)))

end Demand

/-- A cover cap figure of some steps is that of a DISPENSING record with a grant, and no less than the floor (R75, R82). -/
theorem State.coverFigure_steps {cover : Nat} (h : s.coverFigure n = some (.steps cover)) :
    (s.session n).state = .dispensing ∧ (s.entry n).floor ≤ cover
      ∧ ∀ g, (s.session n).grant = some g → cover = s.coverSteps (s.session n) g := by
  have hs := State.coverFigure_some h
  unfold State.coverFigure at h
  cases hg : (s.session n).grant with
  | none => simp [hs, hg] at h
  | some g =>
    simp only [hs, hg, Option.some.injEq] at h
    split at h
    · cases h
    · rename_i hcap
      cases h
      exact ⟨hs, Nat.le_of_not_lt hcap, fun g' hg' => by cases hg'; rfl⟩

/-- A DISPENSING record with a grant has a cover cap figure (R75). -/
theorem State.coverFigure_of_grant {g : Grant} (hs : (s.session n).state = .dispensing) (hg : (s.session n).grant = some g) :
    s.coverFigure n = some .exhausted ∨ ∃ cover, s.coverFigure n = some (.steps cover) := by
  unfold State.coverFigure
  simp only [hs, hg, Option.some.injEq]
  split
  · exact .inl rfl
  · exact .inr ⟨_, rfl⟩

/-! ## What stages 1 to 5 leave of a record -/

theorem Session.asideIfBlocked_alloc (e : PedestalEntry) (r : Session) : ∃ a, r.asideIfBlocked e = { r with alloc := a } := by
  unfold Session.asideIfBlocked
  split
  · exact ⟨_, rfl⟩
  · exact ⟨r.alloc, rfl⟩

theorem Session.countedDown_alloc (r : Session) : ∃ a, r.countedDown = { r with alloc := a } := by
  unfold Session.countedDown
  split
  · split <;> exact ⟨_, rfl⟩
  · exact ⟨r.alloc, rfl⟩

theorem Session.releasedIf_alloc (covers : Prop) [Decidable covers] (r : Session) : ∃ a, r.releasedIf covers = { r with alloc := a } := by
  unfold Session.releasedIf
  split
  · exact ⟨_, rfl⟩
  · exact ⟨r.alloc, rfl⟩

/-- Stages 3 to 5 write allocation fields alone. -/
theorem Session.prepared_alloc (covers : Prop) [Decidable covers] (e : PedestalEntry) (r : Session) :
    ∃ a, r.prepared covers e = { r with alloc := a } := by
  obtain ⟨a, ha⟩ := r.asideIfBlocked_alloc e
  obtain ⟨b, hb⟩ := (r.asideIfBlocked e).countedDown_alloc
  obtain ⟨c, hc⟩ := ((r.asideIfBlocked e).countedDown).releasedIf_alloc covers
  exact ⟨c, by rw [Session.prepared, hc, hb, ha]⟩

theorem prepareRound_session (s : State) (n : Ped) : (prepareRound s).session n =
    (s.covered n).prepared ((s.withSessions s.counted).floorSum ≤ s.ruleBudget) (s.entry n) :=
  (congrArg (·.session n) (prepareRound_eq s)).trans (State.withSessions_session _ _ _)

theorem prepareRound_state (s : State) (n : Ped) : ((prepareRound s).session n).state = (s.covered n).state := by
  obtain ⟨a, ha⟩ := (s.covered n).prepared_alloc ((s.withSessions s.counted).floorSum ≤ s.ruleBudget) (s.entry n)
  rw [prepareRound_session, ha]

/-- A record that stage 1 leaves in DISPENSING was in DISPENSING, and not exhausted. -/
theorem State.covered_dispensing (h : (s.covered n).state = .dispensing) :
    s.covered n = s.session n ∧ s.coverFigure n ≠ some .exhausted := by
  unfold State.covered at h ⊢
  by_cases hx : s.coverFigure n = some .exhausted
  · rw [if_pos hx] at h
    cases h
  · exact ⟨if_neg hx, hx⟩

/-- A record in DISPENSING after stages 1 to 5 was so before, and differs from what it was in its allocation fields alone. -/
theorem prepareRound_dispensing (h : ((prepareRound s).session n).state = .dispensing) :
    s.coverFigure n ≠ some .exhausted ∧ ∃ a, (prepareRound s).session n = { s.session n with alloc := a } := by
  rw [prepareRound_state] at h
  obtain ⟨same, hx⟩ := State.covered_dispensing h
  obtain ⟨a, ha⟩ := (s.covered n).prepared_alloc ((s.withSessions s.counted).floorSum ≤ s.ruleBudget) (s.entry n)
  exact ⟨hx, a, by rw [prepareRound_session, ha, same]⟩

/-- A record that stages 1 to 5 leave YIELDING draws nothing (R99). -/
theorem prepareRound_yielding (hs : ((prepareRound s).session n).state = .dispensing) (hb : (s.entry n).blocked = false)
    (hy : ((prepareRound s).session n).alloc.grantState = .yielding) : ((prepareRound s).session n).alloc.share = 0 := by
  have left := prepareRound_session s n
  rw [Session.prepared_of_unblocked _ hb] at left
  cases hwas : (s.covered n).yielding with
  | false =>
    rw [Session.countedDown_of_not_yielding hwas, Session.releasedIf_of_not_yielding _ hwas] at left
    have now : ((prepareRound s).session n).yielding = true := (Session.yielding_iff _).2 ⟨hs, hy⟩
    rw [left, hwas] at now
    cases now
  | true =>
    rw [left, Session.releasedIf_countedDown _ hwas]
    split <;> rfl

/-- A record that stages 1 to 5 leave outside DISPENSING or on a blocked pedestal draws nothing (R93, R107). -/
theorem prepareRound_idle (h : (s.session n).AllocByState)
    (hidle : ((prepareRound s).session n).state ≠ .dispensing ∨ (s.entry n).blocked = true) :
    ((prepareRound s).session n).alloc.share = 0 ∧ ((prepareRound s).session n).alloc.grantState = .none := by
  rw [prepareRound_state] at hidle
  rw [prepareRound_session]
  by_cases hs : (s.covered n).state = .dispensing
  · rw [Session.prepared_of_blocked _ hs (hidle.resolve_left (not_not.2 hs))]
    exact ⟨rfl, rfl⟩
  · have free : (s.covered n).alloc = {} := by
      unfold State.covered at hs ⊢
      split
      · rfl
      · rename_i hx
        rw [if_neg hx] at hs
        exact h.1 hs
    rw [Session.prepared_of_not_dispensing _ hs, free]
    exact ⟨rfl, rfl⟩

end Sys2Proof.Machine
end

section
/-! SUPPORT. O47: the candidates of a round, what it leaves of every record, and that its setpoints stay within the budget (R93 to
R98, R101 to R104, R106, R108). -/

namespace Sys2Proof.Machine

variable {s : State} {n : Ped}

/-! ## The candidates of a round -/

/-- A shaped record in DISPENSING holds a grant (R12). -/
theorem Session.Shaped.grant_of_dispensing {r : Session} (h : r.Shaped) (hs : r.state = .dispensing) : ∃ g, r.grant = some g := by
  obtain ⟨⟨_, _, hgrant, _⟩, _⟩ := h
  rw [hs] at hgrant
  exact Option.isSome_iff_exists.1 hgrant

/-- A pedestal whose record is not FREE is enrolled, with a floor of at most its rating (R147, R148). -/
theorem State.TableLaw.floor_le_rating (h : s.TableLaw) (hs : (s.session n).state ≠ .free) : (s.entry n).floor ≤ (s.entry n).rating := by
  obtain ⟨⟨_, ranges, _⟩, unenrolled⟩ := h.1 n
  have enrolled : (s.entry n).enrolled = true := by
    by_contra hno
    exact hs (unenrolled (by simpa using hno))
  exact (ranges enrolled).2.1

/-- The records that a round takes for candidates (R93). -/
theorem exists_candidate_iff (h : s.RecordsShaped) :
    (∃ c ∈ (prepareRound s).candidates s.coverFigure, c.pedestal = n) ↔
      ((prepareRound s).session n).state = .dispensing ∧ (s.entry n).blocked = false
        ∧ ((prepareRound s).session n).alloc.grantState ≠ .yielding := by
  have drawing : (prepareRound s).drawing n = true ↔
      ((prepareRound s).session n).state = .dispensing ∧ (s.entry n).blocked = false := by
    simp [State.drawing]
  constructor
  · rintro ⟨c, hc, rfl⟩
    obtain ⟨_, _, _, _, hdraw, hyield, _⟩ := State.candidate_eq_some_iff.1 (State.mem_candidates_iff.1 hc)
    exact ⟨(drawing.1 hdraw).1, (drawing.1 hdraw).2, hyield⟩
  · rintro ⟨hs, hb, hyield⟩
    obtain ⟨hx, a, ha⟩ := prepareRound_dispensing hs
    have was : (s.session n).state = .dispensing := by
      rw [ha] at hs
      exact hs
    obtain ⟨g, hg⟩ := (h n).grant_of_dispensing was
    obtain ⟨cover, hcover⟩ := (State.coverFigure_of_grant was hg).resolve_left hx
    have grant : ((prepareRound s).session n).grant = some g := by rw [ha]; exact hg
    obtain ⟨c, hc⟩ : ∃ c, (prepareRound s).candidate (s.coverFigure n) n = some c :=
      ⟨_, State.candidate_eq_some_iff.2 ⟨g, cover, grant, hcover, drawing.2 ⟨hs, hb⟩, hyield, rfl⟩⟩
    have own := State.candidate_pedestal hc
    exact ⟨c, State.mem_candidates_iff.2 (by rw [own]; exact hc), own⟩

/-- What a round reads of a candidate (R93 to R97): its record, its grant and its cover cap. -/
theorem candidate_of_round {c : Candidate} (hc : c ∈ (prepareRound s).candidates s.coverFigure) :
    ∃ g cover, ((prepareRound s).session c.pedestal).grant = some g
      ∧ cover = s.coverSteps ((prepareRound s).session c.pedestal) g
      ∧ (s.entry c.pedestal).floor ≤ cover ∧ (s.session c.pedestal).state = .dispensing
      ∧ c.floor = (s.entry c.pedestal).floor
      ∧ c.demand = demandOf ((prepareRound s).session c.pedestal) (s.entry c.pedestal) g cover
      ∧ c.rank = g.baseRank.val - ((prepareRound s).session c.pedestal).alloc.waitRounds / s.settings.agingRounds := by
  obtain ⟨g, cover, hg, hcover, hdraw, _, hfields⟩ := State.candidate_eq_some_iff.1 (State.mem_candidates_iff.1 hc)
  obtain ⟨hs, hfloor, hsteps⟩ := State.coverFigure_steps hcover
  have now : ((prepareRound s).session c.pedestal).state = .dispensing := by
    simp only [State.drawing, Bool.and_eq_true, beq_iff_eq] at hdraw
    exact hdraw.1
  obtain ⟨_, a, ha⟩ := prepareRound_dispensing now
  have grant : (s.session c.pedestal).grant = some g := by
    rw [ha] at hg
    exact hg
  rw [prepareRound_entry, prepareRound_settings] at hfields
  refine ⟨g, cover, hg, ?_, hfloor, hs, congrArg Candidate.floor hfields, congrArg Candidate.demand hfields,
    congrArg Candidate.rank hfields⟩
  rw [ha]
  exact hsteps g grant

/-- The demand of a candidate lies between the floor and the rating of its pedestal (R94, R108). -/
theorem candidate_bounds (h : s.TableLaw) {c : Candidate} (hc : c ∈ (prepareRound s).candidates s.coverFigure) :
    c.floor ≤ c.demand ∧ c.demand ≤ (s.entry c.pedestal).rating := by
  obtain ⟨g, cover, _, _, hfloor, hs, floor_eq, demand_eq, _⟩ := candidate_of_round hc
  have ratio := h.floor_le_rating (n := c.pedestal) (by simp [hs])
  rw [floor_eq, demand_eq]
  exact ⟨floor_le_demandOf g ratio hfloor, demandOf_le_rating _ _ _ _⟩

/-! ## What a round leaves of a record -/

theorem allocationRound_pedestals (s : State) : (allocationRound s).pedestals = s.pedestals := by
  rw [allocationRound_frame]

@[simp] theorem allocationRound_entry (s : State) (n : Ped) : (allocationRound s).entry n = s.entry n := by
  rw [State.entry, allocationRound_pedestals, State.entry]

theorem allocationRound_lastBudget (s : State) : (allocationRound s).alloc.lastBudget = s.ruleBudget := by
  rw [allocationRound_frame]

/-- A record that a division makes POWERED has its share; one that yields or is parked has none (R101, R105, R106). -/
theorem Alloc.power_cases (a : Alloc) (share : Nat) (someParked : Bool) (yieldOn yieldOff : Nat) :
    (a.power share someParked yieldOn yieldOff).grantState = .powered
        ∧ (a.power share someParked yieldOn yieldOff).share = share
      ∨ (a.power share someParked yieldOn yieldOff).grantState = .yielding
        ∧ (a.power share someParked yieldOn yieldOff).share = 0 := by
  unfold Alloc.power
  generalize (if someParked = true then satAdd Config.max16 a.servedRounds 1 else 0) = served
  dsimp only
  by_cases h : served ≥ yieldOn
  · rw [if_pos h]
    exact .inr ⟨rfl, rfl⟩
  · rw [if_neg h]
    exact .inl ⟨rfl, rfl⟩

/-- What a round leaves of a record: POWERED within its range, without a share among those it divides the budget to, or idle
(R93, R101, R106, R107, R108). -/
theorem allocationRound_record (h : s.RecordsShaped) (ht : s.TableLaw) (n : Ped) :
    let r := (allocationRound s).session n
    let a := r.alloc
    (r.state = .dispensing ∧ (s.entry n).blocked = false ∧ a.grantState = .powered
        ∧ (∃ c ∈ s.poweredInRound, c.pedestal = n ∧ a.share = s.shareInRound c)
        ∧ (s.entry n).floor ≤ a.share ∧ a.share ≤ (s.entry n).rating)
      ∨ ((a.grantState = .parked ∨ a.grantState = .yielding) ∧ a.share = 0)
      ∨ (a.grantState = .none ∧ a.share = 0 ∧ (r.state ≠ .dispensing ∨ (s.entry n).blocked = true)) := by
  by_cases hcand : ∃ c ∈ (prepareRound s).candidates s.coverFigure, c.pedestal = n
  · obtain ⟨hs, hb, _⟩ := (exists_candidate_iff h).1 hcand
    obtain ⟨c, hc, rfl⟩ := hcand
    by_cases hp : c ∈ s.poweredInRound
    · have left := allocationRound_session_powered hp
      obtain ⟨low, high⟩ := candidate_bounds ht hc
      obtain ⟨_, _, _, _, _, _, floor_eq, _, _⟩ := candidate_of_round hc
      obtain ⟨share_low, share_high⟩ := fairShare_bounds low (s.ruleBudget - floorsOf s.poweredInRound) s.poweredInRound
      simp only [left]
      rcases Alloc.power_cases ((prepareRound s).session c.pedestal).alloc (s.shareInRound c)
        (decide (0 < s.parkedInRound.length)) s.settings.yieldOn s.settings.yieldOff with ⟨hg, hshare⟩ | ⟨hg, hshare⟩
      · rw [hg, hshare]
        exact .inl ⟨hs, hb, rfl, ⟨c, hp, rfl, rfl⟩, floor_eq ▸ share_low, share_high.trans high⟩
      · exact .inr (.inl ⟨.inr hg, hshare⟩)
    · rw [allocationRound_session_parked hc hp]
      exact .inr (.inl ⟨.inl rfl, rfl⟩)
  · have left := allocationRound_session_other (s := s) (n := n) fun c hc e => hcand ⟨c, hc, e⟩
    simp only [left]
    by_cases hidle : ((prepareRound s).session n).state ≠ .dispensing ∨ (s.entry n).blocked = true
    · obtain ⟨hshare, hg⟩ := prepareRound_idle (h n).2.2.2 hidle
      exact .inr (.inr ⟨hg, hshare, hidle⟩)
    · rw [exists_candidate_iff h] at hcand
      push Not at hidle hcand
      have hb : (s.entry n).blocked = false := by simpa using hidle.2
      have hy := hcand hidle.1 hb
      exact .inr (.inl ⟨.inr hy, prepareRound_yielding hidle.1 hb hy⟩)

/-! ## The setpoints of a round (R104) -/

/-- A sum over all pedestals that has its terms at some pedestals alone. -/
theorem sum_all_eq_of_support {f : Ped → Nat} {l : List Ped} (hl : l.Nodup) (h : ∀ n, n ∉ l → f n = 0) :
    (Ped.all.map f).sum = (l.map f).sum := by
  rw [← List.sum_toFinset f hl]
  show ((List.finRange 16).map f).sum = _
  rw [← Fin.sum_univ_def]
  exact (Finset.sum_subset (Finset.subset_univ _) fun n _ hn => h n (by simpa using hn)).symm

/-- The shares of the POWERED candidates of a round fit into its budget (R104). -/
theorem sum_shareInRound_le (h : s.TableLaw) : (s.poweredInRound.map s.shareInRound).sum ≤ s.ruleBudget := by
  have nodup : s.poweredInRound.Nodup := .of_map _ ((prepareRound s).poweredCandidates_pedestal_nodup s.coverFigure)
  have fits := fillPass_sum_le (powered := s.poweredInRound) (fun c hc =>
    (candidate_bounds h (((prepareRound s).poweredCandidates_sublist s.coverFigure).subset hc)).1)
    (s.ruleBudget - floorsOf s.poweredInRound)
  have floors : floorsOf s.poweredInRound ≤ s.ruleBudget := by
    have := (prepareRound s).floorsOf_poweredCandidates_le s.coverFigure
    rwa [prepareRound_roundBudget] at this
  rw [fillPass_eq_map nodup] at fits
  simp only [List.map_map, Function.comp_def] at fits
  unfold State.shareInRound
  omega

/-- The setpoints after a round never add up to more than its budget (R104). -/
theorem allocationRound_setpointSum_le (h : s.RecordsShaped) (ht : s.TableLaw) : (allocationRound s).setpointSum ≤ s.ruleBudget := by
  have nodup := (prepareRound s).poweredCandidates_pedestal_nodup s.coverFigure
  have others : ∀ n, n ∉ s.poweredInRound.map (·.pedestal) →
      setpointOf ((allocationRound s).session n) ((allocationRound s).entry n) = 0 := by
    intro n hn
    unfold setpointOf
    split
    · rename_i hset
      rcases allocationRound_record h ht n with ⟨_, _, _, ⟨c, hc, rfl, _⟩, _⟩ | ⟨_, hshare⟩ | ⟨_, hshare, _⟩
      · exact absurd (List.mem_map_of_mem hc) hn
      · exact hshare
      · exact hshare
    · rfl
  have own : ∀ c ∈ s.poweredInRound,
      setpointOf ((allocationRound s).session c.pedestal) ((allocationRound s).entry c.pedestal) ≤ s.shareInRound c := by
    intro c hc
    unfold setpointOf
    split
    · rw [allocationRound_session_powered hc]
      rcases Alloc.power_cases ((prepareRound s).session c.pedestal).alloc (s.shareInRound c)
        (decide (0 < s.parkedInRound.length)) s.settings.yieldOn s.settings.yieldOff with ⟨_, hshare⟩ | ⟨_, hshare⟩
      · exact hshare.le
      · exact hshare.le.trans (Nat.zero_le _)
    · exact Nat.zero_le _
  calc (allocationRound s).setpointSum
      = ((s.poweredInRound.map (·.pedestal)).map fun n =>
          setpointOf ((allocationRound s).session n) ((allocationRound s).entry n)).sum := sum_all_eq_of_support nodup others
    _ ≤ (s.poweredInRound.map s.shareInRound).sum := by
        simp only [List.map_map, Function.comp_def]
        exact List.sum_le_sum own
    _ ≤ s.ruleBudget := sum_shareInRound_le ht

/-- Settles O47: a candidate is read record by record, and what the fill gives is bounded by floors, demands and budget. -/
theorem roundsStayWithinTheBudget : Obligations.RoundsStayWithinTheBudget := by
  intro s h ht
  dsimp only
  rw [allocationRound_lastBudget]
  refine ⟨rfl, allocationRound_setpointSum_le h ht, (prepareRound s).candidates_ordered _, fun n => exists_candidate_iff h,
    fun c hc => ?_, fun n => ?_⟩
  · obtain ⟨g, cover, hg, cover_eq, hfloor, hs, floor_eq, demand_eq, rank_eq⟩ := candidate_of_round hc
    obtain ⟨low, high⟩ := candidate_bounds ht hc
    refine ⟨g, hg, floor_eq, rank_eq, low, high, ?_, fun cap hcap => ?_, fun cap hcap => ?_, fun band price hprice => ?_⟩
    all_goals rw [demand_eq]
    · exact demandOf_le_request _ _ _ _
    · exact demandOf_le_authCap _ _ _ _ hcap
    · exact demandOf_le_hostCap _ _ _ _ hcap
    · rw [State.coverSteps_eq hprice] at cover_eq
      rw [← cover_eq]
      exact ⟨demandOf_le_cover _ _ _ _, demandOf_cases _ _ _ _⟩
  · rw [allocationRound_entry]
    rcases allocationRound_record h ht n with ⟨hs, hb, hg, _, low, high⟩ | ⟨hg, hshare⟩ | ⟨_, hshare, hidle⟩
    · refine ⟨fun _ _ => .inl ⟨hg, low, high⟩, fun hidle => ?_⟩
      rcases hidle with hidle | hidle
      · exact absurd hs hidle
      · simp [hb] at hidle
    · exact ⟨fun _ _ => .inr ⟨hg, hshare⟩, fun _ => hshare⟩
    · refine ⟨fun hs hb => ?_, fun _ => hshare⟩
      rcases hidle with hidle | hidle
      · exact absurd hs hidle
      · simp [hb] at hidle

end Sys2Proof.Machine
end

section
/-! SUPPORT. What a step can do to table, shares and setpoints apart from enrolments and rounds: sessions draw no more than they did, and
entries keep enrolment, floor and rating (R4, R104, R108, R146 to R148, R157). -/

namespace Sys2Proof.Machine

variable {s t u : State} {n : Ped}

/-! ## The laws together -/

/-- The laws of table, shares and budget, and that a POWERED record is in DISPENSING (R88, R104, R107, R108, R146 to R148). -/
structure State.BudgetSound (s : State) : Prop where
  table : s.TableLaw
  share : s.ShareLaw
  budget : s.BudgetLaw
  powered : ∀ n, (s.session n).alloc.grantState = .powered → (s.session n).state = .dispensing

/-- The pedestal of a record that is not FREE is enrolled (R147, R148). -/
theorem State.BudgetSound.enrolled (h : s.BudgetSound) (hs : (s.session n).state ≠ .free) : (s.entry n).enrolled = true := by
  by_contra hno
  exact hs ((h.table.1 n).2 (by simpa using hno))

/-! ## Sessions that draw no more -/

/-- A record that is POWERED afterwards was so before, in the same state and with the same share. -/
def Session.DrawsAs (r r' : Session) : Prop :=
  r'.alloc.grantState = .powered → r.alloc.grantState = .powered ∧ r'.alloc.share = r.alloc.share ∧ r'.state = r.state

namespace Session.DrawsAs

variable {r r' q : Session}

theorem of_alloc (hs : r'.state = r.state) (ha : r'.alloc = r.alloc) : r.DrawsAs r' :=
  fun h => ⟨ha ▸ h, congrArg _ ha, hs⟩

protected theorem rfl : r.DrawsAs r := of_alloc rfl rfl

theorem trans (h : r.DrawsAs r') (h' : r'.DrawsAs q) : r.DrawsAs q := fun hq =>
  have ⟨hg', hshare', hs'⟩ := h' hq
  have ⟨hg, hshare, hs⟩ := h hg'
  ⟨hg, hshare'.trans hshare, hs'.trans hs⟩

/-- A record that is not POWERED draws nothing. -/
theorem of_none (h : r'.alloc.grantState = .none) : r.DrawsAs r' := fun hp => by simp [h] at hp

/-- A record entering a state keeps its allocation fields from DISPENSING to DISPENSING alone (R107). -/
theorem enter (st : SessionState) (r : Session) : r.DrawsAs (r.enter st) := by
  intro h
  by_cases hd : st = .dispensing ∧ r.state = .dispensing
  · obtain ⟨rfl, hr⟩ := hd
    have same : (r.enter .dispensing).alloc = r.alloc := if_pos ⟨rfl, hr⟩
    rw [same] at h ⊢
    exact ⟨h, rfl, hr.symm⟩
  · have none : (r.enter st).alloc = {} := if_neg hd
    rw [none] at h
    cases h

/-- A closed session draws nothing (R26). -/
theorem closed (r q : Session) : r.DrawsAs q.toClosed := by
  refine of_none ?_
  unfold Session.toClosed
  split <;> rfl

end Session.DrawsAs

/-- The setpoint of a record that draws no more, on a pedestal that is not unblocked, does not grow (R4, R108). -/
theorem setpointOf_le {r r' : Session} {e e' : PedestalEntry} (h : r.DrawsAs r') (hb : e.blocked = true → e'.blocked = true) :
    setpointOf r' e' ≤ setpointOf r e := by
  unfold setpointOf
  split
  · rename_i hset
    obtain ⟨hs', hg', hb'⟩ := hset
    obtain ⟨hg, hshare, hs⟩ := h hg'
    have unblocked : e.blocked = false := by
      by_contra hblocked
      simp [hb (by simpa using hblocked)] at hb'
    rw [if_pos ⟨hs ▸ hs', hg, by simp [unblocked]⟩, hshare]
  · exact Nat.zero_le _

/-! ## Entries that stay enrolled as they are -/

/-- An entry keeps enrolment, floor and rating, stays blocked if it was, and stays valid. -/
structure PedestalEntry.Follows (e e' : PedestalEntry) : Prop where
  enrolled : e'.enrolled = e.enrolled
  floor : e'.floor = e.floor
  rating : e'.rating = e.rating
  blocked : e.blocked = true → e'.blocked = true
  valid : e.Valid → e'.Valid

protected theorem PedestalEntry.Follows.rfl {e : PedestalEntry} : e.Follows e := ⟨rfl, rfl, rfl, id, id⟩

theorem PedestalEntry.Follows.trans {e e' e'' : PedestalEntry} (h : e.Follows e') (h' : e'.Follows e'') : e.Follows e'' :=
  ⟨h'.enrolled.trans h.enrolled, h'.floor.trans h.floor, h'.rating.trans h.rating, h'.blocked ∘ h.blocked, h'.valid ∘ h.valid⟩

/-! ## Steps under which the laws stay -/

/-- The laws stay where sessions draw no more, pedestals that are not enrolled keep FREE records, entries follow, a new exchange is
with an enrolled pedestal, and the budget is that of the same round. -/
theorem State.BudgetSound.of_parts (h : s.BudgetSound) (sessions : ∀ n, (s.session n).DrawsAs (t.session n))
    (unenrolled : ∀ n, (s.entry n).enrolled = false → (s.session n).state = .free → (t.session n).state = .free)
    (entries : ∀ n, (s.entry n).Follows (t.entry n))
    (exchange : ∀ e, t.bus.phase = .exchange e → e.void = false →
      s.bus.phase = .exchange e ∨ (s.entry e.pedestal).enrolled = true)
    (budget : t.alloc.lastBudget = s.alloc.lastBudget) : t.BudgetSound where
  table := by
    refine ⟨fun n => ⟨(entries n).valid (h.table.1 n).1, fun hno => ?_⟩, fun e he hv => ?_⟩
    · rw [(entries n).enrolled] at hno
      exact unenrolled n hno ((h.table.1 n).2 hno)
    · rw [(entries _).enrolled]
      exact (exchange e he hv).elim (fun hs => h.table.2 e hs hv) id
  share n hp := by
    obtain ⟨hg, hshare, _⟩ := sessions n hp
    rw [(entries n).floor, (entries n).rating, hshare]
    exact h.share n hg
  budget := by
    have lower : t.setpointSum ≤ s.setpointSum :=
      List.sum_le_sum fun n _ => setpointOf_le (sessions n) (entries n).blocked
    rw [State.BudgetLaw, budget]
    exact lower.trans h.budget
  powered n hp := by
    obtain ⟨hg, _, hs⟩ := sessions n hp
    exact hs.trans (h.powered n hg)

/-- A step that leaves sessions to draw no more and the table as it is but for fields of replies, and in which no pedestal that has
missed fewer times than a LOST one comes to miss more. -/
structure State.DrawsNoMore (s t : State) : Prop where
  sessions : ∀ n, (s.session n).DrawsAs (t.session n)
  unenrolled : ∀ n, (s.entry n).enrolled = false → (s.session n).state = .free → (t.session n).state = .free
  entries : ∀ n, (s.entry n).Follows (t.entry n)
  exchange : ∀ e, t.bus.phase = .exchange e → e.void = false →
    s.bus.phase = .exchange e ∨ (s.entry e.pedestal).enrolled = true
  budget : t.alloc.lastBudget = s.alloc.lastBudget
  misses : ∀ n, (s.entry n).misses < Config.lostMisses → (t.entry n).misses < Config.lostMisses

namespace State.DrawsNoMore

theorem keeps (h : s.DrawsNoMore t) (hs : s.BudgetSound) : t.BudgetSound :=
  hs.of_parts h.sessions h.unenrolled h.entries h.exchange h.budget

protected theorem refl (s : State) : s.DrawsNoMore s :=
  ⟨fun _ => .rfl, fun _ _ => id, fun _ => .rfl, fun _ he _ => .inl he, rfl, fun _ => id⟩

theorem trans (h : s.DrawsNoMore t) (h' : t.DrawsNoMore u) : s.DrawsNoMore u where
  sessions n := (h.sessions n).trans (h'.sessions n)
  unenrolled n hno hs := h'.unenrolled n ((h.entries n).enrolled.trans hno) (h.unenrolled n hno hs)
  entries n := (h.entries n).trans (h'.entries n)
  exchange e he hv := (h'.exchange e he hv).elim (fun ht => h.exchange e ht hv) fun hn =>
    .inr ((h.entries _).enrolled.symm.trans hn)
  budget := h'.budget.trans h.budget
  misses n := h'.misses n ∘ h.misses n

/-- An enrolled pedestal stays enrolled. -/
theorem enrolled (h : s.DrawsNoMore t) (hn : (s.entry n).enrolled = true) : (t.entry n).enrolled = true :=
  (h.entries n).enrolled.trans hn

/-- What touches neither records, table, figures nor the place in the cycle. -/
theorem of_frame (records : t.records = s.records) (pedestals : t.pedestals = s.pedestals) (alloc : t.alloc = s.alloc)
    (phase : t.bus.phase = s.bus.phase) : s.DrawsNoMore t := by
  have session : ∀ m, t.session m = s.session m := fun m => by rw [State.session, records, State.session]
  have entry : ∀ m, t.entry m = s.entry m := fun m => by rw [State.entry, pedestals, State.entry]
  refine ⟨fun m => ?_, fun m _ hs => ?_, fun m => ?_, fun e he _ => .inl (phase ▸ he), by rw [alloc], fun m hm => ?_⟩
  · rw [session]; exact .rfl
  · rwa [session]
  · rw [entry]; exact .rfl
  · rwa [entry]

/-- The place in the cycle changes, to no exchange. -/
theorem of_phase (b : Bus) (h : ∀ e, b.phase = .exchange e → e.void = false →
    s.bus.phase = .exchange e ∨ (s.entry e.pedestal).enrolled = true) : s.DrawsNoMore (s.withBus b) :=
  ⟨fun _ => .rfl, fun _ _ => id, fun _ => .rfl, h, rfl, fun _ => id⟩

/-- One record of an enrolled pedestal changes, and draws no more. -/
theorem setSession {r : Session} (hn : (s.entry n).enrolled = true) (h : (s.session n).DrawsAs r) :
    s.DrawsNoMore (s.setSession n r) := by
  refine ⟨fun m => ?_, fun m hno hs => ?_, fun _ => .rfl, fun e he _ => .inl he, rfl, fun _ => id⟩
  all_goals by_cases hm : m = n
  · subst hm
    rwa [State.session_setSession_self]
  · rw [State.session_setSession_ne s hm]
    exact .rfl
  · subst hm
    simp [hn] at hno
  · rwa [State.session_setSession_ne s hm]

theorem putSession {r : Session} (hn : (s.entry n).enrolled = true) (h : (s.session n).DrawsAs r) :
    s.DrawsNoMore (putSession n r s) := by
  obtain ⟨pace, timer, start, e⟩ := putSession_eq n r s
  rw [e]
  exact (setSession hn h).trans (.of_frame rfl rfl rfl rfl)

/-- One entry follows, and does not come to miss more. -/
theorem setEntry {e : PedestalEntry} (h : (s.entry n).Follows e) (hm : e.misses ≤ (s.entry n).misses) :
    s.DrawsNoMore (s.setEntry n e) := by
  refine ⟨fun _ => .rfl, fun _ _ => id, fun m => ?_, fun x hx _ => .inl hx, rfl, fun m => ?_⟩
  all_goals by_cases hmn : m = n
  · subst hmn
    rwa [State.entry_setEntry_self]
  · rw [State.entry_setEntry_ne s hmn]
    exact .rfl
  · subst hmn
    rw [State.entry_setEntry_self]
    exact lt_of_le_of_lt hm
  · rw [State.entry_setEntry_ne s hmn]
    exact id

/-- What is done only in some states. -/
theorem ite {p : Prop} [Decidable p] (h : s.DrawsNoMore t) : s.DrawsNoMore (if p then t else s) := by
  split
  · exact h
  · exact .refl s

end State.DrawsNoMore

theorem latchPed_draws (n : Ped) (k : PedKind) (d : CondData) (s : State) : s.DrawsNoMore (latchPed n k d s) :=
  .of_frame rfl rfl rfl rfl

/-- Activity while every record is FREE moves pace, quiet timer and cycle start alone (R151). -/
theorem quietActivity_draws (s : State) : s.DrawsNoMore (quietActivity s) := by
  rcases quietActivity_cases s with ⟨_, e⟩ | ⟨_, e⟩ <;> rw [e]
  · exact .refl s
  · obtain ⟨p, h, _⟩ := paceFast_eq s
    rw [h]
    exact .of_frame rfl rfl rfl rfl

/-! ## Operations on one session -/

theorem joinQueue_draws (r : SettlementRecord) (s : State) : s.DrawsNoMore (joinQueue r s) := by
  rcases joinQueue_eq r s with e | e <;> rw [e] <;> exact .of_frame rfl rfl rfl rfl

theorem refuseToken_draws (hn : (s.entry n).enrolled = true) (reason : Byte) : s.DrawsNoMore (refuseToken n reason s) :=
  (latchPed_draws n .tokenRefused (.reason reason) s).trans (.setSession hn (.of_alloc rfl rfl))

theorem cancelSession_draws (hn : (s.entry n).enrolled = true) (reason : Byte) : s.DrawsNoMore (cancelSession n reason s) := by
  have released : s.DrawsNoMore (releaseSlot s) := .of_frame rfl rfl rfl rfl
  have put : s.DrawsNoMore (putSession n (s.session n).toCancelled (releaseSlot s)) :=
    released.trans (.putSession hn (.of_none rfl))
  exact put.trans (refuseToken_draws (put.enrolled hn) reason)

theorem closeSession_draws (hn : (s.entry n).enrolled = true) (why : EndReason) : s.DrawsNoMore (closeSession n why s) := by
  have joined : s.DrawsNoMore (match closingRecord n why s with | some r => joinQueue r s | none => s) := by
    cases closingRecord n why s with
    | none => exact .refl s
    | some r => exact joinQueue_draws r s
  rw [closeSession_eq]
  have latched := joined.trans (latchPed_draws n .sessionClosed .none _)
  exact latched.trans (.putSession (latched.enrolled hn) (.closed _ _))

theorem enterEnding_draws (hn : (s.entry n).enrolled = true) (why : EndReason) : s.DrawsNoMore (enterEnding n why s) :=
  .putSession hn (.enter .ending _)

theorem stopSession_draws (hn : (s.entry n).enrolled = true) (why : EndReason) : s.DrawsNoMore (stopSession n why s) := by
  unfold stopSession
  split
  case h_1 | h_2 => exact closeSession_draws hn why
  case h_3 | h_4 | h_5 => exact enterEnding_draws hn why
  all_goals exact .refl s

theorem loseSession_draws (hn : (s.entry n).enrolled = true) : s.DrawsNoMore (loseSession n s) := by
  have changed : ∀ r : Session, r.state = (s.session n).state → r.alloc = (s.session n).alloc →
      s.DrawsNoMore (closeSession n .pedestalLost (s.setSession n r)) := fun r hs ha =>
    have changed : s.DrawsNoMore (s.setSession n r) := .setSession hn (.of_alloc hs ha)
    changed.trans (closeSession_draws (changed.enrolled hn) _)
  unfold loseSession
  simp only []
  split
  case h_1 => exact cancelSession_draws hn _
  case h_2 => exact closeSession_draws hn _
  case h_8 | h_9 | h_10 => exact .refl s
  all_goals exact changed _ rfl rfl

/-! ## The probe sequence and the grant -/

theorem startAttempt_draws (hn : (s.entry n).enrolled = true) : s.DrawsNoMore (startAttempt n s) :=
  .setSession hn (.of_alloc rfl rfl)

theorem enterProbing_draws (hn : (s.entry n).enrolled = true) : s.DrawsNoMore (enterProbing n s) := by
  have put : s.DrawsNoMore (putSession n { (s.session n).enter .probing with
      plugDeadline := none, authDeadline := none, probeAttempts := 0 } s) := .putSession hn (.enter .probing _)
  exact put.trans (startAttempt_draws (put.enrolled hn))

theorem attemptFailed_draws (hn : (s.entry n).enrolled = true) : s.DrawsNoMore (attemptFailed n s) := by
  have cleared : s.DrawsNoMore (s.setSession n { s.session n with probeDeadline := none }) := .setSession hn (.of_alloc rfl rfl)
  unfold attemptFailed
  simp only []
  split
  · exact cleared.trans (startAttempt_draws (cleared.enrolled hn))
  · exact cleared.trans (closeSession_draws (cleared.enrolled hn) _)

theorem energize_draws (hn : (s.entry n).enrolled = true) (count : Nat) : s.DrawsNoMore (energize n count s) :=
  (latchPed_draws n .energized .none s).trans (.putSession hn (.enter .dispensing _))

theorem takeGrant_draws (hn : (s.entry n).enrolled = true) (g : Grant) : s.DrawsNoMore (takeGrant n g s) := by
  have taken : s.DrawsNoMore (s.setSession n { s.session n with grant := some g, captured := none, authDeadline := none }) :=
    .setSession hn (.of_alloc rfl rfl)
  have own := State.session_setSession_self s n { s.session n with grant := some g, captured := none, authDeadline := none }
  unfold takeGrant
  simp only []
  split
  · exact taken.trans (enterProbing_draws (taken.enrolled hn))
  · refine taken.trans (.putSession (taken.enrolled hn) ?_)
    rw [own]
    exact .enter .authorized _

theorem offerGrant_draws (hn : (s.entry n).enrolled = true) (o : GrantOffer) : s.DrawsNoMore (offerGrant n o s) := by
  unfold offerGrant
  split
  · exact takeGrant_draws hn _
  · exact cancelSession_draws hn _

theorem authExpired_draws (hn : (s.entry n).enrolled = true) : s.DrawsNoMore (authExpired n s) := by
  unfold authExpired
  split
  · split
    · exact offerGrant_draws hn _
    · exact cancelSession_draws hn _
  · exact cancelSession_draws hn _

/-! ## The token -/

theorem decideSession_draws (hn : (s.entry n).enrolled = true) (o : Opening) (c : CapturedTerms) :
    s.DrawsNoMore (decideSession n o c s) := by
  have referred : s.DrawsNoMore (referSession n o s) := by
    unfold referSession
    refine .trans (.setSession hn ?_) (latchPed_draws n .authQuery (.query (queryOf n o)) _)
    exact .of_alloc rfl rfl
  rcases decideSession_cases n o c s with ⟨reason, e⟩ | ⟨g, e⟩ | e <;> rw [e]
  · exact cancelSession_draws hn reason
  · exact offerGrant_draws hn g
  · exact referred

theorem acceptToken_draws (hn : (s.entry n).enrolled = true) (token : Token) (source : TokenSource) :
    s.DrawsNoMore (acceptToken n token source s) := by
  have reserved : s.DrawsNoMore (reserveSlot s) := .of_frame rfl rfl rfl rfl
  unfold acceptToken
  refine reserved.trans (.trans (.putSession (n := n) hn ?_) (decideSession_draws ?_ _ _))
  · exact .enter .authorizing _
  · rw [putSession_entry]
    exact hn

theorem offerToken_draws (hn : (s.entry n).enrolled = true) (token : Token) (source : TokenSource) :
    s.DrawsNoMore (offerToken n token source s) := by
  unfold offerToken
  split
  · exact refuseToken_draws hn _
  · exact acceptToken_draws hn token source

theorem takeToken_draws (hn : (s.entry n).enrolled = true) (token : Token) (source : TokenSource) :
    s.DrawsNoMore (takeToken n token source s) := by
  unfold takeToken
  simp only []
  split
  case h_1 | h_2 => exact offerToken_draws hn token source
  case h_3 | h_4 =>
    split
    · exact .refl s
    · exact refuseToken_draws hn _
  case h_10 => exact refuseToken_draws hn _
  all_goals
    split
    · exact stopSession_draws hn .userStop
    · exact refuseToken_draws hn _

end Sys2Proof.Machine
end

section
/-! SUPPORT. The exchanges of a scan cycle draw no more: the fields of a good reply, misses, commands and the alert slot (R5, R150, R153 to
R160, R194). -/

namespace Sys2Proof.Machine

variable {s t : State} {n : Ped} {e : PedestalEntry}

/-! ## Entries (R153 to R157, R169 to R171) -/

/-- What a valid entry of an enrolled pedestal obeys. -/
theorem PedestalEntry.valid_iff (he : e.enrolled = true) : e.Valid ↔
    (10 ≤ e.floor ∧ e.floor ≤ e.rating ∧ e.rating ≤ 5000 ∧ e.extension ≤ 7) ∧ e.misses ≤ 255 ∧ e.frameErrors ≤ 255
      ∧ (e.link = .online → e.misses < Config.lostMisses) ∧ (e.link = .lost → e.lastPlug = none) := by
  simp [PedestalEntry.Valid, he]

theorem PedestalEntry.Follows.metered (he : e.enrolled = true) (count : Nat) : e.Follows (e.metered count) := by
  refine ⟨rfl, rfl, rfl, id, fun h => ?_⟩
  obtain ⟨ranges, _, errors, _, plug⟩ := (PedestalEntry.valid_iff he).1 h
  exact (PedestalEntry.valid_iff (e := e.metered count) he).2 ⟨ranges, Nat.zero_le 255, errors, fun _ => Nat.zero_lt_succ 4, plug⟩

theorem PedestalEntry.Follows.applyFaults (he : e.enrolled = true) (x : StatusReply) : e.Follows (e.applyFaults x) := by
  refine ⟨rfl, rfl, rfl, fun hb => ?_, fun h => ?_⟩
  · simp [PedestalEntry.applyFaults, hb]
  · exact (PedestalEntry.valid_iff (e := e.applyFaults x) he).2 ((PedestalEntry.valid_iff he).1 h)

theorem PedestalEntry.Follows.presented (he : e.enrolled = true) (number : Option Byte) :
    e.Follows { e with lastPresentation := number } :=
  ⟨rfl, rfl, rfl, id, fun h =>
    (PedestalEntry.valid_iff (e := { e with lastPresentation := number }) he).2 ((PedestalEntry.valid_iff he).1 h)⟩

theorem PedestalEntry.Follows.block (he : e.enrolled = true) : e.Follows { e with blocked := true } :=
  ⟨rfl, rfl, rfl, fun _ => rfl, fun h =>
    (PedestalEntry.valid_iff (e := { e with blocked := true }) he).2 ((PedestalEntry.valid_iff he).1 h)⟩

/-- A pedestal that has missed fewer times than a LOST one may be made ONLINE (R157). -/
theorem PedestalEntry.Follows.linked (he : e.enrolled = true) (hm : e.misses < Config.lostMisses) (plug : Bool) :
    e.Follows { e with lastPlug := some plug, link := .online } := by
  refine ⟨rfl, rfl, rfl, id, fun h => ?_⟩
  obtain ⟨ranges, misses, errors, _⟩ := (PedestalEntry.valid_iff he).1 h
  exact (PedestalEntry.valid_iff (e := { e with lastPlug := some plug, link := .online }) he).2
    ⟨ranges, misses, errors, fun _ => hm, fun hl => by cases hl⟩

theorem PedestalEntry.countMiss_counters (he : e.enrolled = true) (h : e.Valid) :
    e.countMiss.misses ≤ 255 ∧ e.countMiss.frameErrors ≤ 255 := by
  obtain ⟨_, _, errors, _⟩ := (PedestalEntry.valid_iff he).1 h
  refine ⟨satAdd_le _ _ _, ?_⟩
  show (if e.missMark then e.frameErrors else satAdd 255 e.frameErrors 1) ≤ 255
  split
  · exact errors
  · exact satAdd_le _ _ _

/-- A miss that leaves the link as it is (R155). -/
theorem PedestalEntry.Follows.countMiss (he : e.enrolled = true)
    (hl : ¬(e.countMiss.link = .online ∧ e.countMiss.misses ≥ Config.lostMisses)) : e.Follows e.countMiss := by
  refine ⟨rfl, rfl, rfl, id, fun h => ?_⟩
  obtain ⟨misses, errors⟩ := PedestalEntry.countMiss_counters he h
  obtain ⟨ranges, _, _, _, plug⟩ := (PedestalEntry.valid_iff he).1 h
  exact (PedestalEntry.valid_iff (e := e.countMiss) he).2
    ⟨ranges, misses, errors, fun ho => Nat.lt_of_not_le fun hge => hl ⟨ho, hge⟩, plug⟩

/-- A miss that makes the pedestal LOST (R157). -/
theorem PedestalEntry.Follows.lost (he : e.enrolled = true) : e.Follows { e.countMiss with link := .lost, lastPlug := none } := by
  refine ⟨rfl, rfl, rfl, id, fun h => ?_⟩
  obtain ⟨misses, errors⟩ := PedestalEntry.countMiss_counters he h
  obtain ⟨ranges, _⟩ := (PedestalEntry.valid_iff he).1 h
  exact (PedestalEntry.valid_iff (e := { e.countMiss with link := .lost, lastPlug := none }) he).2
    ⟨ranges, misses, errors, fun ho => (by cases ho), fun _ => rfl⟩

/-! ## The fields of a good reply (R5, R153) -/

theorem meterSteps_draws (hn : (s.entry n).enrolled = true) (count : Nat) : s.DrawsNoMore (meterSteps n count s) := by
  have entry : s.DrawsNoMore (s.setEntry n ((s.entry n).metered count)) := .setEntry (.metered hn count) (Nat.zero_le _)
  obtain ⟨meter, flags, own⟩ := meterSteps_session_self n count s
  have record : s.DrawsNoMore ((s.setEntry n ((s.entry n).metered count)).setSession n ((meterSteps n count s).session n)) := by
    refine entry.trans (.setSession (entry.enrolled hn) ?_)
    rw [own]
    exact .of_alloc rfl rfl
  have records := congrArg State.records (meterSteps_frame n count s)
  have alloc := congrArg State.alloc (meterSteps_frame n count s)
  exact record.trans (.of_frame records (meterSteps_pedestals n count) alloc
    (congrArg Bus.phase (meterSteps_bus n count)))

theorem tableFaults_draws (hn : (s.entry n).enrolled = true) (x : StatusReply) : s.DrawsNoMore (tableFaults n x s) := by
  have entry : s.DrawsNoMore (s.setEntry n ((s.entry n).applyFaults x)) := .setEntry (.applyFaults hn x) le_rfl
  rw [tableFaults_eq]
  exact entry.trans (.of_frame rfl rfl rfl rfl)

theorem sessionFaults_draws (hn : (s.entry n).enrolled = true) (x : StatusReply) : s.DrawsNoMore (sessionFaults n x s) := by
  have stop : ∀ why, s.DrawsNoMore (faultStop n why s) := by
    intro why
    unfold faultStop
    split
    · exact .refl s
    · exact stopSession_draws hn why
  unfold sessionFaults
  simp only []
  split
  · exact stop _
  · exact .ite (stop _)

theorem reactPlugIn_draws (hn : (s.entry n).enrolled = true) : s.DrawsNoMore (reactPlugIn n s) := by
  unfold reactPlugIn
  split
  case h_1 => exact .putSession hn (.enter .plugged _)
  case h_2 =>
    split
    · exact closeSession_draws hn _
    · split
      · exact closeSession_draws hn _
      · exact enterProbing_draws hn
  all_goals exact .refl s

theorem reactPlugOut_draws (hn : (s.entry n).enrolled = true) : s.DrawsNoMore (reactPlugOut n s) := by
  unfold reactPlugOut
  split
  case h_1 | h_2 => exact .putSession hn (.of_none rfl)
  case h_3 | h_4 | h_5 | h_6 => exact stopSession_draws hn _
  all_goals exact .refl s

theorem takePlug_draws (hn : (s.entry n).enrolled = true) (plug : Bool) : s.DrawsNoMore (takePlug n plug s) := by
  unfold takePlug
  simp only []
  split
  · have active := (latchPed_draws n .plugIn .none s).trans (quietActivity_draws _)
    generalize quietActivity (latchPed n .plugIn .none s) = u at active ⊢
    have known : s.DrawsNoMore (u.setSession n { u.session n with hasPlug := .yes, refusal := none }) :=
      active.trans (.setSession (active.enrolled hn) (.of_alloc rfl rfl))
    exact known.trans (reactPlugIn_draws (known.enrolled hn))
  · split
    · have latched := latchPed_draws n .plugOut .none s
      generalize latchPed n .plugOut .none s = u at latched ⊢
      have known : s.DrawsNoMore (u.setSession n { u.session n with hasPlug := .no, refusal := none }) :=
        latched.trans (.setSession (latched.enrolled hn) (.of_alloc rfl rfl))
      exact known.trans (reactPlugOut_draws (known.enrolled hn))
    · split
      · split
        · exact .setSession hn (.of_alloc rfl rfl)
        · exact .putSession hn (.of_none rfl)
      · exact .refl s

theorem takePresentation_draws (hn : (s.entry n).enrolled = true) (p : Presentation) : s.DrawsNoMore (takePresentation n p s) := by
  have stored : s.DrawsNoMore (s.setEntry n { s.entry n with lastPresentation := some p.number }) :=
    .setEntry (.presented hn _) le_rfl
  have active := stored.trans (quietActivity_draws _)
  unfold takePresentation
  simp only []
  split
  · split
    · exact stored
    · exact active.trans (takeToken_draws (active.enrolled hn) p.token p.source)
  · exact stored

theorem takeProbe_draws (hn : (s.entry n).enrolled = true) (probe : ProbeResult) (count : Nat) :
    s.DrawsNoMore (takeProbe n probe count s) := by
  unfold takeProbe
  split
  · cases probe with
    | none => exact .refl s
    | openCircuit => exact attemptFailed_draws hn
    | short =>
      have blocked : s.DrawsNoMore (s.setEntry n { s.entry n with blocked := true }) := .setEntry (.block hn) le_rfl
      have latched := blocked.trans (latchPed_draws n .probeFault .none _)
      exact latched.trans (closeSession_draws (latched.enrolled hn) .cableShort)
    | matched length =>
      simp only []
      split
      · exact energize_draws hn count
      · exact closeSession_draws hn _
  · exact .refl s

theorem takeComplete_draws (hn : (s.entry n).enrolled = true) (complete : Bool) : s.DrawsNoMore (takeComplete n complete s) := by
  unfold takeComplete
  split
  case h_1 | h_2 => exact .ite (.putSession hn (.enter .occupying _))
  all_goals exact .refl s

/-- A new request leaves grant state and share; a record that returns to DISPENSING draws nothing yet (R20, R21, R94). -/
theorem takeVehicleRequest_draws (hn : (s.entry n).enrolled = true) (request : Nat) (complete : Bool) :
    s.DrawsNoMore (takeVehicleRequest n request complete s) := by
  unfold takeVehicleRequest
  split
  case h_1 =>
    split
    · split
      · exact .refl s
      · exact .putSession hn (.enter .suspended _)
    · exact .setSession hn fun hp => ⟨hp, rfl, rfl⟩
  case h_2 hs | h_3 hs =>
    refine .ite (.putSession hn ?_)
    have fresh : ((s.session n).enter .dispensing).alloc = {} := if_neg fun h => by simp [hs] at h
    refine .of_none ?_
    rw [fresh]
  all_goals exact .refl s

theorem takePower_draws (hn : (s.entry n).enrolled = true) (wasEnding : Bool) (power : Nat) :
    s.DrawsNoMore (takePower n wasEnding power s) := by
  unfold takePower
  exact .ite (closeSession_draws hn .userStop)

/-- The session's part of a reply, field by field in the order of R5. -/
theorem sessionSteps_draws (hn : (s.entry n).enrolled = true) (wasEnding : Bool) (x : StatusReply) :
    s.DrawsNoMore (sessionSteps n wasEnding x s) := by
  have presented : ∀ u : State, (u.entry n).enrolled = true →
      u.DrawsNoMore (match x.presentation with | some p => takePresentation n p u | none => u) := by
    intro u hu
    cases x.presentation with
    | some p => exact takePresentation_draws hu p
    | none => exact .refl u
  have table := tableFaults_draws hn x
  have faults := table.trans (sessionFaults_draws (table.enrolled hn) x)
  have plug := faults.trans (takePlug_draws (faults.enrolled hn) x.plug)
  have token := plug.trans (presented _ (plug.enrolled hn))
  have probe := token.trans (takeProbe_draws (token.enrolled hn) x.probe x.meter)
  have complete := probe.trans (takeComplete_draws (probe.enrolled hn) x.complete)
  have request := complete.trans (takeVehicleRequest_draws (complete.enrolled hn) x.request x.complete)
  exact request.trans (takePower_draws (request.enrolled hn) wasEnding x.power)

theorem linkSteps_draws (hn : (s.entry n).enrolled = true) (hm : (s.entry n).misses < Config.lostMisses) (plug : Bool) :
    s.DrawsNoMore (linkSteps n plug s) := by
  have linked : s.DrawsNoMore (s.setEntry n { s.entry n with lastPlug := some plug, link := .online }) :=
    .setEntry (.linked hn hm plug) le_rfl
  unfold linkSteps
  simp only []
  split
  · exact linked.trans (latchPed_draws n .pedestalBack .none _)
  · exact linked

/-- A good reply: it has set the miss counter to 0 before it makes the pedestal ONLINE (R153, R157). -/
theorem takeReply_draws (hn : (s.entry n).enrolled = true) (x : StatusReply) : s.DrawsNoMore (takeReply n x s) := by
  have metered := meterSteps_draws hn x.meter
  have answered : ((meterSteps n x.meter s).entry n).misses < Config.lostMisses := by
    rw [meterSteps_entry, if_pos rfl]
    exact Nat.zero_lt_succ 4
  have steps := sessionSteps_draws (metered.enrolled hn) ((s.session n).state == .ending) x
  exact (metered.trans steps).trans
    (linkSteps_draws ((metered.trans steps).enrolled hn) (steps.misses n answered) x.plug)

/-! ## Misses and the end of an exchange (R28, R155, R157, R160) -/

/-- An entry that follows keeps the laws, also where it comes to miss more. -/
theorem State.BudgetSound.setEntry (h : s.BudgetSound) (he : (s.entry n).Follows e) : (s.setEntry n e).BudgetSound := by
  refine h.of_parts (fun _ => .rfl) (fun _ _ => id) (fun m => ?_) (fun x hx _ => .inl hx) rfl
  by_cases hm : m = n
  · subst hm
    rwa [State.entry_setEntry_self]
  · rw [State.entry_setEntry_ne s hm]
    exact .rfl

theorem takeMiss_keeps (h : s.BudgetSound) (hn : (s.entry n).enrolled = true) : (takeMiss n s).BudgetSound := by
  unfold takeMiss
  simp only []
  split
  · have lost := h.setEntry (.lost hn)
    have still : ((s.setEntry n { (s.entry n).countMiss with link := .lost, lastPlug := none }).entry n).enrolled = true := by
      rw [State.entry_setEntry_self]
      exact hn
    generalize s.setEntry n { (s.entry n).countMiss with link := .lost, lastPlug := none } = u at lost still ⊢
    exact ((latchPed_draws n .pedestalLost .none u).trans (loseSession_draws still)).keeps lost
  · rename_i hl
    exact h.setEntry (.countMiss hn hl)

theorem takeExchange_keeps {x : Exchange} (h : s.BudgetSound) (hx : s.bus.phase = .exchange x) (reply : Option StatusReply) :
    (takeExchange x reply s).BudgetSound := by
  unfold takeExchange
  split
  · exact h
  · rename_i hv
    have hn := h.table.2 x hx (by simpa using hv)
    cases reply with
    | none => exact takeMiss_keeps h hn
    | some r =>
      simp only []
      split
      · exact (meterSteps_draws hn r.meter).keeps h
      · exact (takeReply_draws hn r).keeps h

theorem sendCommand_draws (hn : (s.entry n).enrolled = true) (outOfTurn : Bool) : s.DrawsNoMore (sendCommand n outOfTurn s) := by
  have sent : s.DrawsNoMore (s.withBus { s.bus with
      lastFrame := some (formCommand n s), phase := .exchange ⟨n, outOfTurn, false⟩ }) :=
    .of_phase _ fun e he _ => by
      cases he
      exact .inr hn
  unfold sendCommand
  simp only []
  split
  · exact sent.trans (.setSession (sent.enrolled hn) (.of_alloc rfl rfl))
  · exact sent

/-- The bus goes to a place without an exchange. -/
theorem withBus_draws {b : Bus} (h : ∀ e, b.phase ≠ .exchange e) : s.DrawsNoMore (s.withBus b) :=
  .of_phase b fun e he => absurd he (h e)

theorem nextTurn_draws (l : List Ped) (s : State) : s.DrawsNoMore (nextTurn l s) := by
  unfold nextTurn
  split
  · rename_i n hn
    have enrolled := List.find?_some (p := fun n => (s.entry n).enrolled) hn
    exact sendCommand_draws enrolled false
  · exact withBus_draws fun e he => by cases he

theorem sendStopAll_draws (s : State) : s.DrawsNoMore (sendStopAll s) := withBus_draws fun e he => by cases he

theorem endCycle_draws (s : State) : s.DrawsNoMore (endCycle s) := withBus_draws fun e he => by cases he

theorem endExchange_draws (x : Exchange) (s : State) : s.DrawsNoMore (endExchange x s) := by
  unfold endExchange
  split
  · exact sendStopAll_draws s
  · split
    · exact endCycle_draws s
    · exact nextTurn_draws _ s

theorem takeAlert_draws (reading : Nat) (s : State) : s.DrawsNoMore (takeAlert reading s) := by
  have active := quietActivity_draws s
  unfold takeAlert
  simp only []
  split
  · exact endCycle_draws s
  · generalize quietActivity s = u at active ⊢
    refine active.trans ?_
    split
    · split
      · rename_i hn
        exact sendCommand_draws hn true
      · exact endCycle_draws u
    · exact endCycle_draws u

theorem requestStopAll_draws (s : State) : s.DrawsNoMore (requestStopAll s) := by
  unfold requestStopAll
  split
  · exact .of_frame rfl rfl rfl rfl
  · exact .refl s
  all_goals exact sendStopAll_draws s

end Sys2Proof.Machine
end

section
/-! SUPPORT. Requests, frames, starts and stop causes keep the laws of table, shares and budget (R104, R108, R146 to R148, R157, R161,
R189, R192). -/

namespace Sys2Proof.Machine

variable {s t : State} {n : Ped} {e e' : PedestalEntry}

/-! ## Ways to keep the laws -/

namespace State.BudgetSound

/-- What touches neither records, table, last budget nor the place in the cycle. -/
theorem of_frame (h : s.BudgetSound) (records : t.records = s.records) (pedestals : t.pedestals = s.pedestals)
    (budget : t.alloc.lastBudget = s.alloc.lastBudget) (phase : t.bus.phase = s.bus.phase) : t.BudgetSound := by
  have session : ∀ m, t.session m = s.session m := fun m => by rw [State.session, records, State.session]
  have entry : ∀ m, t.entry m = s.entry m := fun m => by rw [State.entry, pedestals, State.entry]
  refine h.of_parts (fun m => ?_) (fun m _ hs => ?_) (fun m => ?_) (fun e he _ => .inl (phase ▸ he)) budget
  · rw [session]; exact .rfl
  · rwa [session]
  · rw [entry]; exact .rfl

/-- One pedestal's entry and record change, and the record draws nothing afterwards. -/
theorem of_idle (h : s.BudgetSound) (others : ∀ m, m ≠ n → t.session m = s.session m ∧ t.entry m = s.entry m)
    (valid : (t.entry n).Valid) (unenrolled : (t.entry n).enrolled = false → (t.session n).state = .free)
    (idle : (t.session n).alloc.grantState ≠ .powered)
    (exchange : ∀ x, t.bus.phase = .exchange x → x.void = false →
      s.bus.phase = .exchange x ∧ (x.pedestal = n → (t.entry n).enrolled = true))
    (budget : t.alloc.lastBudget = s.alloc.lastBudget) : t.BudgetSound where
  table := by
    refine ⟨fun m => ?_, fun x hx hv => ?_⟩
    · by_cases hm : m = n
      · subst hm
        exact ⟨valid, unenrolled⟩
      · rw [(others m hm).1, (others m hm).2]
        exact h.table.1 m
    · obtain ⟨hs, hn⟩ := exchange x hx hv
      by_cases hm : x.pedestal = n
      · rw [hm]
        exact hn hm
      · rw [(others _ hm).2]
        exact h.table.2 x hs hv
  share m hp := by
    have hm : m ≠ n := fun hm => idle (hm ▸ hp)
    rw [(others m hm).1] at hp ⊢
    rw [(others m hm).2]
    exact h.share m hp
  budget := by
    have lower : t.setpointSum ≤ s.setpointSum := by
      refine List.sum_le_sum fun m _ => ?_
      by_cases hm : m = n
      · subst hm
        rw [setpointOf, if_neg fun hset => idle hset.2.1]
        exact Nat.zero_le _
      · rw [(others m hm).1, (others m hm).2]
    rw [State.BudgetLaw, budget]
    exact lower.trans h.budget
  powered m hp := by
    have hm : m ≠ n := fun hm => idle (hm ▸ hp)
    rw [(others m hm).1] at hp ⊢
    exact h.powered m hp

/-- After a start every record is FREE and no exchange is under way (R32, R36, R161). -/
theorem of_start (records : t.records = Vector.replicate 16 {}) (valid : ∀ m, (t.entry m).Valid)
    (exchange : ∀ x, t.bus.phase ≠ .exchange x) : t.BudgetSound := by
  have free : ∀ m, t.session m = {} := fun m => by
    unfold State.session
    rw [records]
    simp [Vector.get]
  refine ⟨⟨fun m => ⟨valid m, fun _ => by rw [free m]⟩, fun x hx => absurd hx (exchange x)⟩, fun m hp => ?_, ?_, fun m hp => ?_⟩
  · rw [free m] at hp
    cases hp
  · have nothing : t.setpointSum = 0 := List.sum_eq_zero fun k hk => by
      obtain ⟨m, _, rfl⟩ := List.mem_map.1 hk
      rw [free m]
      rfl
    exact nothing.le.trans (Nat.zero_le _)
  · rw [free m] at hp
    cases hp

end State.BudgetSound

/-- A record changes in fields other than state and allocation, on any pedestal. -/
theorem State.DrawsNoMore.setRecord {r : Session} (hs : r.state = (s.session n).state) (ha : r.alloc = (s.session n).alloc) :
    s.DrawsNoMore (s.setSession n r) := by
  refine ⟨fun m => ?_, fun m _ hfree => ?_, fun _ => .rfl, fun x hx _ => .inl hx, rfl, fun _ => id⟩
  all_goals by_cases hm : m = n
  · subst hm
    rw [State.session_setSession_self]
    exact .of_alloc hs ha
  · rw [State.session_setSession_ne s hm]
    exact .rfl
  · subst hm
    rw [State.session_setSession_self]
    exact hs.trans hfree
  · rwa [State.session_setSession_ne s hm]

theorem State.DrawsNoMore.forPedestals {f : Ped → State → State} (h : ∀ (m : Ped) (u : State), u.DrawsNoMore (f m u)) (s : State) :
    s.DrawsNoMore (forPedestals f s) :=
  forPedestals_induction (.refl s) fun m u hu => hu.trans (h m u)

/-! ## Entries that lose their counters and marks -/

/-- A change that leaves the not-enrolled values alone is valid if it is so for an enrolled pedestal. -/
theorem PedestalEntry.Valid.changed (h : e.Valid) (blank : e = {} → e' = {}) (enrolled : e.enrolled = true → e'.Valid) : e'.Valid := by
  cases he : e.enrolled with
  | true => exact enrolled he
  | false =>
    rw [blank (h.1 he)]
    decide

theorem PedestalEntry.Follows.clearMark (e : PedestalEntry) : e.Follows { e with missMark := false } := by
  refine ⟨rfl, rfl, rfl, id, fun h => h.changed (fun he => by subst he; rfl) fun he => ?_⟩
  exact (PedestalEntry.valid_iff (e := { e with missMark := false }) he).2 ((PedestalEntry.valid_iff he).1 h)

theorem PedestalEntry.Follows.clearErrors (e : PedestalEntry) : e.Follows { e with frameErrors := 0, missMark := false } := by
  refine ⟨rfl, rfl, rfl, id, fun h => h.changed (fun he => by subst he; rfl) fun he => ?_⟩
  obtain ⟨ranges, misses, _, link⟩ := (PedestalEntry.valid_iff he).1 h
  exact (PedestalEntry.valid_iff (e := { e with frameErrors := 0, missMark := false }) he).2 ⟨ranges, misses, Nat.zero_le 255, link⟩

theorem PedestalEntry.Valid.afterSoft (h : e.Valid) : e.afterSoft.Valid := by
  refine h.changed (fun he => by subst he; rfl) fun he => ?_
  obtain ⟨ranges, misses, errors, online, _⟩ := (PedestalEntry.valid_iff he).1 h
  exact (PedestalEntry.valid_iff (e := e.afterSoft) he).2 ⟨ranges, misses, errors, online, fun _ => rfl⟩

/-- An enrolment within the ranges of R147, over a valid entry. -/
theorem PedestalEntry.Valid.enrol (h : e.Valid) {rating floor extension maxCable : Nat}
    (ranges : ¬(rating < 10 ∨ rating > 5000 ∨ floor < 10 ∨ floor > rating ∨ extension > 7)) :
    (e.enrol rating floor extension maxCable).Valid := by
  obtain ⟨_, _, misses, errors, online, lost⟩ := h
  have ranges : 10 ≤ floor ∧ floor ≤ rating ∧ rating ≤ 5000 ∧ extension ≤ 7 := by omega
  exact (PedestalEntry.valid_iff (e := e.enrol rating floor extension maxCable) rfl).2 ⟨ranges, misses, errors, online, lost⟩

/-! ## Requests that write the table (R108, R147, R148, R156, R173) -/

theorem dropShare_eq (n : Ped) (s : State) : dropShare n s = { s with
    records := if (s.session n).state = .dispensing ∧ (s.session n).alloc.grantState = .powered then
        s.records.set n { s.session n with alloc := { (s.session n).alloc with grantState := .none, share := 0 } }
      else s.records } := by
  unfold dropShare
  by_cases hc : (s.session n).state = .dispensing ∧ (s.session n).alloc.grantState = .powered
  · simp only [if_pos hc]
    rfl
  · simp only [if_neg hc]

/-- A record that has dropped its share draws nothing, and the others stay (R108). -/
theorem dropShare_session (n : Ped) (s : State) :
    (∀ m, m ≠ n → (dropShare n s).session m = s.session m)
      ∧ ((s.session n).state = .dispensing → ((dropShare n s).session n).alloc.grantState ≠ .powered)
      ∧ ((s.session n).state ≠ .dispensing → (dropShare n s).session n = s.session n) := by
  unfold dropShare
  simp only []
  split
  · rename_i hc
    refine ⟨fun m hm => State.session_setSession_ne s hm _, fun _ => ?_, fun hs => absurd hc.1 hs⟩
    rw [State.setAlloc, State.session_setSession_self]
    simp
  · rename_i hc
    exact ⟨fun _ _ => rfl, fun hs hp => hc ⟨hs, hp⟩, fun _ => rfl⟩

theorem enrol_keeps (h : s.BudgetSound) (body : List Byte) : (enrol.act body s).2.BudgetSound := by
  unfold enrol
  simp only []
  split
  · exact h
  · rename_i n _
    split
    · exact h
    · rename_i ranges
      have kept := dropShare_eq n s
      have table : ∀ u : State, u.pedestals = s.pedestals → ∀ (x : PedestalEntry) (m : Ped), m ≠ n →
          (u.setEntry n x).entry m = s.entry m := fun u hu x m hm => by
        rw [State.entry_setEntry_ne u hm, State.entry, hu, State.entry]
      by_cases hn : (s.entry n).enrolled = true
      · rw [if_pos hn, if_pos hn]
        obtain ⟨others, drops, stays⟩ := dropShare_session n s
        refine h.of_idle (n := n) (fun m hm => ⟨others m hm, table _ (by rw [kept]) _ m hm⟩) ?_ (fun hno => ?_) (fun hp => ?_)
          (fun x hx _ => ⟨?_, fun _ => ?_⟩) ?_
        · rw [done, State.entry_setEntry_self]
          exact (h.table.1 n).1.enrol ranges
        · rw [done, State.entry_setEntry_self] at hno
          cases hno
        · by_cases hs : (s.session n).state = .dispensing
          · exact drops hs hp
          · have same : ((dropShare n s).session n).alloc.grantState = .powered := hp
            rw [stays hs] at same
            exact hs (h.powered n same)
        · rw [← hx, done]
          exact (congrArg (·.bus.phase) kept).symm
        · rw [done, State.entry_setEntry_self]
          rfl
        · exact congrArg (·.alloc.lastBudget) kept
      · rw [if_neg hn, if_neg hn]
        have free := (h.table.1 n).2 (by simpa using hn)
        refine h.of_idle (n := n) (fun m hm => ⟨rfl, table s rfl _ m hm⟩) ?_ (fun _ => free) (fun hp => ?_)
          (fun x hx _ => ⟨hx, fun _ => ?_⟩) rfl
        · rw [done, State.entry_setEntry_self]
          exact PedestalEntry.Valid.enrol (by decide) ranges
        · have := h.powered n hp
          rw [free] at this
          cases this
        · rw [done, State.entry_setEntry_self]
          rfl

theorem voidExchange_eq (n : Ped) (s : State) : voidExchange n s = { s with bus := match s.bus.phase with
    | .exchange x => if x.pedestal = n then { s.bus with phase := .exchange ⟨n, x.outOfTurn, true⟩ } else s.bus
    | .idle | .alertSlot | .stopped => s.bus } := by
  unfold voidExchange
  cases s.bus.phase with
  | exchange x =>
    by_cases hx : x.pedestal = n
    · subst hx
      simp only [if_pos]
      rfl
    · simp only [if_neg hx]
  | _ => rfl

/-- An exchange that still counts is with another pedestal than the withdrawn one (R148). -/
theorem voidExchange_phase {x : Exchange} (h : (voidExchange n s).bus.phase = .exchange x) (hv : x.void = false) :
    s.bus.phase = .exchange x ∧ x.pedestal ≠ n := by
  unfold voidExchange at h
  split at h
  · rename_i y hy
    split at h
    · cases h
      cases hv
    · rename_i hne
      rw [hy] at h
      cases h
      exact ⟨hy, hne⟩
  all_goals rename_i hp; rw [hp] at h; cases h

theorem withdraw_keeps (h : s.BudgetSound) (body : List Byte) : (withdraw.act body s).2.BudgetSound := by
  unfold withdraw
  simp only []
  split
  · exact h
  · rename_i n _
    split
    · exact h
    · split
      · exact h
      · rename_i hfree
        have free : (s.session n).state = .free := not_not.1 hfree
        have kept := voidExchange_eq n (s.setEntry n {})
        have session : ∀ m, (voidExchange n (s.setEntry n {})).session m = s.session m := fun m => by rw [kept]; rfl
        have entry : ∀ m, (voidExchange n (s.setEntry n {})).entry m = (s.setEntry n {}).entry m := fun m => by rw [kept]; rfl
        refine h.of_idle (n := n) (fun m hm => ⟨session m, (entry m).trans (State.entry_setEntry_ne s hm _)⟩) ?_
          (fun _ => (congrArg _ (session n)).trans free) (fun hp => ?_) (fun x hx hv => ?_) (congrArg (·.alloc.lastBudget) kept)
        · rw [done, entry, State.entry_setEntry_self]
          decide
        · rw [done, session] at hp
          have := h.powered n hp
          rw [free] at this
          cases this
        · obtain ⟨hs, hne⟩ := voidExchange_phase (s := s.setEntry n {}) hx hv
          exact ⟨hs, fun he => absurd he hne⟩

theorem unblock_keeps (h : s.BudgetSound) (body : List Byte) : (unblock.act body s).2.BudgetSound := by
  unfold unblock
  simp only []
  split
  · exact h
  · rename_i n _
    split
    · exact h
    · rename_i hn
      split
      · exact h
      · rename_i hs
        have hn : (s.entry n).enrolled = true := by simpa using hn
        refine h.of_idle (n := n) (fun m hm => ⟨rfl, State.entry_setEntry_ne s hm _⟩) ?_ (fun hno => ?_) (fun hp => ?_)
          (fun x hx _ => ⟨hx, fun _ => ?_⟩) rfl
        · rw [done, State.entry_setEntry_self]
          exact (PedestalEntry.valid_iff (e := { s.entry n with blocked := false }) hn).2
            ((PedestalEntry.valid_iff hn).1 (h.table.1 n).1)
        · rw [done, State.entry_setEntry_self, hn] at hno
          cases hno
        · have dispensing := h.powered n hp
          exact hs ⟨by simp [dispensing], by simp [dispensing]⟩
        · rw [done, State.entry_setEntry_self]
          exact hn

theorem countersRead_draws (body : List Byte) (s : State) : s.DrawsNoMore (countersRead.act body s).2 := by
  unfold countersRead
  exact .forPedestals (f := fun n u => u.setEntry n { u.entry n with frameErrors := 0, missMark := false })
    (fun n u => .setEntry (.clearErrors _) le_rfl) s

/-! ## Requests that end sessions or name one (R30, R46, R47, R96, R192) -/

theorem hostStop_draws (hn : (s.entry n).enrolled = true) : s.DrawsNoMore (hostStop n s) := by
  unfold hostStop
  split
  · exact cancelSession_draws hn _
  · exact stopSession_draws hn _

theorem sessionStop_keeps (h : s.BudgetSound) (body : List Byte) : (sessionStop.act body s).2.BudgetSound := by
  have stopped : ∀ n, (hostStop n s).BudgetSound := fun n => by
    by_cases hs : (s.session n).state = .free
    · have stays : hostStop n s = s := by simp [hostStop, stopSession, hs]
      rwa [stays]
    · exact (hostStop_draws (h.enrolled hs)).keeps h
  unfold sessionStop
  simp only []
  generalize (if body.length = 3 then some (fieldAt body 1 2) else none) = given
  split
  · exact h
  · split
    · exact h
    · split
      · exact h
      · exact stopped _

theorem sessionCap_keeps (h : s.BudgetSound) (body : List Byte) : (sessionCap.act body s).2.BudgetSound := by
  have capped : ∀ n cap, (s.setHostCap n cap).BudgetSound := fun n cap =>
    (State.DrawsNoMore.setRecord (r := { s.session n with hostCap := cap }) rfl rfl).keeps h
  unfold sessionCap
  simp only []
  split
  · exact h
  · split
    · exact h
    · split
      · exact h
      · split
        · exact capped _ _
        · split <;> exact capped _ _

theorem authDecision_keeps (h : s.BudgetSound) (body : List Byte) : (authDecision.act body s).2.BudgetSound := by
  unfold authDecision
  simp only []
  split
  · exact h
  · rename_i n hw
    have hn : (s.entry n).enrolled = true := h.enrolled (by rw [State.waiting_authorizing hw]; decide)
    split
    · exact h
    · split
      · exact h
      · exact (cancelSession_draws hn _).keeps h
      · split
        · exact h
        · exact (offerGrant_draws hn _).keeps h

theorem haltSession_keeps (h : s.BudgetSound) (why : EndReason) (n : Ped) : (haltSession why n s).BudgetSound := by
  have hn : (s.session n).state ≠ .free → (s.entry n).enrolled = true := h.enrolled
  unfold haltSession
  split
  case h_1 hs => exact (cancelSession_draws (hn (by simp [hs])) _).keeps h
  case h_2 hs | h_3 hs | h_4 hs | h_5 hs | h_6 hs | h_7 hs => exact (closeSession_draws (hn (by simp [hs])) _).keeps h
  all_goals exact h

theorem haltAll_keeps (h : s.BudgetSound) (why : EndReason) : (forPedestals (haltSession why) s).BudgetSound :=
  forPedestals_induction h fun n _ hu => haltSession_keeps hu why n

theorem enterRestarting_draws (kind : RestartKind) (s : State) : s.DrawsNoMore (enterRestarting kind s) :=
  (requestStopAll_draws s).trans (.of_frame rfl rfl rfl rfl)

theorem restart_keeps (h : s.BudgetSound) (body : List Byte) : (restart.act body s).2.BudgetSound := by
  unfold restart
  simp only []
  split
  · exact (enterRestarting_draws _ _).keeps (haltAll_keeps h _)
  · split
    · exact h
    · exact (enterRestarting_draws _ s).keeps h
  · exact h

/-- Every request of the catalogue keeps the laws; those named in no lemma above leave records, table, last budget and the place in the
cycle as they are. -/
theorem catalogue_keeps {kind : Byte} {q : Request} (hq : catalogue kind = some q) (body : List Byte) (h : s.BudgetSound) :
    (q.act body s).2.BudgetSound := by
  unfold catalogue at hq
  split at hq <;> cases hq
  case h_14 => exact enrol_keeps h body
  case h_15 => exact withdraw_keeps h body
  case h_16 => exact unblock_keeps h body
  case h_18 => exact (countersRead_draws body s).keeps h
  case h_20 => exact sessionStop_keeps h body
  case h_21 => exact sessionCap_keeps h body
  case h_22 => exact authDecision_keeps h body
  case h_29 => exact restart_keeps h body
  all_goals
    dsimp only [statusRead, parkSet, parkRead, parkOpen, parkClose, clockSet, siteLoad, tariffWrite, tariffRead, tariffClear,
      windowWrite, windowRead, windowClear, pedestalRead, sessionRead, queryList, settleFetch, fetchUnnamed, fetchNamed,
      settleConfirm, conditionsRead, conditionsClear, conditionsMask]
    repeat' split
    all_goals exact h.of_frame rfl rfl rfl rfl

/-! ## Frames and characters -/

theorem sendReply_draws (r : Reply) (s : State) : s.DrawsNoMore (sendReply r s) := by
  obtain ⟨l, e⟩ := sendReply_eq r s
  rw [e]
  exact .of_frame rfl rfl rfl rfl

theorem takeFrame_keeps (kind tag : Byte) (body : List Byte) (h : s.BudgetSound) :
    (takeFrame kind tag body (catalogue kind) s).BudgetSound := by
  have linked : (linkFrame (s.withLine { s.line with parser := .hunt false })).BudgetSound := by
    rcases linkFrame_cases (s.withLine { s.line with parser := .hunt false }) with ⟨_, e⟩ | ⟨_, e⟩ <;> rw [e] <;>
      exact h.of_frame rfl rfl rfl rfl
  unfold takeFrame
  split
  · generalize linkFrame _ = u at linked ⊢
    unfold answerFrame refuseBusy
    split
    · split <;> exact linked.of_frame rfl rfl rfl rfl
    · split
      · exact (sendReply_draws _ u).keeps linked
      · split
        · exact (sendReply_draws _ u).keeps linked
        · rename_i q hq
          split
          · exact (sendReply_draws _ _).keeps (catalogue_keeps hq body linked)
          · exact (sendReply_draws _ u).keeps linked
  · exact h

theorem badSyncByte_draws (b : Bool) (s : State) : s.DrawsNoMore (badSyncByte b s) := by
  unfold badSyncByte
  split <;> exact .of_frame rfl rfl rfl rfl

theorem discardFrame_draws (s : State) : s.DrawsNoMore (discardFrame s) := .of_frame rfl rfl rfl rfl

theorem withParser_draws (p : Parser) (s : State) : s.DrawsNoMore (s.withParser p) := .of_frame rfl rfl rfl rfl

theorem parseByte_keeps (b : Byte) (h : s.BudgetSound) : (parseByte b s).BudgetSound := by
  unfold parseByte endFrame
  split
  case h_1 =>
    split
    · exact (withParser_draws _ s).keeps h
    · exact (badSyncByte_draws _ s).keeps h
  case h_2 =>
    split
    · exact (withParser_draws _ s).keeps h
    · exact (discardFrame_draws s).keeps h
  case h_7 =>
    split
    · exact takeFrame_keeps _ _ _ h
    · exact (discardFrame_draws s).keeps h
  all_goals exact (withParser_draws _ s).keeps h

theorem receiveChar_keeps (c : RxChar) (h : s.BudgetSound) : (receiveChar c s).BudgetSound := by
  unfold receiveChar badStop
  split
  · split
    · exact parseByte_keeps _ h
    · split
      · exact (badSyncByte_draws _ s).keeps h
      all_goals exact (discardFrame_draws s).keeps h
  · exact h

theorem receive_keeps (received : List RxChar) (h : s.BudgetSound) : (receive received s).BudgetSound := by
  unfold receive
  induction received generalizing s with
  | nil => exact h
  | cons c cs ih => exact ih (receiveChar_keeps c h)

theorem startNotice_draws (s : State) : s.DrawsNoMore (startNotice s) := by
  rcases startNotice_cases s with e | ⟨_, _, _, e⟩ <;> rw [e]
  · exact .refl s
  · exact .of_frame rfl rfl rfl rfl

theorem frameSent_draws (s : State) : s.DrawsNoMore (frameSent s) := by
  unfold frameSent
  split
  · exact .of_frame rfl rfl rfl rfl
  · exact .of_frame rfl rfl rfl rfl
  · refine .trans ?_ (startNotice_draws _)
    exact .of_frame rfl rfl rfl rfl

/-! ## Starts and stops (R128, R161, R189, R191, R192) -/

theorem latchStart_table (kind : StartKind) (cause : StartCause) (s : State) :
    (latchStart kind cause s).pedestals = s.pedestals ∧ (latchStart kind cause s).bus = s.bus := by
  unfold latchStart
  simp only []
  split <;> exact ⟨rfl, rfl⟩

theorem freshStart_keeps (kind : StartKind) (cause : StartCause) (q : Settlement) (s : State) :
    (freshStart kind cause q s).BudgetSound := by
  obtain ⟨table, bus⟩ := latchStart_table kind cause
    { timebase := s.timebase, tickDue := s.tickDue, pending := s.pending, settlement := q,
      bus := { nextCycle := s.timebase }, line := { strap := s.line.strap, baud := s.line.strap },
      supply := { startKind := kind, startCause := cause } }
  refine .of_start (latchStart_records _ _ _) (fun m => ?_) fun x hx => ?_
  · have entry : (freshStart kind cause q s).entry m = {} := by
      rw [State.entry, freshStart, table]
      simp [Vector.get]
    rw [entry]
    decide
  · rw [freshStart, bus] at hx
    cases hx

theorem softStart_keeps (h : s.BudgetSound) : (softStart s).BudgetSound := by
  obtain ⟨table, bus⟩ := latchStart_table .warm .restartSoft
    { timebase := s.timebase, tickDue := s.tickDue, pending := s.pending, settlement := s.settlement.kept,
      windows := s.windows, tariffs := s.tariffs, clock := s.clock, settings := s.settings,
      pedestals := s.pedestals.map PedestalEntry.afterSoft,
      bus := { nextCycle := s.timebase }, line := { strap := s.line.strap, baud := s.line.strap },
      supply := { startKind := .warm, startCause := .restartSoft } }
  refine .of_start (latchStart_records _ _ _) (fun m => ?_) fun x hx => ?_
  · have entry : (softStart s).entry m = (s.entry m).afterSoft := by
      rw [State.entry, softStart, table]
      exact Vector.getElem_map _ _
    rw [entry]
    exact (h.table.1 m).1.afterSoft
  · rw [softStart, bus] at hx
    cases hx

theorem markerStart_keeps (cause : StartCause) (s : State) : (markerStart cause s).BudgetSound := by
  unfold markerStart
  split <;> exact freshStart_keeps _ _ _ s

theorem haltDevice_keeps (h : s.BudgetSound) : (haltDevice s).BudgetSound := by
  have stopped := (requestStopAll_draws _).keeps (haltAll_keeps h .supplyLoss)
  unfold haltDevice
  generalize requestStopAll _ = u at stopped ⊢
  exact stopped.of_frame rfl rfl rfl rfl

theorem stopCause_keeps (h : s.BudgetSound) : (stopCause s).BudgetSound := by
  unfold stopCause
  split
  · exact h
  · exact haltDevice_keeps h

end Sys2Proof.Machine
end

section
/-! SUPPORT. Every step keeps the laws of table, shares and budget (R88 to R109, R146 to R148, R150). -/

namespace Sys2Proof.Machine

variable {s t : State} {n : Ped}

/-! ## The cycle start (R150) -/

/-- A record that is FREE stays so through a round. -/
theorem allocationRound_free (h : (s.session n).state = .free) : ((allocationRound s).session n).state = .free := by
  have other : ∀ c ∈ (prepareRound s).candidates s.coverFigure, c.pedestal ≠ n := by
    rintro c hc rfl
    obtain ⟨_, _, _, _, _, hs, _⟩ := candidate_of_round hc
    rw [h] at hs
    cases hs
  have unmoved : s.covered n = s.session n := if_neg fun hx => by
    have := State.coverFigure_some hx
    rw [h] at this
    cases this
  rw [allocationRound_session_other other, prepareRound_state, unmoved, h]

/-- A round starts from shaped records and a valid table alone: every POWERED record is one that it has just given its share. -/
theorem allocationRound_keeps (h : s.RecordsShaped) (ht : s.TableLaw) : (allocationRound s).BudgetSound where
  table := by
    refine ⟨fun n => ?_, fun x hx hv => ?_⟩
    · rw [allocationRound_entry]
      exact ⟨(ht.1 n).1, fun hno => allocationRound_free ((ht.1 n).2 hno)⟩
    · rw [allocationRound_entry]
      refine ht.2 x ?_ hv
      rw [allocationRound_frame] at hx
      exact hx
  share n hp := by
    rw [allocationRound_entry]
    rcases allocationRound_record h ht n with ⟨_, _, _, _, low, high⟩ | ⟨hg | hg, _⟩ | ⟨hg, _⟩
    · exact ⟨low, high⟩
    all_goals
      rw [hg] at hp
      cases hp
  budget := by
    rw [State.BudgetLaw, allocationRound_lastBudget]
    exact allocationRound_setpointSum_le h ht
  powered n hp := by
    rcases allocationRound_record h ht n with ⟨hs, _⟩ | ⟨hg | hg, _⟩ | ⟨hg, _⟩
    · exact hs
    all_goals
      rw [hg] at hp
      cases hp

/-- A shaped record is POWERED in DISPENSING alone (R107). -/
theorem State.BudgetSound.of_laws (shaped : s.RecordsShaped) (table : s.TableLaw) (share : s.ShareLaw) (budget : s.BudgetLaw) :
    s.BudgetSound := by
  refine ⟨table, share, budget, fun n hp => ?_⟩
  obtain ⟨_, _, _, outside, _⟩ := shaped n
  by_contra hs
  rw [outside hs] at hp
  cases hp

theorem startCycle_keeps (shaped : s.RecordsShaped) (h : s.BudgetSound) : (startCycle s).BudgetSound := by
  have cleared : ∀ u : State, u.BudgetSound →
      (nextTurn Ped.all (forPedestals (fun n u => u.setEntry n { u.entry n with missMark := false }) u)).BudgetSound :=
    fun u hu => (nextTurn_draws _ _).keeps
      ((State.DrawsNoMore.forPedestals (fun n u => .setEntry (.clearMark (u.entry n)) le_rfl) u).keeps hu)
  unfold startCycle
  simp only []
  split
  · exact cleared _ (allocationRound_keeps shaped h.table)
  · exact cleared _ (h.of_frame rfl rfl rfl rfl)

/-! ## Timers -/

theorem State.plugDeadlineOf_some {p : Point} (h : s.plugDeadlineOf n = some p) : (s.session n).state = .authorized := by
  unfold State.plugDeadlineOf at h
  split at h
  · rename_i hc; exact hc.2
  · cases h

theorem State.endingDeadlineOf_some {p : Point} (h : s.endingDeadlineOf n = some p) : (s.session n).state = .ending := by
  unfold State.endingDeadlineOf at h
  split at h
  · rename_i hc; exact hc.2
  · cases h

theorem reach_draws (p : Point) (s : State) : s.DrawsNoMore (s.reach p) := .of_frame rfl rfl rfl rfl

theorem tickSecond_draws (s : State) : s.DrawsNoMore (tickSecond s) := by
  have ticked : ∀ n, (tickSecond s).session n = (s.session n).tickOccupying := fun n => Vector.getElem_map _ _
  have same : ∀ r : Session, r.tickOccupying.state = r.state ∧ r.tickOccupying.alloc = r.alloc := fun r => by
    unfold Session.tickOccupying
    split <;> exact ⟨rfl, rfl⟩
  refine ⟨fun n => ?_, fun n _ hs => ?_, fun _ => .rfl, fun x hx _ => .inl hx, rfl, fun _ => id⟩
  · rw [ticked]
    exact .of_alloc (same _).1 (same _).2
  · rw [ticked, (same _).1, hs]

theorem idleMinuteOf_draws (n : Ped) (s : State) : s.DrawsNoMore (idleMinuteOf n s) := by
  unfold idleMinuteOf Session.chargeIdleMinute
  split
  · split
    · split <;> exact .setRecord rfl rfl
    · exact .refl s
  · exact .refl s

/-! ## Commands and steps -/

theorem withSupply_draws (u : Supply) (s : State) : s.DrawsNoMore (s.withSupply u) := .of_frame rfl rfl rfl rfl

theorem losePower_draws (s : State) : s.DrawsNoMore (losePower s) :=
  (withSupply_draws { s.supply with mainSupply := .absent } s).trans (withBus_draws fun x hx => by cases hx)

/-- Every command keeps the laws. -/
theorem exec_keeps (i : Instr) (shaped : s.RecordsShaped) (h : s.BudgetSound) : ∃ t, exec i s = .next t ∧ t.BudgetSound := by
  cases i
  case frameDiscarded received => exact ⟨_, rfl, receive_keeps received h⟩
  case badSyncRun received => exact ⟨_, rfl, receive_keeps received h⟩
  case frameGapTimeout received =>
    exact ⟨_, rfl, (discardFrame_draws _).ite.keeps (receive_keeps received h)⟩
  case linkSilenceExpiry =>
    refine ⟨_, rfl, State.DrawsNoMore.keeps ?_ h⟩
    split
    · exact State.DrawsNoMore.ite (.of_frame rfl rfl rfl rfl)
    · exact .refl s
  case replySent | noticeSent =>
    refine ⟨_, rfl, State.DrawsNoMore.keeps ?_ h⟩
    split
    case h_1 => exact frameSent_draws s
    all_goals exact .refl s
  case notice => exact ⟨_, rfl, (startNotice_draws s).keeps h⟩
  case softRestart =>
    refine ⟨_, rfl, ?_⟩
    split
    · exact softStart_keeps h
    · exact h
  case hardRestart =>
    refine ⟨_, rfl, ?_⟩
    split
    · exact freshStart_keeps _ _ _ s
    · exact h
  case cycleStart =>
    refine ⟨_, rfl, ?_⟩
    split
    · exact startCycle_keeps shaped h
    · exact h
  case statusReply | exchangeMiss =>
    refine ⟨_, rfl, ?_⟩
    split
    case h_1 hx => exact (endExchange_draws _ _).keeps (takeExchange_keeps h hx _)
    all_goals exact h
  case alertSlot =>
    refine ⟨_, rfl, State.DrawsNoMore.keeps ?_ h⟩
    split
    case h_1 => exact takeAlert_draws _ s
    all_goals exact .refl s
  case quietTimerExpiry =>
    refine ⟨_, rfl, State.DrawsNoMore.keeps ?_ h⟩
    split
    · exact State.DrawsNoMore.ite (.of_frame rfl rfl rfl rfl)
    · exact .refl s
  case authDeadlineExpiry n =>
    refine ⟨_, rfl, State.DrawsNoMore.keeps ?_ h⟩
    split
    · rename_i p hp
      have hn := h.enrolled (n := n) (by rw [State.authDeadlineOf_some hp]; decide)
      exact (reach_draws p s).trans (authExpired_draws hn)
    · exact .refl s
  case probeDeadlineExpiry n =>
    refine ⟨_, rfl, State.DrawsNoMore.keeps ?_ h⟩
    split
    · rename_i p hp
      have hn := h.enrolled (n := n) (by rw [State.probeDeadlineOf_some hp]; decide)
      exact (reach_draws p s).trans (attemptFailed_draws hn)
    · exact .refl s
  case plugDeadlineExpiry n =>
    refine ⟨_, rfl, State.DrawsNoMore.keeps ?_ h⟩
    split
    · rename_i p hp
      have hn := h.enrolled (n := n) (by rw [State.plugDeadlineOf_some hp]; decide)
      exact (reach_draws p s).trans (closeSession_draws (s := s.reach p) hn .noVehicle)
    · exact .refl s
  case endingDeadlineExpiry n =>
    refine ⟨_, rfl, State.DrawsNoMore.keeps ?_ h⟩
    split
    · rename_i p hp
      have hn := h.enrolled (n := n) (by rw [State.endingDeadlineOf_some hp]; decide)
      exact (reach_draws p s).trans (closeSession_draws (s := s.reach p) hn .userStop)
    · exact .refl s
  case refusalDisplayExpiry n =>
    refine ⟨_, rfl, State.DrawsNoMore.keeps ?_ h⟩
    split
    · exact State.DrawsNoMore.ite ((reach_draws _ s).trans (.setRecord rfl rfl))
    · exact .refl s
  case oneSecondTick =>
    refine ⟨_, rfl, State.DrawsNoMore.keeps ?_ h⟩
    split
    · exact .refl s
    · exact tickSecond_draws s
  case suspendLimit n =>
    refine ⟨_, rfl, State.DrawsNoMore.keeps ?_ h⟩
    split
    · rename_i hc
      have suspended : (s.session n).state = .suspended := by
        have := hc.2
        simp only [State.suspendLimitReached, Bool.and_eq_true, beq_iff_eq] at this
        exact this.1
      have hn := h.enrolled (n := n) (by rw [suspended]; decide)
      exact .putSession hn (.enter .occupying _)
    · exact .refl s
  case idleMinute n => exact ⟨_, rfl, (idleMinuteOf_draws n s).ite.keeps h⟩
  case supplyWarning | reset => exact ⟨_, rfl, (withSupply_draws _ _).keeps (stopCause_keeps h)⟩
  case supplyFail =>
    refine ⟨_, rfl, ?_⟩
    split
    · exact (losePower_draws s).keeps h
    · exact (withSupply_draws _ _).keeps (haltDevice_keeps h)
  case retentionLoss =>
    refine ⟨_, rfl, State.DrawsNoMore.keeps ?_ h⟩
    exact State.DrawsNoMore.ite ((losePower_draws s).trans (.of_frame rfl rfl rfl rfl))
  case powerOn | haltedStart =>
    refine ⟨_, rfl, ?_⟩
    split
    · exact markerStart_keeps _ s
    · exact h
  all_goals exact ⟨_, exec_requestFrame rfl s, takeFrame_keeps _ _ _ h⟩

/-- Settles O58: of the laws, only those of shares and budget rest on the last round, and nothing after it draws more than it gave. -/
theorem stepsKeepTheTableAndTheBudget : Obligations.StepsKeepTheTableAndTheBudget := by
  intro s t shaped table share budget e
  have sound : s.BudgetSound := .of_laws shaped table share budget
  have after : t.BudgetSound := by
    unfold step at e
    split at e
    · obtain rfl := Host.Outcome.next.inj e
      have passed : s.DrawsNoMore { s with timebase := s.timebase + 1 } := .of_frame rfl rfl rfl rfl
      unfold idle
      split
      · exact sound
      · exact passed.keeps sound
    · rename_i c rest _
      have taken : State.BudgetSound { s with pending := rest } := sound.of_frame rfl rfl rfl rfl
      obtain ⟨u, hu, kept⟩ := exec_keeps (s := { s with pending := rest }) c shaped taken
      obtain rfl := Host.Outcome.next.inj (hu.symm.trans e)
      exact kept
  exact ⟨after.table, after.share, after.budget⟩

end Sys2Proof.Machine
end

section
/-! SUPPORT. The requests of park state, clock and site load, of enrolment, and SESSION-CAP; and the cycle start (R92, R96, R137,
R139, R140, R147, R148, R150, R173). -/

namespace Sys2Proof.Machine

variable {s : State} {n : Ped} {body : List Byte}

@[simp] theorem State.served_alloc (s : State) : s.served.alloc = s.alloc := by
  obtain ⟨l, c, h⟩ := s.served_eq; rw [h]

@[simp] theorem State.served_bus (s : State) : s.served.bus = s.bus := by
  obtain ⟨l, c, h⟩ := s.served_eq; rw [h]

/-! ## PARK-OPEN, PARK-CLOSE, CLOCK-SET and SITE-LOAD -/

theorem anyWindow_iff (s : State) : s.windows.toList.any (·.enabled) = true ↔ ∃ i, (s.windows.get i).enabled = true := by
  simp [Vector.any_eq_true, Fin.exists_iff, Vector.get]

theorem parkOpen_enabled (h : ∃ i, (s.windows.get i).enabled = true) :
    parkOpen.act body s = (⟨.done, []⟩, { s with park := .opened }) := if_pos ((anyWindow_iff s).2 h)

theorem parkOpen_disabled (h : ∀ i, (s.windows.get i).enabled = false) : parkOpen.act body s = (⟨.wrongState, []⟩, s) :=
  if_neg fun hany => by
    obtain ⟨i, hi⟩ := (anyWindow_iff s).1 hany
    simp [h i] at hi

theorem clockSet_inRange (hd : fieldAt body 0 2 ≤ 65534) (hs : fieldAt body 2 3 ≤ 86399) :
    clockSet.act body s = (⟨.done, []⟩, { s with clock := some ⟨fieldAt body 0 2, fieldAt body 2 3⟩ }) :=
  if_neg fun h => h.elim (Nat.not_lt.2 hd) (Nat.not_lt.2 hs)

theorem clockSet_outOfRange (h : 65534 < fieldAt body 0 2 ∨ 86399 < fieldAt body 2 3) :
    clockSet.act body s = (⟨.outOfRange, []⟩, s) := if_pos h

/-- Settles O14: what the owner of each request answers, with the link served before it. -/
theorem parkStateClockAndLoadAreSet : Obligations.ParkStateClockAndLoadAreSet := by
  intro tag s h
  refine ⟨fun ⟨i, hi⟩ => ?_, fun hw => ?_, ?_, fun body hl => ⟨fun hd hs => ?_, fun hout => ?_⟩, fun body hl => ?_⟩
  · exact exec_answered rfl rfl (by decide) h (by simp [parkOpen]) (parkOpen_enabled ⟨i, by rwa [State.served_windows]⟩)
  · exact exec_answered rfl rfl (by decide) h (by simp [parkOpen])
      (parkOpen_disabled fun i => by rw [State.served_windows, hw i])
  · exact exec_answered rfl rfl (by decide) h (by simp [parkClose]) rfl
  · exact exec_answered rfl rfl (by decide) h (by simp [clockSet, hl]) (clockSet_inRange hd hs)
  · exact exec_answered rfl rfl (by decide) h (by simp [clockSet, hl]) (clockSet_outOfRange hout)
  · refine exec_answered rfl rfl (by decide) h (by simp [siteLoad, hl]) ?_
    simp only [siteLoad, State.served_alloc, State.served_timebase]

/-! ## ENROL, WITHDRAW and UNBLOCK -/

/-- The entry that an ENROL leaves (R147). -/
def enrolledEntry (body : List Byte) (e : PedestalEntry) : PedestalEntry :=
  if e.enrolled then
    { e with rating := fieldAt body 1 2, floor := fieldAt body 3 2, extension := fieldAt body 5 1, maxCable := fieldAt body 6 1 }
  else
    { enrolled := true, rating := fieldAt body 1 2, floor := fieldAt body 3 2, extension := fieldAt body 5 1,
      maxCable := fieldAt body 6 1 }

theorem enrol_refused (h : fieldAt body 0 1 = 0 ∨ 16 < fieldAt body 0 1 ∨ ¬EnrolBodyGood body) :
    enrol.act body s = (⟨.outOfRange, []⟩, s) := by
  by_cases hp : fieldAt body 0 1 = 0 ∨ 16 < fieldAt body 0 1
  · simp only [enrol, pedestalOf_none hp]
    rfl
  · have ranges : fieldAt body 1 2 < 10 ∨ fieldAt body 1 2 > 5000 ∨ fieldAt body 3 2 < 10 ∨ fieldAt body 3 2 > fieldAt body 1 2
        ∨ fieldAt body 5 1 > 7 := by
      have bad : ¬EnrolBodyGood body := h.elim (fun h => absurd (.inl h) hp) fun h => h.elim (fun h => absurd (.inr h) hp) id
      by_contra hno
      exact bad ⟨by omega, by omega, by omega, by omega⟩
    simp only [enrol, if_pos ranges]
    split <;> rfl

theorem enrol_taken (hn : fieldAt body 0 1 = n.number) (hg : EnrolBodyGood body) : enrol.act body s = (⟨.done, []⟩, { s with
    pedestals := s.pedestals.set n (enrolledEntry body (s.entry n))
    records := if (s.entry n).enrolled ∧ (s.session n).state = .dispensing ∧ (s.session n).alloc.grantState = .powered then
        s.records.set n { s.session n with alloc := { (s.session n).alloc with grantState := .none, share := 0 } }
      else s.records }) := by
  obtain ⟨low, order, high, extension⟩ := hg
  have ranges : ¬(fieldAt body 1 2 < 10 ∨ fieldAt body 1 2 > 5000 ∨ fieldAt body 3 2 < 10 ∨ fieldAt body 3 2 > fieldAt body 1 2
      ∨ fieldAt body 5 1 > 7) := by omega
  simp only [enrol, pedestalOf_some hn, if_neg ranges, dropShare_eq, enrolledEntry]
  cases he : (s.entry n).enrolled with
  | true =>
    simp only [if_true, true_and]
    rw [done, State.setEntry, PedestalEntry.enrol]
  | false =>
    simp only [Bool.false_eq_true, if_false, false_and]
    rfl

theorem withdraw_noPedestal (h : fieldAt body 0 1 = 0 ∨ 16 < fieldAt body 0 1) :
    withdraw.act body s = (⟨.outOfRange, []⟩, s) := by
  simp only [withdraw, pedestalOf_none h]
  rfl

theorem unblock_noPedestal (h : fieldAt body 0 1 = 0 ∨ 16 < fieldAt body 0 1) : unblock.act body s = (⟨.outOfRange, []⟩, s) := by
  simp only [unblock, pedestalOf_none h]
  rfl

section Named

/-! The body names a pedestal. -/

variable (hn : fieldAt body 0 1 = n.number)
include hn

theorem withdraw_notFound (he : (s.entry n).enrolled = false) : withdraw.act body s = (⟨.notFound, []⟩, s) := by
  simp [withdraw, pedestalOf_some hn, he]

theorem withdraw_inUse (he : (s.entry n).enrolled = true) (hs : (s.session n).state ≠ .free) :
    withdraw.act body s = (⟨.inUse, []⟩, s) := by
  simp [withdraw, pedestalOf_some hn, he, hs]

theorem withdraw_taken (he : (s.entry n).enrolled = true) (hs : (s.session n).state = .free) :
    withdraw.act body s = (⟨.done, []⟩, voidExchange n (s.setEntry n {})) := by
  simp [withdraw, pedestalOf_some hn, he, hs, done]

theorem unblock_notFound (he : (s.entry n).enrolled = false) : unblock.act body s = (⟨.notFound, []⟩, s) := by
  simp [unblock, pedestalOf_some hn, he]

theorem unblock_inUse (he : (s.entry n).enrolled = true) (hs : (s.session n).state ≠ .free) (hr : (s.session n).state ≠ .released) :
    unblock.act body s = (⟨.inUse, []⟩, s) := by
  simp [unblock, pedestalOf_some hn, he, hs, hr]

theorem unblock_taken (he : (s.entry n).enrolled = true) (hs : (s.session n).state = .free ∨ (s.session n).state = .released) :
    unblock.act body s = (⟨.done, []⟩, s.setEntry n { s.entry n with blocked := false }) := by
  have rest : ¬((s.session n).state ≠ .free ∧ (s.session n).state ≠ .released) := fun h => hs.elim h.1 h.2
  simp only [unblock, pedestalOf_some hn, he, if_neg rest]
  rfl

end Named

/-- Settles O19: the rows of R147, R148 and R173 in their order. -/
theorem pedestalsAreEnrolledWithdrawnAndUnblocked : Obligations.PedestalsAreEnrolledWithdrawnAndUnblocked := by
  refine ⟨fun tag body s h hl => ⟨fun hout => ?_, fun n hn hg => ?_⟩, fun tag body s h hl => ⟨fun hout => ⟨?_, ?_⟩, fun n hn =>
    ⟨fun he => ⟨?_, ?_⟩, fun he hs => ?_, fun he hs => ?_, fun he hs hr => ?_, fun he hs => ?_⟩⟩⟩
  · exact exec_answered rfl rfl (by decide) h (by simp [enrol, hl]) (enrol_refused hout)
  · refine exec_answered rfl rfl (by decide) h (by simp [enrol, hl]) ?_
    rw [enrol_taken hn hg]
    simp only [State.served_entry, State.served_session, State.served_pedestals, State.served_records, enrolledEntry]
  · exact exec_answered rfl rfl (by decide) h (by simp [withdraw, hl]) (withdraw_noPedestal hout)
  · exact exec_answered rfl rfl (by decide) h (by simp [unblock, hl]) (unblock_noPedestal hout)
  · exact exec_answered rfl rfl (by decide) h (by simp [withdraw, hl]) (withdraw_notFound hn (by rwa [State.served_entry]))
  · exact exec_answered rfl rfl (by decide) h (by simp [unblock, hl]) (unblock_notFound hn (by rwa [State.served_entry]))
  · exact exec_answered rfl rfl (by decide) h (by simp [withdraw, hl])
      (withdraw_inUse hn (by rwa [State.served_entry]) (by rwa [State.served_session]))
  · refine exec_answered rfl rfl (by decide) h (by simp [withdraw, hl]) ?_
    rewrite [withdraw_taken hn (by rwa [State.served_entry]) (by rwa [State.served_session]), voidExchange_eq, State.setEntry,
      State.served_bus, State.served_pedestals]
    rfl
  · exact exec_answered rfl rfl (by decide) h (by simp [unblock, hl])
      (unblock_inUse hn (by rwa [State.served_entry]) (by rwa [State.served_session]) (by rwa [State.served_session]))
  · refine exec_answered rfl rfl (by decide) h (by simp [unblock, hl]) ?_
    rw [unblock_taken hn (by rwa [State.served_entry]) (by rwa [State.served_session]), State.setEntry, State.served_entry,
      State.served_pedestals]

/-! ## SESSION-CAP -/

/-- The session number and the cap that a SESSION-CAP carries. -/
def capNumber (body : List Byte) : Option Nat := presentField (fieldAt body 1 1) 0 body 2 2
def capValue (body : List Byte) : Option Nat := presentField (fieldAt body 1 1) 1 body 4 2

theorem presentField_eq_zero_iff {presence bit off size : Nat} : presentField presence bit body off size = some 0 ↔
    presence.testBit bit = true ∧ fieldAt body off size = 0 := by
  unfold presentField
  split <;> simp [*]

theorem sessionCap_refused (h : fieldAt body 0 1 = 0 ∨ 16 < fieldAt body 0 1 ∨ fieldAt body 1 1 > 3 ∨ capValue body = some 0
    ∨ capNumber body = some 0) : sessionCap.act body s = (⟨.outOfRange, []⟩, s) := by
  by_cases hp : fieldAt body 0 1 = 0 ∨ 16 < fieldAt body 0 1
  · simp only [sessionCap, pedestalOf_none hp]
    rfl
  · have rows := (or_assoc.2 h).resolve_left hp
    unfold capValue capNumber at rows
    simp only [sessionCap, if_pos rows]
    split <;> rfl

section InRange

/-! Every field of the body is in range. -/

variable (hn : fieldAt body 0 1 = n.number) (hr : ¬(fieldAt body 1 1 > 3 ∨ capValue body = some 0 ∨ capNumber body = some 0))
include hn hr

theorem sessionCap_notNamed {code : ReplyCode} (hk : numberCheck (capNumber body) (s.session n) = some code) :
    sessionCap.act body s = (⟨code, []⟩, s) := by
  unfold capValue capNumber at *
  simp only [sessionCap, pedestalOf_some hn, if_neg hr, hk]

theorem sessionCap_absent (hk : numberCheck (capNumber body) (s.session n) = none) (hc : capValue body = none) :
    sessionCap.act body s = (⟨.done, []⟩, s.setHostCap n none) := by
  unfold capValue capNumber at *
  rw [hc] at hr
  simp only [sessionCap, pedestalOf_some hn, if_neg hr, hk, hc]
  rfl

theorem sessionCap_carried {cap : Nat} (hk : numberCheck (capNumber body) (s.session n) = none) (hc : capValue body = some cap)
    (hf : (s.entry n).floor ≤ cap) : sessionCap.act body s = (⟨.done, []⟩, s.setHostCap n (some cap)) := by
  unfold capValue capNumber at *
  rw [hc] at hr
  simp only [sessionCap, pedestalOf_some hn, if_neg hr, hk, hc, if_neg (Nat.not_lt.2 hf)]
  rfl

theorem sessionCap_clamped {cap : Nat} (hk : numberCheck (capNumber body) (s.session n) = none) (hc : capValue body = some cap)
    (hf : cap < (s.entry n).floor) : sessionCap.act body s =
      (⟨.clamped, clampedData [(0, (s.entry n).floor)]⟩, s.setHostCap n (some (s.entry n).floor)) := by
  unfold capValue capNumber at *
  rw [hc] at hr
  simp only [sessionCap, pedestalOf_some hn, if_neg hr, hk, hc, if_pos hf]

end InRange

/-- Settles O23: the rows of R96 in their order. -/
theorem sessionCapSetsTheHostCap : Obligations.SessionCapSetsTheHostCap := by
  intro tag body s h hl presence number cap named capped
  have hlen : body.length ∈ sessionCap.lengths := by simp [sessionCap, hl]
  have answered {code data t} := exec_answered (i := .sessionCap tag body) (reply := 0x95#8) (code := code) (data := data) (t := t) rfl rfl
    (by decide) h hlen
  refine ⟨fun hout => answered (sessionCap_refused ?_), fun n hn hp hcap hnumber => ?_⟩
  · rwa [capValue, capNumber, presentField_eq_zero_iff, presentField_eq_zero_iff]
  · have hr : ¬(fieldAt body 1 1 > 3 ∨ capValue body = some 0 ∨ capNumber body = some 0) := by
      rw [capValue, capNumber, presentField_eq_zero_iff, presentField_eq_zero_iff]
      exact fun h => h.elim (Nat.not_lt.2 hp) fun h => h.elim (fun h => hcap h.1 h.2) fun h => hnumber h.1 h.2
    have given : named → capNumber body = some number := fun h => if_pos h
    have ungiven : ¬named → capNumber body = none := fun h => if_neg h
    refine ⟨fun hnamed hno => answered ?_, fun hnamed hclosed => answered ?_, fun hholds hopen => ?_⟩
    · refine sessionCap_notNamed hn hr ?_
      rw [given hnamed, numberCheck_some, State.served_session, if_neg hno]
    · refine sessionCap_notNamed hn hr ?_
      rw [ungiven hnamed, numberCheck_none, State.served_session, hclosed]
      rfl
    · have hk : numberCheck (capNumber body) (s.served.session n) = none := by
        rw [State.served_session]
        by_cases hnamed : named
        · rw [given hnamed, numberCheck_some, if_pos (hholds hnamed)]
        · rw [ungiven hnamed, numberCheck_none, if_pos hopen]
      have put : ∀ hostCap, s.served.setHostCap n hostCap =
          { s.served with records := s.records.set n { s.session n with hostCap := hostCap } } := fun hostCap => by
        rw [State.setHostCap, State.setSession, State.served_session, State.served_records]
      refine ⟨fun hc => answered ?_, fun hc hf => answered ?_, fun hc hf => answered ?_⟩
      · rw [sessionCap_absent hn hr hk (if_neg hc), put]
      · rw [sessionCap_carried hn hr hk (if_pos hc) (by rwa [State.served_entry]), put]
      · rw [sessionCap_clamped hn hr hk (if_pos hc) (by rwa [State.served_entry]), put, State.served_entry]
        rfl

/-! ## CYCLE_START -/

theorem execCycleStart_taken (hrun : s.supply.runState = .running) (hidle : s.bus.phase = .idle) :
    exec .cycleStart s = .next (startCycle s) :=
  congrArg Host.Outcome.next (if_pos ⟨hrun, hidle⟩)

/-- The state in which the first turn of a cycle falls due (R150, R155). -/
def State.cycleBegun (s : State) : State :=
  let now := max s.timebase s.bus.nextCycle
  let u : State := { s with
    timebase := now
    bus := { s.bus with
      cyclePace := s.bus.pace
      nextCycle := now + (if s.bus.pace = .fast then s.settings.fastPeriod else 1000) } }
  let v : State := if s.bus.pace = .fast then allocationRound u else u
  { v with pedestals := v.pedestals.map fun e => { e with missMark := false } }

theorem scanPeriod_eq (s : State) : s.scanPeriod = if s.bus.pace = .fast then s.settings.fastPeriod else 1000 := by
  unfold State.scanPeriod
  cases s.bus.pace <;> rfl

theorem startCycle_eq (s : State) : startCycle s = nextTurn Ped.all s.cycleBegun := by
  unfold startCycle State.cycleBegun
  simp only [forPedestals_setEntry fun e => { e with missMark := false }, scanPeriod_eq]
  rfl

theorem cycleBegun_enrolled (s : State) (n : Ped) : (s.cycleBegun.entry n).enrolled = (s.entry n).enrolled := by
  have cleared : ∀ v : State, v.pedestals = s.pedestals →
      (State.entry { v with pedestals := v.pedestals.map fun e => { e with missMark := false } } n).enrolled
        = (s.entry n).enrolled := fun v hv => by
    simp [State.entry, hv, Vector.get]
  unfold State.cycleBegun
  refine cleared _ ?_
  split
  · exact allocationRound_pedestals _
  · rfl

/-- Settles O37: the first turn is the lowest enrolled pedestal's, since the round changes no entry. -/
theorem cycleStartsWithTheLowestPedestal : Obligations.CycleStartsWithTheLowestPedestal := by
  intro s hrun hidle
  refine ⟨fun n hn => ?_, fun hnone => ?_⟩
  all_goals rw [execCycleStart_taken hrun hidle, startCycle_eq]
  · have first : s.cycleBegun.NextTurn 0 n := by
      obtain ⟨_, enrolled, lower⟩ := hn
      exact ⟨Nat.zero_le _, (cycleBegun_enrolled s n).trans enrolled, fun m h0 hm => (cycleBegun_enrolled s m).trans (lower m h0 hm)⟩
    exact congrArg Host.Outcome.next (nextTurn_enrolled s.cycleBegun 0 n first Ped.all (by simp))
  · exact congrArg Host.Outcome.next (nextTurn_none s.cycleBegun Ped.all fun m _ => (cycleBegun_enrolled s m).trans (hnone m))

end Sys2Proof.Machine
end

section
/-! SUPPORT. O54: the books of the Settlement Queue. The numbers of the open sessions and of the queued records, the slots and the
counter, apart from the state that holds them (R116, R120, R121). -/

namespace Sys2Proof.Machine

/-! ## Numbers that are assigned (R120) -/

theorem isNumber_numberAfter {k : Nat} (h : isNumber k) : isNumber (numberAfter k) := by
  unfold numberAfter
  split
  · exact ⟨le_rfl, by omega⟩
  · exact ⟨by omega, by omega⟩

/-- The number that stands `i` places after `k`, wrapping from 65,535 to 1. -/
theorem iterate_numberAfter {k : Nat} (h : isNumber k) (i : Nat) : numberAfter^[i] k = (k - 1 + i) % 65535 + 1 := by
  obtain ⟨hlow, hhigh⟩ := h
  induction i with
  | zero => rw [Function.iterate_zero, id]; omega
  | succ i ih =>
    rw [Function.iterate_succ_apply', ih]
    unfold numberAfter
    split <;> omega

theorem isNumber_firstNotHeld (held : List Nat) (skips : Nat) {k : Nat} (h : isNumber k) :
    isNumber (firstNotHeld held skips k) := by
  induction skips generalizing k with
  | zero => exact h
  | succ skips ih =>
    unfold firstNotHeld
    split
    · exact ih (isNumber_numberAfter h)
    · exact h

/-- A search that ends at a held number has passed held numbers alone. -/
theorem held_of_firstNotHeld {held : List Nat} {skips k : Nat} (h : firstNotHeld held skips k ∈ held) :
    ∀ i ≤ skips, numberAfter^[i] k ∈ held := by
  induction skips generalizing k with
  | zero =>
    intro i hi
    obtain rfl := Nat.le_zero.1 hi
    exact h
  | succ skips ih =>
    by_cases hk : k ∈ held
    · rw [firstNotHeld, if_pos hk] at h
      intro i hi
      cases i with
      | zero => exact hk
      | succ i => exact ih h i (Nat.le_of_succ_le_succ hi)
    · rw [firstNotHeld, if_neg hk] at h
      exact absurd h hk

/-- With fewer numbers held than there are, the search ends at a number that is not held: it would otherwise have passed more
different numbers than are held. -/
theorem firstNotHeld_not_mem {held : List Nat} {k : Nat} (h : isNumber k) (hlength : held.length < 65535) :
    firstNotHeld held held.length k ∉ held := by
  intro hmem
  have passed := held_of_firstNotHeld hmem
  have apart : ((List.range (held.length + 1)).map fun i => numberAfter^[i] k).Nodup := by
    refine List.Nodup.map_on (fun i hi j hj e => ?_) List.nodup_range
    rw [List.mem_range] at hi hj
    rw [iterate_numberAfter h, iterate_numberAfter h] at e
    omega
  have subset : ((List.range (held.length + 1)).map fun i => numberAfter^[i] k) ⊆ held := fun x hx => by
    obtain ⟨i, hi, rfl⟩ := List.mem_map.1 hx
    exact passed i (Nat.le_of_lt_succ (List.mem_range.1 hi))
  have := (apart.subperm subset).length_le
  rw [List.length_map, List.length_range] at this
  omega

/-! ## The books -/

/-- Slots, the numbers of the open sessions, those of the queued records, and the counter agree (R116, R120, R121). -/
structure Books (reserved : Nat) (running queued : List Nat) (counter : Nat) : Prop where
  slots : reserved = running.length
  within : reserved + queued.length ≤ Config.slotLimit
  apart : (running ++ queued).Nodup
  inRange : ∀ k ∈ running ++ queued, isNumber k
  counter : isNumber counter

namespace Books

variable {reserved counter k : Nat} {running running' queued queued' : List Nat}

/-- The order of the open sessions has no part in the books. -/
theorem perm (h : Books reserved running queued counter) (p : running.Perm running') : Books reserved running' queued counter :=
  have p' := p.append_right queued
  ⟨h.slots.trans p.length_eq, h.within, p'.nodup_iff.1 h.apart, fun k hk => h.inRange k (p'.mem_iff.2 hk), h.counter⟩

/-- A session is opened: a slot and the next number that is not held (R116, R120). -/
theorem opened (h : Books reserved running queued counter) (room : reserved + queued.length < Config.slotLimit)
    (hk : k = firstNotHeld (running ++ queued) (running ++ queued).length counter) :
    Books (reserved + 1) (k :: running) queued (numberAfter k) := by
  have few : (running ++ queued).length < 65535 := by
    have hslots := h.slots
    unfold Config.slotLimit at room
    rw [List.length_append]
    omega
  have hnumber : isNumber k := hk ▸ isNumber_firstNotHeld _ _ h.counter
  refine ⟨by rw [h.slots, List.length_cons], by omega, ?_, ?_, isNumber_numberAfter hnumber⟩
  · rw [List.cons_append, List.nodup_cons]
    exact ⟨hk ▸ firstNotHeld_not_mem h.counter few, h.apart⟩
  · rintro j hj
    rw [List.cons_append, List.mem_cons] at hj
    exact hj.elim (fun e => e ▸ hnumber) (h.inRange j)

/-- A session is cancelled: its slot and its number are given up (R117). -/
theorem cancelled (h : Books reserved (k :: running) queued counter) : Books (reserved - 1) running queued counter := by
  obtain ⟨slots, within, apart, inRange, hcounter⟩ := h
  rw [List.cons_append, List.nodup_cons] at apart
  exact ⟨by rw [slots, List.length_cons, Nat.add_sub_cancel], by omega, apart.2, fun j hj => inRange j (.tail _ hj), hcounter⟩

/-- A session is closed: its record takes the place of its slot, under its number (R118, R121). -/
theorem closed (h : Books reserved (k :: running) queued counter) :
    Books (reserved - 1) running (queued ++ [k]) counter := by
  obtain ⟨slots, within, apart, inRange, hcounter⟩ := h
  have moved : (k :: running ++ queued).Perm (running ++ (queued ++ [k])) := by
    rw [← List.append_assoc]
    exact (List.perm_append_singleton k (running ++ queued)).symm
  rw [List.length_cons] at slots
  refine ⟨by omega, ?_, moved.nodup_iff.1 apart, fun j hj => inRange j (moved.mem_iff.2 hj), hcounter⟩
  rw [List.length_append, List.length_singleton]
  omega

/-- Records leave the queue (R124, R125, R128). -/
theorem thinned (h : Books reserved running queued counter) (hq : queued'.Sublist queued) :
    Books reserved running queued' counter := by
  have sublist : (running ++ queued').Sublist (running ++ queued) := hq.append_left running
  obtain ⟨slots, within, apart, inRange, hcounter⟩ := h
  exact ⟨slots, by have := hq.length_le; omega, apart.sublist sublist, fun j hj => inRange j (sublist.subset hj), hcounter⟩

/-- A start gives up every slot and every session (R32, R129). -/
theorem started (h : Books reserved running queued counter) : Books 0 [] queued counter := by
  have sublist : ([] ++ queued).Sublist (running ++ queued) := List.sublist_append_right _ _
  obtain ⟨slots, within, apart, inRange, hcounter⟩ := h
  exact ⟨rfl, by omega, apart.sublist sublist, fun j hj => inRange j (sublist.subset hj), hcounter⟩

/-- The books of a COLD start (R128). -/
theorem cold : Books 0 [] [] 1 := ⟨rfl, by decide, List.nodup_nil, fun k hk => absurd hk List.not_mem_nil, by decide⟩

end Books

end Sys2Proof.Machine
end

section
/-! SUPPORT. O54: the books of a state, and what one record's change, a token, a cancel, a close and a start make of them. -/

namespace Sys2Proof.Machine

variable {s t : State} {n : Ped}

/-! ## Records -/

theorem SessionState.not_granted_of_not_open {st : SessionState} (h : st.isOpen = false) : st.granted = false := by
  cases hg : st.granted with
  | false => rfl
  | true => exact absurd ((SessionState.isOpen_iff st).2 (.inr hg)) (by simp [h])

/-- A record holds an opening in the open states alone and a grant in the granted ones alone (R11, R12). -/
structure Session.Held (r : Session) : Prop where
  opening : r.opening.isSome = r.state.isOpen
  grant : r.grant.isSome = r.state.granted

/-- A record holds the session number that it held, and what its state asks. -/
structure Session.BookedAs (r r' : Session) : Prop where
  held : r'.Held
  number : r'.number = r.number

theorem Session.number_of_not_open {r : Session} (hr : r.state.isOpen = false) : r.number = none := by
  unfold Session.number
  rw [hr]
  rfl

/-- An open session's number is that of its opening. -/
theorem Session.number_of_open {r : Session} {o : Opening} (hr : r.state.isOpen = true) (ho : r.opening = some o) :
    r.number = some o.number := by
  unfold Session.number
  rw [hr, ho]
  rfl

/-- A record without a session that stays without one. -/
theorem Session.BookedAs.of_not_open {r r' : Session} (hr : r.state.isOpen = false) (hr' : r'.state.isOpen = false)
    (ho : r'.opening = none) (hg : r'.grant = none) : r.BookedAs r' := by
  have hgranted := SessionState.not_granted_of_not_open hr'
  exact ⟨⟨by rw [ho, hr']; rfl, by rw [hg, hgranted]; rfl⟩,
    by rw [Session.number_of_not_open hr, Session.number_of_not_open hr']⟩

namespace Session.Held

variable {r r' : Session}

protected theorem rfl (h : r.Held) : r.BookedAs r := ⟨h, rfl⟩

/-- A record that stays in its state, with its opening and grant. -/
theorem same (h : r.Held) (hs : r'.state = r.state) (ho : r'.opening = r.opening) (hg : r'.grant = r.grant) : r.BookedAs r' :=
  ⟨⟨by rw [ho, hs, h.opening], by rw [hg, hs, h.grant]⟩, by unfold Session.number; rw [ho, hs]⟩

/-- An open session that moves to a granted state with a grant. -/
theorem moved (h : r.Held) (hr : r.state.isOpen = true) (hr' : r'.state.granted = true) (ho : r'.opening = r.opening)
    (hg : r'.grant.isSome = true) : r.BookedAs r' := by
  have hopen := (SessionState.isOpen_iff _).2 (.inr hr')
  exact ⟨⟨by rw [ho, hopen, h.opening, hr], by rw [hg, hr']⟩, by unfold Session.number; rw [ho, hopen, hr]⟩

theorem exists_opening (h : r.Held) (hr : r.state.isOpen = true) : ∃ o, r.opening = some o :=
  Option.isSome_iff_exists.1 (h.opening.trans hr)

theorem exists_grant (h : r.Held) (hr : r.state.granted = true) : ∃ g, r.grant = some g :=
  Option.isSome_iff_exists.1 (h.grant.trans hr)

/-- A record in no open state holds neither opening nor grant. -/
theorem empty (h : r.Held) (hr : r.state.isOpen = false) : r.opening = none ∧ r.grant = none := by
  have hopening := h.opening.trans hr
  have hgrant := h.grant.trans (SessionState.not_granted_of_not_open hr)
  exact ⟨by simpa using hopening, by simpa using hgrant⟩

theorem cancelled (d : Option RefusalDisplay) : Session.Held { r.toCancelled with refusal := d } := by
  unfold Session.toCancelled
  by_cases hp : r.hasPlug = .yes <;> simp only [hp, if_true, if_false] <;> exact ⟨rfl, rfl⟩

theorem toClosed (r : Session) : r.toClosed.Held := by
  unfold Session.toClosed
  split <;> exact ⟨rfl, rfl⟩

end Session.Held

theorem Session.toCancelled_not_open (r : Session) : r.toCancelled.state.isOpen = false := by
  unfold Session.toCancelled
  by_cases hp : r.hasPlug = .yes <;> simp [hp, SessionState.isOpen]

/-! ## The numbers of a state -/

/-- The numbers of the open sessions, in pedestal order. -/
def State.sessionNumbers (s : State) : List Nat := Ped.all.filterMap fun n => (s.session n).number

/-- The numbers of the open sessions at the other pedestals. -/
def State.numbersBeside (n : Ped) (s : State) : List Nat := (Ped.all.erase n).filterMap fun m => (s.session m).number

theorem State.heldNumbers_eq (s : State) : s.heldNumbers = s.sessionNumbers ++ s.settlement.queue.map (·.number) := by
  unfold State.heldNumbers State.sessionNumbers
  rw [s.records_toList, List.filterMap_map]
  rfl

theorem State.sessionNumbers_perm (n : Ped) (s : State) :
    s.sessionNumbers.Perm ((n :: Ped.all.erase n).filterMap fun m => (s.session m).number) :=
  (List.perm_cons_erase (mem_all n)).filterMap _

theorem State.sessionNumbers_of_some {k : Nat} (h : (s.session n).number = some k) :
    s.sessionNumbers.Perm (k :: s.numbersBeside n) := by
  have p := s.sessionNumbers_perm n
  rwa [List.filterMap_cons_some (f := fun m => (s.session m).number) h] at p

theorem State.sessionNumbers_of_none (h : (s.session n).number = none) : s.sessionNumbers.Perm (s.numbersBeside n) := by
  have p := s.sessionNumbers_perm n
  rwa [List.filterMap_cons_none (f := fun m => (s.session m).number) h] at p

theorem State.numbersBeside_congr (others : ∀ m, m ≠ n → t.session m = s.session m) :
    t.numbersBeside n = s.numbersBeside n := by
  refine List.filterMap_congr fun m hm => ?_
  rw [others m ((List.nodup_finRange 16).mem_erase_iff.1 hm).1]

/-! ## The books of a state -/

/-- Every record holds what its state asks, and the books agree. -/
structure State.Booked (s : State) : Prop where
  held : ∀ n, (s.session n).Held
  books : Books s.settlement.reserved s.sessionNumbers (s.settlement.queue.map (·.number)) s.settlement.counter

theorem State.openCount_eq_length (h : ∀ n, (s.session n).Held) : s.openCount = s.sessionNumbers.length := by
  rw [openCount_eq, State.sessionNumbers, List.length_filterMap_eq_countP]
  refine List.countP_congr fun n _ => ?_
  have hopening := (h n).opening
  unfold Session.number
  cases hs : (s.session n).state.isOpen <;> simp_all

/-- The two laws of slots and numbers are the books. -/
theorem State.slotLaw_and_numbersLaw_iff (h : ∀ n, (s.session n).Held) : s.SlotLaw ∧ s.NumbersLaw ↔ s.Booked := by
  unfold State.SlotLaw State.NumbersLaw
  rw [State.openCount_eq_length h, s.heldNumbers_eq]
  constructor
  · rintro ⟨⟨slots, within⟩, apart, inRange, counter⟩
    exact ⟨h, ⟨slots, by rwa [List.length_map], apart, inRange, counter⟩⟩
  · rintro ⟨-, ⟨slots, within, apart, inRange, counter⟩⟩
    rw [List.length_map] at within
    exact ⟨⟨slots, within⟩, apart, inRange, counter⟩

theorem State.RecordsShaped.held (h : s.RecordsShaped) (n : Ped) : (s.session n).Held := by
  obtain ⟨⟨opening, -, grant, -⟩, -⟩ := h n
  exact ⟨opening, grant⟩

namespace State.Booked

/-- Every record stays booked as it was, and the Settlement Queue stays. -/
theorem carried (h : s.Booked) (records : ∀ n, (s.session n).BookedAs (t.session n))
    (settlement : t.settlement = s.settlement) : t.Booked := by
  have numbers : t.sessionNumbers = s.sessionNumbers := List.filterMap_congr fun n _ => (records n).number
  refine ⟨fun n => (records n).held, ?_⟩
  rw [numbers, settlement]
  exact h.books

/-- What leaves the records and the Settlement Queue alone. -/
theorem of_frame (h : s.Booked) (records : t.records = s.records) (settlement : t.settlement = s.settlement) : t.Booked := by
  refine h.carried (fun n => ?_) settlement
  have same : t.session n = s.session n := by unfold State.session; rw [records]
  rw [same]
  exact (h.held n).rfl

/-- One record stays booked as it was, and the others and the Settlement Queue stay. -/
theorem update (h : s.Booked) (others : ∀ m, m ≠ n → t.session m = s.session m) (hn : (s.session n).BookedAs (t.session n))
    (settlement : t.settlement = s.settlement) : t.Booked := by
  refine h.carried (fun m => ?_) settlement
  by_cases hm : m = n
  · subst hm
    exact hn
  · rw [others m hm]
    exact (h.held m).rfl

theorem setSession (h : s.Booked) {r : Session} (hr : (s.session n).BookedAs r) : (s.setSession n r).Booked :=
  h.update (n := n) (fun _ hm => State.session_setSession_ne s hm r) (by rwa [State.session_setSession_self]) rfl

theorem putSession (h : s.Booked) {r : Session} (hr : (s.session n).BookedAs r) : (putSession n r s).Booked :=
  h.update (n := n) (fun _ hm => putSession_session_ne hm r) (by rwa [putSession_session_self]) (putSession_settlement n r s)

theorem setAlloc (h : s.Booked) (n : Ped) (a : Alloc) : (s.setAlloc n a).Booked :=
  h.setSession ((h.held n).same rfl rfl rfl)

theorem setEntry (h : s.Booked) (n : Ped) (e : PedestalEntry) : (s.setEntry n e).Booked := h.of_frame rfl rfl

theorem latchPed (h : s.Booked) (n : Ped) (k : PedKind) (d : CondData) : (latchPed n k d s).Booked := h.of_frame rfl rfl

/-- What is done only in some states keeps the books if the deed does. -/
theorem ite {p : Prop} [Decidable p] (h : s.Booked) (ht : t.Booked) : (if p then t else s).Booked := by
  split
  · exact ht
  · exact h

/-- Sixteen operations, one for each pedestal. -/
theorem forPedestals {f : Ped → State → State} (hf : ∀ (n : Ped) (u : State), u.Booked → (f n u).Booked) (h : s.Booked) :
    (forPedestals f s).Booked :=
  forPedestals_induction h hf

/-- The record of one pedestal, its session gone, beside the others as they were. -/
theorem heldBeside (h : s.Booked) (others : ∀ m, m ≠ n → t.session m = s.session m) (hn : (t.session n).Held) (m : Ped) :
    (t.session m).Held := by
  by_cases hm : m = n
  · subst hm
    exact hn
  · rw [others m hm]
    exact h.held m

/-- Records leave the queue, and the others keep their numbers (R124, R125). -/
theorem thinned (h : s.Booked) {queue : List SettlementRecord}
    (hq : (queue.map (·.number)).Sublist (s.settlement.queue.map (·.number))) :
    (s.withSettlement { s.settlement with queue := queue }).Booked :=
  ⟨h.held, h.books.thinned hq⟩

end State.Booked

/-! ## Cancel and close (R13, R26, R117, R118) -/

theorem cancelSession_booked (h : s.Booked) (hs : (s.session n).state = .authorizing) (reason : Byte) :
    (cancelSession n reason s).Booked := by
  have hopen : (s.session n).state.isOpen = true := by rw [hs]; rfl
  have others : ∀ m, m ≠ n → (cancelSession n reason s).session m = s.session m :=
    fun _ hm => cancelSession_session_ne hm reason
  have self := cancelSession_session_self n reason s
  obtain ⟨o, ho⟩ := (h.held n).exists_opening hopen
  have before := State.sessionNumbers_of_some (Session.number_of_open hopen ho)
  have after : (cancelSession n reason s).sessionNumbers.Perm (s.numbersBeside n) := by
    rw [← State.numbersBeside_congr others]
    refine State.sessionNumbers_of_none (Session.number_of_not_open ?_)
    rw [self]
    exact Session.toCancelled_not_open _
  refine ⟨h.heldBeside others (by rw [self]; exact .cancelled _), ?_⟩
  rw [cancelSession_settlement]
  exact (h.books.perm before).cancelled.perm after.symm

theorem closeSession_booked (h : s.Booked) (hs : (s.session n).state.granted = true) (why : EndReason) :
    (closeSession n why s).Booked := by
  have hopen := (SessionState.isOpen_iff _).2 (.inr hs)
  have others : ∀ m, m ≠ n → (closeSession n why s).session m = s.session m := fun _ hm => closeSession_session_ne hm why
  obtain ⟨o, ho⟩ := (h.held n).exists_opening hopen
  obtain ⟨g, hg⟩ := (h.held n).exists_grant hs
  have before := State.sessionNumbers_of_some (Session.number_of_open hopen ho)
  have after : (closeSession n why s).sessionNumbers.Perm (s.numbersBeside n) := by
    rw [← State.numbersBeside_congr others]
    exact State.sessionNumbers_of_none (Session.number_of_not_open (closeSession_not_open n why s))
  obtain ⟨record, hrecord, hnumber⟩ : ∃ record, closingRecord n why s = some record ∧ record.number = o.number := by
    unfold closingRecord
    rw [ho, hg]
    exact ⟨_, rfl, rfl⟩
  refine ⟨h.heldBeside others (by rw [closeSession_session_self]; exact .toClosed _), ?_⟩
  rw [closeSession_settlement hrecord, List.map_append, List.map_singleton, hnumber]
  exact (h.books.perm before).closed.perm after.symm

/-! ## Starts (R32, R128, R129) -/

/-- A start leaves every record FREE and no slot reserved. -/
theorem State.Booked.of_start (records : t.records = Vector.replicate 16 {}) {settlement : Settlement}
    (books : Books settlement.reserved [] (settlement.queue.map (·.number)) settlement.counter)
    (hsettlement : t.settlement = settlement) : t.Booked := by
  have free : ∀ n, t.session n = {} := fun n => by
    unfold State.session
    rw [records]
    simp [Vector.get]
  have numbers : t.sessionNumbers = [] := List.filterMap_eq_nil_iff.2 fun n _ => by rw [free n]; rfl
  refine ⟨fun n => by rw [free n]; exact ⟨rfl, rfl⟩, ?_⟩
  rw [numbers, hsettlement]
  exact books

/-- The queue that a start keeps has its numbers (R129). -/
theorem Settlement.kept_numbers (q : Settlement) : q.kept.queue.map (·.number) = q.queue.map (·.number) := by
  unfold Settlement.kept undeliver
  rw [List.map_map]
  rfl

theorem State.Booked.kept (h : s.Booked) :
    Books s.settlement.kept.reserved [] (s.settlement.kept.queue.map (·.number)) s.settlement.kept.counter := by
  rw [Settlement.kept_numbers]
  exact h.books.started

end Sys2Proof.Machine
end

section
/-! SUPPORT. O54: the operations on one session keep the books: ENDING, stops, grants, tokens and the fields of a good reply. -/

namespace Sys2Proof.Machine

variable {s t : State} {n : Ped}

/-! ## Stops -/

theorem refuseToken_booked (h : s.Booked) (n : Ped) (reason : Byte) : (refuseToken n reason s).Booked :=
  (h.latchPed n .tokenRefused (.reason reason)).setSession ((h.held n).same rfl rfl rfl)

/-- A record in a granted state that moves to another one with its opening and grant. -/
theorem Session.Held.stays_granted {r r' : Session} (h : r.Held) (hr : r.state.granted = true) (hr' : r'.state.granted = true)
    (ho : r'.opening = r.opening) (hg : r'.grant = r.grant) : r.BookedAs r' :=
  h.moved ((SessionState.isOpen_iff _).2 (.inr hr)) hr' ho (by rw [hg, h.grant, hr])

theorem enterEnding_booked (h : s.Booked) (hs : (s.session n).state.granted = true) (why : EndReason) :
    (enterEnding n why s).Booked :=
  h.putSession ((h.held n).stays_granted hs rfl rfl rfl)

theorem stopSession_booked (h : s.Booked) (n : Ped) (why : EndReason) : (stopSession n why s).Booked := by
  unfold stopSession
  cases hs : (s.session n).state <;> simp only []
  case authorized | probing => exact closeSession_booked h (by rw [hs]; rfl) why
  case dispensing | suspended | occupying => exact enterEnding_booked h (by rw [hs]; rfl) why
  all_goals exact h

theorem haltSession_booked (why : EndReason) (n : Ped) (s : State) (h : s.Booked) : (haltSession why n s).Booked := by
  unfold haltSession
  cases hs : (s.session n).state <;> simp only []
  case authorizing => exact cancelSession_booked h hs _
  case free | plugged | released => exact h
  all_goals exact closeSession_booked h (by rw [hs]; rfl) why

theorem loseSession_booked (h : s.Booked) (n : Ped) : (loseSession n s).Booked := by
  have closed : ∀ r : Session, (s.session n).state.granted = true → r.state = (s.session n).state →
      r.opening = (s.session n).opening → r.grant = (s.session n).grant →
      (closeSession n .pedestalLost (s.setSession n r)).Booked := fun r hgranted hs ho hg =>
    closeSession_booked (h.setSession ((h.held n).same hs ho hg)) (by rwa [State.session_setSession_self, hs]) _
  unfold loseSession
  simp only []
  split
  case h_1 hs => exact cancelSession_booked h hs _
  case h_2 hs => exact closeSession_booked h (by rw [hs]; rfl) _
  case h_3 hs | h_4 hs | h_5 hs | h_6 hs | h_7 hs => exact closed _ (by rw [hs]; rfl) rfl rfl rfl
  all_goals exact h

/-! ## The probe sequence and the grant -/

theorem startAttempt_booked (h : s.Booked) (n : Ped) : (startAttempt n s).Booked :=
  h.setSession ((h.held n).same rfl rfl rfl)

theorem enterProbing_booked (h : s.Booked) (hs : (s.session n).state.granted = true) : (enterProbing n s).Booked := by
  unfold enterProbing
  refine startAttempt_booked (h.putSession ?_) n
  exact (h.held n).stays_granted hs rfl rfl rfl

theorem attemptFailed_booked (h : s.Booked) (hs : (s.session n).state = .probing) : (attemptFailed n s).Booked := by
  have cleared : (s.setSession n { s.session n with probeDeadline := none }).Booked :=
    h.setSession ((h.held n).same rfl rfl rfl)
  unfold attemptFailed
  simp only []
  split
  · exact startAttempt_booked cleared n
  · exact closeSession_booked cleared (by rw [State.session_setSession_self]; simp only [hs]; rfl) _

theorem energize_booked (h : s.Booked) (hs : (s.session n).state = .probing) (count : Nat) : (energize n count s).Booked :=
  (h.latchPed n .energized .none).putSession ((h.held n).stays_granted (by rw [hs]; rfl) rfl rfl rfl)

theorem takeGrant_booked (h : s.Booked) (hs : (s.session n).state = .authorizing) (g : Grant) : (takeGrant n g s).Booked := by
  have hfree : (s.session n).state ≠ .free := by simp [hs]
  have taken : ∀ r : Session, r.state.granted = true → r.opening = (s.session n).opening → r.grant = some g →
      State.Booked { s with records := s.records.set n r } := fun r hr ho hg =>
    h.setSession ((h.held n).moved (by rw [hs]; rfl) hr ho (by rw [hg]; rfl))
  by_cases hp : (s.session n).hasPlug = .yes
  · rw [takeGrant_plugged n g s hfree hp]
    exact taken _ rfl rfl rfl
  · rw [takeGrant_unplugged n g s hfree hp]
    exact taken _ rfl rfl rfl

theorem offerGrant_booked (h : s.Booked) (hs : (s.session n).state = .authorizing) (o : GrantOffer) :
    (offerGrant n o s).Booked := by
  unfold offerGrant
  split
  · exact takeGrant_booked h hs _
  · exact cancelSession_booked h hs _

theorem authExpired_booked (h : s.Booked) (hs : (s.session n).state = .authorizing) : (authExpired n s).Booked := by
  unfold authExpired
  split
  · split
    · exact offerGrant_booked h hs _
    · exact cancelSession_booked h hs _
  · exact cancelSession_booked h hs _

theorem referSession_booked (h : s.Booked) (n : Ped) (o : Opening) : (referSession n o s).Booked := by
  unfold referSession
  refine (h.setSession ?_).latchPed n _ _
  exact (h.held n).same rfl rfl rfl

theorem decideSession_booked (h : s.Booked) (hs : (s.session n).state = .authorizing) (o : Opening) (c : CapturedTerms) :
    (decideSession n o c s).Booked := by
  rcases decideSession_cases n o c s with ⟨reason, e⟩ | ⟨g, e⟩ | e <;> rw [e]
  · exact cancelSession_booked h hs reason
  · exact offerGrant_booked h hs g
  · exact referSession_booked h n o

/-! ## The token -/

/-- A session opened where a slot is free takes the slot and the next number (R11, R116, R120). -/
theorem openedAt_booked (h : s.Booked) (hs : (s.session n).state.isOpen = false) (room : s.settlement.full = false)
    (token : Token) (source : TokenSource) : (s.openedAt n token source).Booked := by
  have self : (s.openedAt n token source).session n
      = (s.session n).openedWith (s.openingOf token source) (s.termsOf token) := get_set_self _ _ _
  have others : ∀ m, m ≠ n → (s.openedAt n token source).session m = s.session m := fun _ hm => get_set_ne _ hm _
  have hgrant : (s.session n).grant = none := ((h.held n).empty hs).2
  have held : ((s.openedAt n token source).session n).Held := by
    rw [self]
    exact ⟨rfl, by simp only [Session.openedWith, hgrant]; rfl⟩
  have before := State.sessionNumbers_of_none (Session.number_of_not_open hs)
  have after : (s.openedAt n token source).sessionNumbers.Perm (s.nextNumber :: s.numbersBeside n) := by
    rw [← State.numbersBeside_congr others]
    exact State.sessionNumbers_of_some (by rw [self]; rfl)
  have free : s.settlement.reserved + (s.settlement.queue.map (·.number)).length < Config.slotLimit := by
    unfold Settlement.full at room
    simpa using room
  have next : s.nextNumber = firstNotHeld (s.sessionNumbers ++ s.settlement.queue.map (·.number))
      (s.sessionNumbers ++ s.settlement.queue.map (·.number)).length s.settlement.counter := by
    unfold State.nextNumber
    rw [s.heldNumbers_eq]
  have slot : (s.openedAt n token source).settlement
      = { s.settlement with reserved := s.settlement.reserved + 1, counter := numberAfter s.nextNumber } :=
    congrArg State.settlement (reserveSlot_slotTaken s).symm
  refine ⟨h.heldBeside others held, ?_⟩
  rw [slot]
  exact (h.books.opened free next).perm ((before.cons _).trans after.symm)

theorem acceptToken_booked (h : s.Booked) (hs : (s.session n).state = .free ∨ (s.session n).state = .plugged)
    (room : s.settlement.full = false) (token : Token) (source : TokenSource) : (acceptToken n token source s).Booked := by
  have hclosed : (s.session n).state.isOpen = false := by rcases hs with hs | hs <;> rw [hs] <;> rfl
  have hsession : (s.openedAt n token source).session n
      = (s.session n).openedWith (s.openingOf token source) (s.termsOf token) := get_set_self _ _ _
  rw [acceptToken_eq n token source s hs]
  exact decideSession_booked (openedAt_booked h hclosed room token source) (by rw [hsession]; rfl) _ _

/-- A token that passes the checks of R39 finds a free slot. -/
theorem acceptanceCheck_room {token : Token} (h : acceptanceCheck n token s = none) : s.settlement.full = false := by
  unfold acceptanceCheck at h
  split at h
  · cases h
  · split at h
    · cases h
    · split at h
      · cases h
      · split at h
        · cases h
        · simpa using ‹¬ s.settlement.full = true›

theorem offerToken_booked (h : s.Booked) (hs : (s.session n).state = .free ∨ (s.session n).state = .plugged)
    (token : Token) (source : TokenSource) : (offerToken n token source s).Booked := by
  unfold offerToken
  split
  · exact refuseToken_booked h n _
  · rename_i hc
    exact acceptToken_booked h hs (acceptanceCheck_room hc) token source

theorem takeToken_booked (h : s.Booked) (n : Ped) (token : Token) (source : TokenSource) :
    (takeToken n token source s).Booked := by
  have again : ∀ t : State, t.Booked → (if (s.session n).opening.any (·.token == token) then t
      else refuseToken n RefusalReason.busyPoint.code s).Booked := fun t ht => (refuseToken_booked h n _).ite ht
  unfold takeToken
  simp only []
  split
  case h_1 hs => exact offerToken_booked h (.inl hs) token source
  case h_2 hs => exact offerToken_booked h (.inr hs) token source
  case h_3 | h_4 => exact again s h
  case h_10 => exact refuseToken_booked h n _
  all_goals exact again _ (stopSession_booked h n _)

theorem quietActivity_booked (h : s.Booked) : (quietActivity s).Booked :=
  h.of_frame (quietActivity_records s) (quietActivity_settlement s)

theorem takePresentation_booked (h : s.Booked) (n : Ped) (p : Presentation) : (takePresentation n p s).Booked := by
  have stored := h.setEntry n { s.entry n with lastPresentation := some p.number }
  unfold takePresentation
  simp only []
  split
  · exact (takeToken_booked (quietActivity_booked stored) n _ _).ite stored
  · exact stored

/-! ## The other fields of a good reply (R5, R153) -/

theorem meterReply_booked (h : s.Booked) (n : Ped) (count : Nat) : (meterReply n count s).Booked := by
  unfold meterReply
  simp only []
  split
  · split
    · split
      · refine h.setSession ((h.held n).same ?_ ?_ ?_) <;>
          (obtain ⟨_, _, e⟩ := Session.accrueDelta_fields s.clock _ _ (s.session n); rw [e])
      · exact h.setSession ((h.held n).same rfl rfl rfl)
    · exact (h.latchPed n .meterJump .none).setSession ((h.held n).same rfl rfl rfl)
  · exact h.setSession ((h.held n).same rfl rfl rfl)

theorem meterSteps_booked (h : s.Booked) (n : Ped) (count : Nat) : (meterSteps n count s).Booked :=
  meterReply_booked (h.setEntry n _) n count

theorem faultSteps_booked (h : s.Booked) (n : Ped) (x : StatusReply) : (sessionFaults n x (tableFaults n x s)).Booked := by
  have table : (tableFaults n x s).Booked := h.of_frame (by rw [tableFaults_eq]) (tableFaults_settlement n x s)
  have stop : ∀ why, (faultStop n why (tableFaults n x s)).Booked := fun why => (stopSession_booked table n why).ite table
  unfold sessionFaults
  simp only []
  split
  · exact stop _
  · exact table.ite (stop _)

theorem reactPlugIn_booked (h : s.Booked) (n : Ped) : (reactPlugIn n s).Booked := by
  unfold reactPlugIn
  split
  case h_1 hs =>
    obtain ⟨ho, hg⟩ := (h.held n).empty (by rw [hs]; rfl)
    exact h.putSession (Session.BookedAs.of_not_open (by rw [hs]; rfl) rfl ho hg)
  case h_2 hs =>
    have hgranted : (s.session n).state.granted = true := by rw [hs]; rfl
    split
    · exact closeSession_booked h hgranted _
    · split
      · exact closeSession_booked h hgranted _
      · exact enterProbing_booked h hgranted
  all_goals exact h

/-- A record without a session is freed (R8, R27). -/
theorem putSession_toFree_booked (h : s.Booked) (hs : (s.session n).state.isOpen = false) :
    (putSession n (s.session n).toFree s).Booked :=
  h.putSession (Session.BookedAs.of_not_open hs rfl rfl rfl)

theorem reactPlugOut_booked (h : s.Booked) (n : Ped) : (reactPlugOut n s).Booked := by
  unfold reactPlugOut
  split
  case h_1 hs | h_2 hs => exact putSession_toFree_booked h (by rw [hs]; rfl)
  case h_3 | h_4 | h_5 | h_6 => exact stopSession_booked h n _
  all_goals exact h

theorem takePlug_booked (h : s.Booked) (n : Ped) (plug : Bool) : (takePlug n plug s).Booked := by
  unfold takePlug
  simp only []
  split
  · have active := quietActivity_booked (h.latchPed n .plugIn .none)
    refine reactPlugIn_booked (active.setSession ?_) n
    exact (active.held n).same rfl rfl rfl
  · split
    · have latched := h.latchPed n .plugOut .none
      refine reactPlugOut_booked (latched.setSession ?_) n
      exact (latched.held n).same rfl rfl rfl
    · split
      · rename_i hs
        exact (putSession_toFree_booked h (by rw [hs]; rfl)).ite (h.setSession ((h.held n).same rfl rfl rfl))
      · exact h

theorem takeProbe_booked (h : s.Booked) (n : Ped) (p : ProbeResult) (count : Nat) : (takeProbe n p count s).Booked := by
  unfold takeProbe
  split
  · rename_i hs
    have hgranted : (s.session n).state.granted = true := by rw [hs]; rfl
    cases p <;> simp only []
    case none => exact h
    case openCircuit => exact attemptFailed_booked h hs
    case short => exact closeSession_booked ((h.setEntry n _).latchPed n .probeFault .none) hgranted _
    case matched => exact (closeSession_booked h hgranted _).ite (energize_booked h hs count)
  · exact h

/-- The vehicle's fields move a record among granted states (R19 to R21). -/
theorem Session.Held.driven {r : Session} (h : r.Held) (x : StatusReply) (now : Point) : r.BookedAs (r.driven x now) := by
  unfold Session.driven
  have moved : r.state.granted = true → ∀ r' : Session, r'.state.granted = true → r'.opening = r.opening →
      r'.grant = r.grant → r.BookedAs r' := fun hr r' => h.stays_granted hr
  cases hs : r.state <;> simp only []
  case dispensing =>
    split
    · exact moved (by rw [hs]; rfl) _ rfl rfl rfl
    · split
      · exact moved (by rw [hs]; rfl) _ rfl rfl rfl
      · exact h.same hs.symm rfl rfl
  case suspended =>
    split
    · exact moved (by rw [hs]; rfl) _ rfl rfl rfl
    · split
      · exact h.rfl
      · exact moved (by rw [hs]; rfl) _ rfl rfl rfl
  case occupying =>
    split
    · exact h.rfl
    · exact moved (by rw [hs]; rfl) _ rfl rfl rfl
  all_goals exact h.rfl

/-- The vehicle's fields and the present power drive the record or close its session in ENDING (R19 to R21, R24). -/
theorem vehicleSteps_booked (h : s.Booked) (n : Ped) (we : Bool) (x : StatusReply) :
    (takePower n we x.power (takeVehicleRequest n x.request x.complete (takeComplete n x.complete s))).Booked := by
  by_cases hw : we = true → (s.session n).state = .ending → 10 ≤ x.power
  · rw [vehicleSteps_eq n we x s hw]
    exact h.setSession ((h.held n).driven x _)
  · have hs : (s.session n).state = .ending := by tauto
    have complete : takeComplete n x.complete s = s := by simp [takeComplete, hs]
    have request : takeVehicleRequest n x.request x.complete s = s := by simp [takeVehicleRequest, hs]
    rw [complete, request]
    exact h.ite (closeSession_booked h (by rw [hs]; rfl) _)

/-- A good reply, field by field in the order of R5. -/
theorem takeReply_booked (h : s.Booked) (n : Ped) (x : StatusReply) : (takeReply n x s).Booked := by
  have plugged := takePlug_booked (faultSteps_booked (meterSteps_booked h n x.meter) n x) n x.plug
  have presented : ∀ u : State, u.Booked →
      (match x.presentation with | some p => takePresentation n p u | none => u).Booked := by
    intro u hu
    cases x.presentation with
    | some p => exact takePresentation_booked hu n p
    | none => exact hu
  exact (vehicleSteps_booked (takeProbe_booked (presented _ plugged) n _ _) n _ x).of_frame (linkSteps_records n _ _)
    (linkSteps_settlement n _ _)

end Sys2Proof.Machine
end

section
/-! SUPPORT. O54: the exchanges and the allocation round of a scan cycle keep the books. -/

namespace Sys2Proof.Machine

variable {s t : State} {n : Ped}

/-! ## Exchanges -/

theorem takeMiss_booked (h : s.Booked) (n : Ped) : (takeMiss n s).Booked := by
  unfold takeMiss
  simp only []
  split
  · exact loseSession_booked ((h.setEntry n _).latchPed n .pedestalLost .none) n
  · exact h.setEntry n _

theorem takeExchange_booked (h : s.Booked) (e : Exchange) (reply : Option StatusReply) :
    (takeExchange e reply s).Booked := by
  unfold takeExchange
  split
  · exact h
  · cases reply with
    | none => exact takeMiss_booked h _
    | some x => exact (takeReply_booked h _ x).ite (meterSteps_booked h _ _)

theorem sendCommand_booked (h : s.Booked) (n : Ped) (b : Bool) : (sendCommand n b s).Booked := by
  have sent : ∀ frame, (s.withBus frame).Booked := fun _ => h.of_frame rfl rfl
  unfold sendCommand
  simp only []
  split
  · refine (sent _).setSession ?_
    exact (h.held n).same rfl rfl rfl
  · exact sent _

theorem nextTurn_booked (h : s.Booked) (l : List Ped) : (nextTurn l s).Booked := by
  unfold nextTurn
  split
  · exact sendCommand_booked h _ _
  · exact h.of_frame rfl rfl

theorem endExchange_booked (h : s.Booked) (e : Exchange) : (endExchange e s).Booked := by
  unfold endExchange
  split
  · exact h.of_frame rfl rfl
  · exact (nextTurn_booked h _).ite (h.of_frame rfl rfl)

theorem takeAlert_booked (h : s.Booked) (reading : Nat) : (takeAlert reading s).Booked := by
  have ended : ∀ t : State, t.Booked → (endCycle t).Booked := fun _ ht => ht.of_frame rfl rfl
  have active := quietActivity_booked h
  unfold takeAlert
  simp only []
  split
  · exact ended s h
  · split
    · exact (ended _ active).ite (sendCommand_booked active _ _)
    · exact ended _ active

/-! ## The allocation round -/

/-- The energy-flow states are granted. -/
theorem SessionState.granted_of_energyFlow {st : SessionState} (h : st.energyFlow = true) : st.granted = true := by
  cases st <;> simp [SessionState.energyFlow, SessionState.granted] at h ⊢

/-- Stage 1: an exhausted record has been in an energy-flow state since the round's start when it enters ENDING (R82). -/
theorem coverStages_booked (h : s.Booked) : (forPedestals (fun n => coverStage (s.coverFigure n) n) s).Booked := by
  refine (forPedestals_induction (s := s) (f := fun n => coverStage (s.coverFigure n) n)
    (P := fun u => u.Booked ∧ ∀ m, s.coverFigure m = some .exhausted → (u.session m).state.energyFlow = true)
    ⟨h, fun m hm => by rw [State.coverFigure_some hm]; rfl⟩ ?_).1
  rintro n u ⟨hu, hflow⟩
  unfold coverStage
  split
  · rename_i hx
    exact ⟨enterEnding_booked hu (SessionState.granted_of_energyFlow (hflow n hx)) _,
      fun m hm => enterEnding_energyFlow _ (hflow m hm)⟩
  · exact ⟨hu, hflow⟩

theorem blockedStage_booked (n : Ped) (s : State) (h : s.Booked) : (blockedStage n s).Booked :=
  h.ite (h.setAlloc n _)

theorem countdownStage_booked (n : Ped) (s : State) (h : s.Booked) : (countdownStage n s).Booked :=
  h.ite ((h.setAlloc n _).ite (h.setAlloc n _))

theorem releaseYielder_booked (n : Ped) (s : State) (h : s.Booked) : (releaseYielder n s).Booked :=
  h.ite (h.setAlloc n _)

theorem prepareRound_booked (h : s.Booked) : (prepareRound s).Booked := by
  have counted := ((coverStages_booked h).forPedestals blockedStage_booked).forPedestals countdownStage_booked
  unfold prepareRound releaseStage
  exact counted.ite (counted.forPedestals releaseYielder_booked)

/-- Allocation fields changed in one record after the other. -/
theorem foldl_setAlloc_booked {α : Type} (p : α → Ped) (a : α → State → Alloc) (l : List α) (h : s.Booked) :
    (l.foldl (fun u x => u.setAlloc (p x) (a x u)) s).Booked := by
  induction l generalizing s with
  | nil => exact h
  | cons x xs ih => exact ih (h.setAlloc (p x) _)

theorem reportRound_booked (h : s.Booked) (budget k p : Nat) : (reportRound budget k p s).Booked := by
  unfold reportRound
  simp only []
  split <;> exact h.of_frame rfl rfl

theorem divideBudget_booked (h : s.Booked) (figure : Ped → Option CoverFigure) : (divideBudget figure s).Booked := by
  unfold divideBudget applyPowered applyParked
  exact reportRound_booked (foldl_setAlloc_booked Candidate.pedestal (fun c u => (u.session c.pedestal).alloc.park) _
    (foldl_setAlloc_booked Prod.fst
      (fun x u => (u.session x.1).alloc.power x.2 _ u.settings.yieldOn u.settings.yieldOff) _ h)) _ _ _

theorem allocationRound_booked (h : s.Booked) : (allocationRound s).Booked :=
  divideBudget_booked (prepareRound_booked h) _

theorem startCycle_booked (h : s.Booked) : (startCycle s).Booked := by
  have placed : ∀ b : Bus, ((s.reach s.bus.nextCycle).withBus b).Booked := fun _ => h.of_frame rfl rfl
  unfold startCycle
  simp only []
  refine nextTurn_booked (State.Booked.forPedestals (fun n u hu => hu.setEntry n _) ?_) _
  split
  · exact allocationRound_booked (placed _)
  · exact placed _

end Sys2Proof.Machine
end

section
/-! SUPPORT. O54: requests, characters, timers, stops and starts keep the books, and so does every step. -/

namespace Sys2Proof.Machine

variable {s t : State} {n : Ped}

/-! ## Requests on sessions -/

theorem dropShare_booked (h : s.Booked) (n : Ped) : (dropShare n s).Booked := h.ite (h.setAlloc n _)

theorem enrol_booked (h : s.Booked) (body : List Byte) : (enrol.act body s).2.Booked := by
  unfold enrol
  simp only []
  split
  · exact h
  · split
    · exact h
    · exact (h.ite (dropShare_booked h _)).setEntry _ _

theorem sessionStop_booked (h : s.Booked) (body : List Byte) : (sessionStop.act body s).2.Booked := by
  unfold sessionStop hostStop
  simp only []
  generalize (if body.length = 3 then some (fieldAt body 1 2) else none) = given
  split
  · exact h
  · split
    · exact h
    · split
      · exact h
      · simp only [done]
        split
        · rename_i hs
          exact cancelSession_booked h hs _
        · exact stopSession_booked h _ _

theorem sessionCap_booked (h : s.Booked) (body : List Byte) : (sessionCap.act body s).2.Booked := by
  have capped : ∀ n cap, (s.setHostCap n cap).Booked := fun n _ => h.setSession ((h.held n).same rfl rfl rfl)
  unfold sessionCap
  simp only []
  split
  · exact h
  · split
    · exact h
    · split
      · exact h
      · split
        · exact capped _ _
        · split <;> exact capped _ _

theorem authDecision_booked (h : s.Booked) (body : List Byte) : (authDecision.act body s).2.Booked := by
  unfold authDecision
  simp only []
  split
  · exact h
  · rename_i n hn
    have hs := State.waiting_authorizing hn
    split
    · exact h
    · split
      · exact h
      · exact cancelSession_booked h hs _
      · split
        · exact h
        · exact offerGrant_booked h hs _

/-! ## Requests on the queue (R122 to R125) -/

/-- A fetch takes a record out of the queue or leaves its number there. -/
theorem fetchOldest_numbers {queue rest : List SettlementRecord} {r : SettlementRecord}
    (h : fetchOldest queue = some (r, rest)) : (rest.map (·.number)).Sublist (queue.map (·.number)) := by
  induction queue generalizing rest with
  | nil => cases h
  | cons x xs ih =>
    rw [fetchOldest] at h
    split at h
    · obtain ⟨rfl, rfl⟩ := Prod.mk.inj (Option.some.inj h)
      by_cases hp : x.posted = true
      · rw [if_pos hp]
        exact List.sublist_cons_self _ _
      · rw [if_neg hp]
        exact List.Sublist.refl _
    · obtain ⟨⟨got, left⟩, hgot, he⟩ := Option.map_eq_some_iff.1 h
      obtain ⟨rfl, rfl⟩ := Prod.mk.inj he
      exact (ih hgot).cons_cons x.number

theorem settleFetch_booked (h : s.Booked) (body : List Byte) : (settleFetch.act body s).2.Booked := by
  unfold settleFetch fetchUnnamed fetchNamed
  simp only []
  split
  · split
    · rename_i hfetched
      exact h.thinned (fetchOldest_numbers hfetched)
    · exact h
  · repeat' split
    all_goals exact h

theorem settleConfirm_booked (h : s.Booked) (body : List Byte) : (settleConfirm.act body s).2.Booked := by
  unfold settleConfirm
  simp only []
  split
  · exact h
  · split
    · exact h
    · split
      · exact h
      · exact h.thinned (List.eraseP_sublist.map _)

/-! ## Restart and the catalogue -/

theorem requestStopAll_booked (h : s.Booked) : (requestStopAll s).Booked :=
  h.of_frame (by rw [requestStopAll_eq]) (requestStopAll_settlement s)

theorem enterRestarting_booked (h : s.Booked) (kind : RestartKind) : (enterRestarting kind s).Booked :=
  (requestStopAll_booked h).of_frame rfl rfl

theorem restart_booked (h : s.Booked) (body : List Byte) : (restart.act body s).2.Booked := by
  unfold restart
  simp only []
  split
  · exact enterRestarting_booked (h.forPedestals (haltSession_booked .hostRestart)) _
  · split
    · exact h
    · exact enterRestarting_booked h _
  · exact h

theorem countersRead_booked (h : s.Booked) (body : List Byte) : (countersRead.act body s).2.Booked := by
  unfold countersRead
  exact h.forPedestals (f := fun n u => u.setEntry n { u.entry n with frameErrors := 0, missMark := false })
    fun n _ hu => hu.setEntry n _

theorem withdraw_booked (h : s.Booked) (body : List Byte) : (withdraw.act body s).2.Booked := by
  have voided : ∀ (n : Ped) (u : State), u.Booked → (voidExchange n u).Booked := by
    intro n u hu
    unfold voidExchange
    split
    · split
      · exact hu.of_frame rfl rfl
      · exact hu
    all_goals exact hu
  unfold withdraw
  simp only []
  split
  · exact h
  · split
    · exact h
    · split
      · exact h
      · exact voided _ _ (h.setEntry _ _)

/-- Every request of the catalogue keeps the books; those named in no lemma above touch neither records nor queue. -/
theorem catalogue_booked {kind : Byte} {q : Request} (hq : catalogue kind = some q) (h : s.Booked) (body : List Byte) :
    (q.act body s).2.Booked := by
  unfold catalogue at hq
  split at hq <;> cases hq
  case h_14 => exact enrol_booked h body
  case h_15 => exact withdraw_booked h body
  case h_18 => exact countersRead_booked h body
  case h_20 => exact sessionStop_booked h body
  case h_21 => exact sessionCap_booked h body
  case h_22 => exact authDecision_booked h body
  case h_24 => exact settleFetch_booked h body
  case h_25 => exact settleConfirm_booked h body
  case h_29 => exact restart_booked h body
  all_goals
    dsimp only [statusRead, parkSet, parkRead, parkOpen, parkClose, clockSet, siteLoad, tariffWrite, tariffRead, tariffClear,
      windowWrite, windowRead, windowClear, unblock, pedestalRead, sessionRead, queryList, conditionsRead, conditionsClear,
      conditionsMask]
    repeat' split
    all_goals exact h.of_frame rfl rfl

/-! ## Frames and characters -/

theorem sendReply_booked (h : s.Booked) (r : Reply) : (sendReply r s).Booked :=
  h.of_frame (by obtain ⟨l, e⟩ := sendReply_eq r s; rw [e]; rfl) (sendReply_settlement r s)

theorem takeFrame_booked (h : s.Booked) (kind tag : Byte) (body : List Byte) :
    (takeFrame kind tag body (catalogue kind) s).Booked := by
  have linked : (linkFrame (s.withLine { s.line with parser := .hunt false })).Booked :=
    h.of_frame (linkFrame_records _) (linkFrame_settlement _)
  unfold takeFrame
  split
  · generalize linkFrame _ = u at linked ⊢
    unfold answerFrame refuseBusy
    split
    · split <;> exact linked.of_frame rfl rfl
    · split
      · exact sendReply_booked linked _
      · split
        · exact sendReply_booked linked _
        · rename_i q hq
          split
          · exact sendReply_booked (catalogue_booked hq linked body) _
          · exact sendReply_booked linked _
  · exact h

theorem badSyncByte_booked (h : s.Booked) (b : Bool) : (badSyncByte b s).Booked := by
  unfold badSyncByte
  split <;> exact h.of_frame rfl rfl

theorem parseByte_booked (h : s.Booked) (b : Byte) : (parseByte b s).Booked := by
  unfold parseByte endFrame
  split
  case h_1 => exact (badSyncByte_booked h _).ite (h.of_frame rfl rfl)
  case h_2 => split <;> exact h.of_frame rfl rfl
  case h_7 =>
    split
    · exact takeFrame_booked h _ _ _
    · exact h.of_frame rfl rfl
  all_goals exact h.of_frame rfl rfl

theorem receive_booked (h : s.Booked) (received : List RxChar) : (receive received s).Booked := by
  have char : ∀ (c : RxChar) (u : State), u.Booked → (receiveChar c u).Booked := by
    intro c u hu
    unfold receiveChar badStop
    split
    · split
      · exact parseByte_booked hu _
      · split
        · exact badSyncByte_booked hu _
        all_goals exact hu.of_frame rfl rfl
    · exact hu
  unfold receive
  induction received generalizing s with
  | nil => exact h
  | cons c cs ih => exact ih (char c s h)

theorem frameSent_booked (h : s.Booked) : (frameSent s).Booked := by
  refine h.of_frame ?_ (frameSent_settlement s)
  unfold frameSent
  split
  · rfl
  · rfl
  · rcases startNotice_cases (s.withLine { s.line with sending := none }) with e | ⟨_, _, _, e⟩ <;> rw [e] <;> rfl

theorem startNotice_booked (h : s.Booked) : (startNotice s).Booked := by
  refine h.of_frame ?_ (startNotice_settlement s)
  rcases startNotice_cases s with e | ⟨_, _, _, e⟩ <;> rw [e]

/-! ## Starts and stops -/

theorem freshStart_booked (kind : StartKind) (cause : StartCause) {q : Settlement} (s : State)
    (books : Books q.reserved [] (q.queue.map (·.number)) q.counter) : (freshStart kind cause q s).Booked :=
  .of_start (latchStart_records _ _ _) books (latchStart_settlement _ _ _)

theorem softStart_booked (h : s.Booked) : (softStart s).Booked :=
  .of_start (latchStart_records _ _ _) h.kept (latchStart_settlement _ _ _)

theorem markerStart_booked (h : s.Booked) (cause : StartCause) : (markerStart cause s).Booked :=
  State.Booked.ite (freshStart_booked _ _ s .cold) (freshStart_booked _ _ s h.kept)

theorem haltDevice_booked (h : s.Booked) : (haltDevice s).Booked := by
  have stopped := requestStopAll_booked (h.forPedestals (haltSession_booked .supplyLoss))
  unfold haltDevice
  generalize requestStopAll _ = u at stopped ⊢
  exact stopped.of_frame rfl rfl

theorem State.Booked.withSupply (h : s.Booked) (u : Supply) : (s.withSupply u).Booked := h.of_frame rfl rfl

theorem losePower_booked (h : s.Booked) : (losePower s).Booked := h.of_frame rfl rfl

/-! ## Timers -/

theorem State.Booked.reach (h : s.Booked) (p : Point) : (s.reach p).Booked := h.of_frame rfl rfl

theorem tickSecond_booked (h : s.Booked) : (tickSecond s).Booked := by
  refine h.carried (fun n => ?_) rfl
  have ticked : (tickSecond s).session n = (s.session n).tickOccupying := Vector.getElem_map _ _
  rw [ticked]
  unfold Session.tickOccupying
  split
  · exact (h.held n).same rfl rfl rfl
  · exact (h.held n).rfl

theorem idleMinuteOf_booked (h : s.Booked) (n : Ped) : (idleMinuteOf n s).Booked := by
  unfold idleMinuteOf Session.chargeIdleMinute
  split
  · split
    · split <;> exact h.setSession ((h.held n).same rfl rfl rfl)
    · exact h
  · exact h

/-! ## Commands and steps -/

/-- Every command keeps the books. -/
theorem exec_booked (i : Instr) (h : s.Booked) : ∃ t, exec i s = .next t ∧ t.Booked := by
  cases i
  case frameDiscarded received | badSyncRun received => exact ⟨_, rfl, receive_booked h received⟩
  case frameGapTimeout received =>
    have received := receive_booked h received
    exact ⟨_, rfl, received.ite (received.of_frame rfl rfl)⟩
  case linkSilenceExpiry | quietTimerExpiry =>
    refine ⟨_, rfl, ?_⟩
    split
    · exact h.ite (h.of_frame rfl rfl)
    · exact h
  case replySent | noticeSent =>
    refine ⟨_, rfl, ?_⟩
    split
    case h_1 => exact frameSent_booked h
    all_goals exact h
  case notice => exact ⟨_, rfl, startNotice_booked h⟩
  case softRestart => exact ⟨_, rfl, h.ite (softStart_booked h)⟩
  case hardRestart => exact ⟨_, rfl, h.ite (freshStart_booked _ _ s h.kept)⟩
  case cycleStart => exact ⟨_, rfl, h.ite (startCycle_booked h)⟩
  case statusReply | exchangeMiss =>
    refine ⟨_, rfl, ?_⟩
    split
    case h_1 => exact endExchange_booked (takeExchange_booked h _ _) _
    all_goals exact h
  case alertSlot =>
    refine ⟨_, rfl, ?_⟩
    split
    case h_1 => exact takeAlert_booked h _
    all_goals exact h
  case authDeadlineExpiry n =>
    refine ⟨_, rfl, ?_⟩
    split
    · rename_i p hp
      exact authExpired_booked (h.reach p) (State.authDeadlineOf_some hp)
    · exact h
  case plugDeadlineExpiry n =>
    refine ⟨_, rfl, ?_⟩
    split
    · rename_i p hp
      exact closeSession_booked (h.reach p) (by rw [State.reach_session, State.plugDeadlineOf_some hp]; rfl) _
    · exact h
  case probeDeadlineExpiry n =>
    refine ⟨_, rfl, ?_⟩
    split
    · rename_i p hp
      exact attemptFailed_booked (h.reach p) (State.probeDeadlineOf_some hp)
    · exact h
  case endingDeadlineExpiry n =>
    refine ⟨_, rfl, ?_⟩
    split
    · rename_i p hp
      exact closeSession_booked (h.reach p) (by rw [State.reach_session, State.endingDeadlineOf_some hp]; rfl) _
    · exact h
  case refusalDisplayExpiry n =>
    refine ⟨_, rfl, ?_⟩
    split
    · refine h.ite ((h.reach _).setSession ?_)
      exact (h.held n).same rfl rfl rfl
    · exact h
  case oneSecondTick => exact ⟨_, rfl, (tickSecond_booked h).ite h⟩
  case suspendLimit n =>
    refine ⟨_, rfl, ?_⟩
    split
    · rename_i hc
      have hs : (s.session n).state = .suspended := by
        have := hc.2
        simp only [State.suspendLimitReached, Bool.and_eq_true, beq_iff_eq] at this
        exact this.1
      exact h.putSession ((h.held n).stays_granted (by rw [hs]; rfl) rfl rfl rfl)
    · exact h
  case idleMinute n => exact ⟨_, rfl, h.ite (idleMinuteOf_booked h n)⟩
  case supplyWarning | reset => exact ⟨_, rfl, ((haltDevice_booked h).ite h).withSupply _⟩
  case supplyFail => exact ⟨_, rfl, ((haltDevice_booked h).withSupply _).ite (losePower_booked h)⟩
  case retentionLoss => exact ⟨_, rfl, h.ite ⟨h.held, h.books⟩⟩
  case powerOn | haltedStart => exact ⟨_, rfl, h.ite (markerStart_booked h _)⟩
  all_goals exact ⟨_, exec_requestFrame rfl s, takeFrame_booked h _ _ _⟩

/-- Every step keeps the books. -/
theorem step_booked (h : s.Booked) (e : step s = .next t) : t.Booked := by
  unfold step at e
  split at e
  · obtain rfl := Host.Outcome.next.inj e
    unfold idle
    split
    · exact h
    · exact h.of_frame rfl rfl
  · rename_i c rest _
    have taken : State.Booked { s with pending := rest } := h.of_frame rfl rfl
    obtain ⟨u, hu, booked⟩ := exec_booked c taken
    obtain rfl := Host.Outcome.next.inj (hu.symm.trans e)
    exact booked

/-- Settles O54: the two laws are the books of the queue, and every operation that moves a slot or a number keeps them. -/
theorem stepsKeepSlotsAndNumbers : Obligations.StepsKeepSlotsAndNumbers := by
  intro s t shaped slots numbers e
  have before := (State.slotLaw_and_numbersLaw_iff shaped.held).1 ⟨slots, numbers⟩
  have after := step_booked before e
  exact (State.slotLaw_and_numbersLaw_iff after.held).2 after

end Sys2Proof.Machine
end

section
/-! SUPPORT. O24: SETTLE-FETCH and SETTLE-CONFIRM row by row, and the bytes of a settlement record (R122 to R125, section 12.2). -/

namespace Sys2Proof.Machine

variable {s : State} {body : List Byte} {queue older newer : List SettlementRecord} {r : SettlementRecord}

/-! ## The bytes of a record (section 12.2) -/

theorem windowIndexByte_eq (w : Option (Fin 12)) : windowIndexByte w = bytesOf 1 (w.elim 0xFF (·.val)) := by cases w <;> rfl

theorem TokenSource.code_eq (x : TokenSource) : x.code = if x = .vehicle then 1 else 0 := by cases x <;> rfl

/-- The reason byte of a record is the number of its end reason (section 12.3). -/
theorem EndReason.byte_eq (x : EndReason) : [x.code] = bytesOf 1 (match x with
    | .userStop => 0x01 | .hostStop => 0x02 | .vehicleUnplug => 0x03 | .noVehicle => 0x04 | .cableOpen => 0x05
    | .cableShort => 0x06 | .cableLong => 0x07 | .estop => 0x08 | .pedestalFault => 0x09 | .coverExhausted => 0x0A
    | .pedestalLost => 0x0B | .supplyLoss => 0x0C | .hostRestart => 0x0D) := by
  cases x <;> rfl

/-- A record with `m` band entries travels in `77 + 5m` bytes. -/
theorem SettlementRecord.length_bytes (r : SettlementRecord) : r.bytes.length = 77 + 5 * r.bandList.length := by
  have bands : (r.bandList.flatMap BandEntry.bytes).length = 5 * r.bandList.length := by
    simp [List.length_flatMap, BandEntry.bytes, mul_comm]
  unfold SettlementRecord.bytes
  rw [List.length_append, bands, yesNoByte_eq]
  simp

/-! ## The fetch without a number (R122, R124) -/

theorem pendingCount_append (a b : List SettlementRecord) : pendingCount (a ++ b) = pendingCount a + pendingCount b :=
  List.countP_append

theorem pendingCount_delivered (h : ∀ q ∈ queue, q.delivery = .delivered) : pendingCount queue = 0 :=
  List.countP_eq_zero.2 fun q hq => by simp [h q hq]

/-- What a first fetch leaves of the records after the one fetched has as many PENDING ones as they had. -/
theorem pendingCount_fetched (ho : ∀ q ∈ older, q.delivery = .delivered) (r : SettlementRecord) :
    pendingCount (older ++ (if r.posted then newer else { r with delivery := .delivered } :: newer)) = pendingCount newer := by
  rw [pendingCount_append, pendingCount_delivered ho, Nat.zero_add]
  split
  · rfl
  · exact List.countP_cons_of_neg (by simp)

theorem fetchUnnamed_empty (h : ∀ q ∈ s.settlement.queue, q.delivery = .delivered) :
    fetchUnnamed s = (⟨.empty, []⟩, s) := by
  unfold fetchUnnamed
  rw [fetchOldest_none _ h]

theorem fetchUnnamed_pending (hq : s.settlement.queue = older ++ r :: newer) (ho : ∀ q ∈ older, q.delivery = .delivered)
    (hr : r.delivery = .pending) :
    fetchUnnamed s = (⟨.done, bytesOf 1 (pendingCount newer) ++ r.bytes⟩, { s with settlement := { s.settlement with
      queue := older ++ (if r.posted then newer else { r with delivery := .delivered } :: newer) } }) := by
  unfold fetchUnnamed fetchData
  rw [hq, fetchOldest_some older newer r ho hr]
  simp only [pendingCount_fetched ho]
  rfl

/-! ## Fetch and confirm with a number (R123, R125) -/

theorem recordNumbered_none {k : Nat} (h : ∀ q ∈ queue, q.number ≠ k) : recordNumbered k queue = none :=
  List.find?_eq_none.2 fun q hq => by simpa using h q hq

theorem settleConfirm_zero (h : fieldAt body 0 2 = 0) (s : State) : settleConfirm.act body s = (⟨.outOfRange, []⟩, s) := by
  simp only [settleConfirm, h, if_true]
  rfl

section

variable {k : Nat} (hk : k ≠ 0)
include hk

theorem fetchNamed_unknown (h : ∀ q ∈ s.settlement.queue, q.number ≠ k) : fetchNamed k s = (⟨.notFound, []⟩, s) := by
  simp only [fetchNamed, hk, if_false, recordNumbered_none h]

theorem fetchNamed_pending (h : recordNumbered k s.settlement.queue = some r) (hr : r.delivery = .pending) :
    fetchNamed k s = (⟨.notDelivered, []⟩, s) := by
  simp only [fetchNamed, hk, if_false, h, hr, if_true]

theorem fetchNamed_delivered (h : recordNumbered k s.settlement.queue = some r) (hr : r.delivery = .delivered) :
    fetchNamed k s = (⟨.done, bytesOf 1 (pendingCount s.settlement.queue) ++ r.bytes⟩, s) := by
  simp only [fetchNamed, hk, if_false, h, hr, reduceCtorEq]
  rfl

theorem settleConfirm_unknown (hb : fieldAt body 0 2 = k) (h : ∀ q ∈ s.settlement.queue, q.number ≠ k) :
    settleConfirm.act body s = (⟨.notFound, []⟩, s) := by
  simp only [settleConfirm, hb, hk, if_false, recordNumbered_none h]

theorem settleConfirm_pending (hb : fieldAt body 0 2 = k) (h : recordNumbered k s.settlement.queue = some r)
    (hr : r.delivery = .pending) : settleConfirm.act body s = (⟨.notDelivered, []⟩, s) := by
  simp only [settleConfirm, hb, hk, if_false, h, hr, if_true]

theorem settleConfirm_delivered (hb : fieldAt body 0 2 = k) (h : recordNumbered k s.settlement.queue = some r)
    (hr : r.delivery = .delivered) :
    settleConfirm.act body s = (⟨.done, []⟩,
      { s with settlement := { s.settlement with queue := removeNumbered k s.settlement.queue } }) := by
  simp only [settleConfirm, hb, hk, if_false, h, hr, reduceCtorEq]
  rfl

end

/-! ## The rows -/

@[simp] theorem State.served_settlement (s : State) : s.served.settlement = s.settlement := by
  obtain ⟨l, c, h⟩ := s.served_eq; rw [h]

theorem settleFetch_unnamed (s : State) : settleFetch.act [] s = fetchUnnamed s := rfl

theorem settleFetch_named (h : body.length = 2) (s : State) : settleFetch.act body s = fetchNamed (fieldAt body 0 2) s := by
  have nonempty : body.isEmpty = false := by
    cases body with
    | nil => cases h
    | cons b bs => rfl
  simp only [settleFetch, nonempty, Bool.false_eq_true, if_false]

/-- Both rows of kind 0x18 go out with what SETTLE-FETCH answers. -/
theorem settleFetch_answered {i : Instr} {tag : Byte} {code : ReplyCode} {data : List Byte} {t : State} (h : s.Ready tag)
    (hi : i = .settleFetch tag body ∨ i = .settleFetchNamed tag body) (hl : body.length ∈ [0, 2])
    (ha : settleFetch.act body s.served = (⟨code, data⟩, t)) : exec i s = .next (State.answering 0x98#8 tag code data t) := by
  rcases hi with rfl | rfl <;> exact exec_answered rfl rfl (by decide) h hl ha

/-- Settles O24: the bytes of a record field by field, and each row by what the queue holds under the number. -/
theorem settlementRecordsAreFetchedAndConfirmed : Obligations.SettlementRecordsAreFetchedAndConfirmed := by
  unfold Obligations.SettlementRecordsAreFetchedAndConfirmed
  intro stamp bit layout
  have bytes : ∀ r : SettlementRecord, r.bytes = layout r := by
    intro r
    unfold SettlementRecord.bytes
    rw [windowIndexByte_eq, yesNoByte_eq, TokenSource.code_eq, EndReason.byte_eq, stampBytes_eq, stampBytes_eq, stampBytes_eq,
      RecordFlags.bits_eq]
    rfl
  refine ⟨fun r => by rw [← bytes]; exact r.length_bytes, ?unnamed, ?named⟩
  case unnamed =>
    intro tag s i h hi
    refine ⟨fun hempty => ?_, fun older newer r hq ho hr => ?_⟩
    · exact settleFetch_answered h hi (by simp) (fetchUnnamed_empty (by simpa using hempty))
    · refine settleFetch_answered h hi (by simp) ?_
      rw [settleFetch_unnamed, fetchUnnamed_pending (by simpa using hq) ho hr, State.served_settlement, bytes]
      rfl
  case named =>
    intro tag body s i h hl hi number
    have fetch : ∀ {code data}, fetchNamed number s.served = (⟨code, data⟩, s.served) →
        exec i s = .next (State.answering 0x98#8 tag code data s.served) := fun ha =>
      settleFetch_answered h hi (by simp [hl]) ((settleFetch_named hl _).trans ha)
    have confirm : ∀ {code t}, settleConfirm.act body s.served = (⟨code, []⟩, t) →
        exec (.settleConfirm tag body) s = .next (State.answering 0x99#8 tag code [] t) :=
      exec_answered rfl rfl (by decide) h (by simp [settleConfirm, hl])
    refine ⟨fun hzero => ⟨fetch ?_, confirm (settleConfirm_zero hzero _)⟩, fun hk hnone => ?_,
      fun older newer r hk hq ho hr => ⟨fun hpending => ?_, fun hdelivered => ?_⟩⟩
    · rw [hzero]
      rfl
    · rw [← State.served_settlement] at hnone
      exact ⟨fetch (fetchNamed_unknown hk hnone), confirm (settleConfirm_unknown hk rfl hnone)⟩
    all_goals
      have found : recordNumbered number s.served.settlement.queue = some r := by
        rw [State.served_settlement, hq]
        exact recordNumbered_some older newer r number ho hr
    · exact ⟨fetch (fetchNamed_pending hk found hpending), confirm (settleConfirm_pending hk rfl found hpending)⟩
    · have fetched := fetchNamed_delivered hk found hdelivered
      have confirmed := settleConfirm_delivered hk rfl found hdelivered
      rw [State.served_settlement, bytes] at fetched
      rw [State.served_settlement, hq, removeNumbered_some older newer r number ho hr] at confirmed
      exact ⟨fetch fetched, confirm confirmed⟩

end Sys2Proof.Machine
end

section
/-! SUPPORT. O51: the stop causes (R188 to R190) and the loss of retention (R127). -/

namespace Sys2Proof.Machine

variable {s : State}

theorem haltAll_line (why : EndReason) (s : State) : (forPedestals (haltSession why) s).line = s.line :=
  forPedestals_frame fun n u => by obtain ⟨_, _, _, _, e⟩ := haltSession_frame n why u; rw [e]

theorem haltAll_supply (why : EndReason) (s : State) : (forPedestals (haltSession why) s).supply = s.supply :=
  forPedestals_frame fun n u => by obtain ⟨_, _, _, _, e⟩ := haltSession_frame n why u; rw [e]

/-- What a stop cause makes of the device, but for the input or the supply that it moves (R189). -/
theorem haltDevice_eq (s : State) :
    haltDevice s =
      let h := forPedestals (haltSession .supplyLoss) s
      { h with
        bus := h.bus.askedToStop
        line := { s.line with sending := none, replyWaiting := none, busyList := [], parser := .hunt false }
        supply := { s.supply with runState := .halted, pendingRestart := none, resetSeen := false } } := by
  have line := haltAll_line .supplyLoss s
  have supply := haltAll_supply .supplyLoss s
  unfold haltDevice
  simp only [requestStopAll_eq]
  generalize forPedestals (haltSession .supplyLoss) s = h at line supply ⊢
  rw [← line, ← supply]
  rfl

theorem stopCause_eq_haltDevice (h : s.supply.runState ≠ .halted) : stopCause s = haltDevice s := if_neg h

theorem stopCause_eq_self (h : s.supply.runState = .halted) : stopCause s = s := if_pos h

/-! ## The four rows

SUPPLY_WARNING and RESET are a stop cause and the input that they move; the other two rows depend on HALTED themselves. -/

theorem exec_supplyWarning (s : State) :
    exec .supplyWarning s = .next ((stopCause s).withSupply { (stopCause s).supply with warningInput := true }) := rfl

theorem exec_reset (s : State) :
    exec .reset s = .next ((stopCause s).withSupply { (stopCause s).supply with resetInput := true, resetSeen := true }) := rfl

theorem execSupplyFail_running (h : s.supply.runState ≠ .halted) :
    exec .supplyFail s = .next ((haltDevice s).withSupply { (haltDevice s).supply with mainSupply := .below }) :=
  congrArg Host.Outcome.next (if_neg h)

theorem execSupplyFail_halted (h : s.supply.runState = .halted) : exec .supplyFail s = .next (losePower s) :=
  congrArg Host.Outcome.next (if_pos h)

theorem execRetentionLoss_running (h : s.supply.runState ≠ .halted) : exec .retentionLoss s = .next s :=
  congrArg Host.Outcome.next (if_neg h)

theorem execRetentionLoss_halted (h : s.supply.runState = .halted) : exec .retentionLoss s =
    .next ((losePower s).withSettlement { s.settlement with markerValid := false }) :=
  congrArg Host.Outcome.next (if_pos h)

/-- Settles O51: outside HALTED the three causes are `haltDevice` with what they move; in HALTED an input alone is moved, or the
supply lost. The halted sessions stand under one name, since nothing is read of how they were halted. -/
theorem stopCausesHaltTheDevice : Obligations.StopCausesHaltTheDevice := by
  unfold Obligations.StopCausesHaltTheDevice
  intro s
  have halt := haltDevice_eq s
  generalize forPedestals (haltSession .supplyLoss) s = h at halt ⊢
  refine ⟨fun running => ⟨?_, ?_, ?_, execRetentionLoss_running running⟩, fun halted => ⟨?_, ?_, ?_, ?_⟩⟩
  · rw [exec_supplyWarning, stopCause_eq_haltDevice running, halt]
    rfl
  · rw [exec_reset, stopCause_eq_haltDevice running, halt]
    rfl
  · rw [execSupplyFail_running running, halt]
    rfl
  · rw [exec_supplyWarning, stopCause_eq_self halted]
    rfl
  · rw [exec_reset, stopCause_eq_self halted]
    rfl
  · exact execSupplyFail_halted halted
  · exact execRetentionLoss_halted halted

end Sys2Proof.Machine
end

section
/-! SUPPORT. PARK-SET and PARK-READ: the rows of R141 written one after the other, and the bytes of the settings (R142, R144,
section 12.2). -/

namespace Sys2Proof.Machine

variable {s : State} {body : List Byte}

@[simp] theorem State.served_park (s : State) : s.served.park = s.park := by
  obtain ⟨l, c, h⟩ := s.served_eq; rw [h]

@[simp] theorem State.served_clock (s : State) : s.served.clock = s.clock := by
  obtain ⟨l, c, h⟩ := s.served_eq; rw [h]

/-! ## The settings that a PARK-SET leaves (R142) -/

/-- The settings after the rows from item `k` on, each written with the value that its field at offset `off` gives. -/
def writeRows (body : List Byte) : (k off : Nat) → List SettingRow → Settings → Settings
  | _, _, [], t => t
  | k, off, row :: rows, t =>
    writeRows body (k + 1) (off + row.size) rows
      (row.set (parkValue body k row.low row.high off row.size (row.get t)) t)

/-- The values of a PARK-SET body that rows from item `k` and offset `off` on take. -/
def itemsOf : (k off : Nat) → List SettingRow → List ParkItem
  | _, _, [] => []
  | k, off, row :: rows => ⟨k, row.low, row.high, off, row.size⟩ :: itemsOf (k + 1) (off + row.size) rows

theorem itemsOf_settingRows : itemsOf 1 3 settingRows = parkItems := rfl

/-- The items among these that a PARK-SET moved to a limit, with the values they took. -/
def movedAmong (body : List Byte) (items : List ParkItem) : List (Nat × Nat) :=
  items.filterMap fun p =>
    if parkPresent body p.item ∧ p.nearest body ≠ fieldAt body p.off p.size then some (p.item, p.nearest body) else none

theorem movedAmong_cons_moved {p : ParkItem} (items : List ParkItem) (hp : parkPresent body p.item = true)
    (hm : p.nearest body ≠ fieldAt body p.off p.size) :
    movedAmong body (p :: items) = (p.item, p.nearest body) :: movedAmong body items :=
  List.filterMap_cons_some (if_pos ⟨hp, hm⟩)

theorem movedAmong_cons_kept {p : ParkItem} (items : List ParkItem)
    (h : ¬ (parkPresent body p.item = true ∧ p.nearest body ≠ fieldAt body p.off p.size)) :
    movedAmong body (p :: items) = movedAmong body items :=
  List.filterMap_cons_none (if_neg h)

/-- Writing back the value that a setting has changes nothing. -/
theorem settingRow_set_get : ∀ row ∈ settingRows, ∀ t : Settings, row.set (row.get t) t = t := by
  simp [settingRows]

/-- The rows of R141 taken from a body: the settings written, and the items moved. -/
theorem applyRows_eq {rows : List SettingRow} (h : ∀ row ∈ rows, ∀ t : Settings, row.set (row.get t) t = t) (k off : Nat)
    (t : Settings) : applyRows (fieldAt body 0 3) body k off rows t =
      (writeRows body k off rows t, movedAmong body (itemsOf k off rows)) := by
  induction rows generalizing k off t with
  | nil => rfl
  | cons row rows ih =>
    have ih := ih fun r hr => h r (.tail _ hr)
    unfold applyRows presentField writeRows itemsOf parkValue
    by_cases hp : parkPresent body k = true
    · have bit : (fieldAt body 0 3).testBit (k - 1) = true := hp
      simp only [bit, hp, if_true, ih]
      by_cases hm : row.clamp (fieldAt body off row.size) = fieldAt body off row.size
      · rw [if_pos hm, movedAmong_cons_kept _ fun ⟨_, moved⟩ => moved hm]
        rfl
      · rw [if_neg hm, movedAmong_cons_moved (p := ⟨k, row.low, row.high, off, row.size⟩) _ hp hm]
        rfl
    · have bit : ¬ (fieldAt body 0 3).testBit (k - 1) = true := hp
      rw [if_neg bit, if_neg hp, h row (.head _), movedAmong_cons_kept _ fun ⟨present, _⟩ => hp present]
      exact ih _ _ _

/-- The settings after a PARK-SET, field by field (R142). -/
def parkSettings (body : List Byte) (t : Settings) : Settings :=
  let v := parkValue body
  { fastPeriod := v 1 50 250 3 2 t.fastPeriod, quietTime := v 2 10 600 5 2 t.quietTime,
    linkSilence := v 3 1 60 7 1 t.linkSilence, authWait := v 4 5 60 8 1 t.authWait,
    plugWait := v 5 30 600 9 2 t.plugWait, probeRetries := v 6 0 3 11 1 t.probeRetries,
    endingTimeout := v 7 1 10 12 1 t.endingTimeout, suspendLimit := v 8 1 60 13 1 t.suspendLimit,
    siteCap := v 9 0 65535 14 2 t.siteCap, reserve := v 10 0 65535 16 2 t.reserve,
    fallbackLoad := v 11 0 65535 18 2 t.fallbackLoad, staleTime := v 12 5 120 20 1 t.staleTime,
    agingRounds := v 13 1 255 21 1 t.agingRounds, yieldOn := v 14 1 65535 22 2 t.yieldOn,
    yieldOff := v 15 1 65535 24 2 t.yieldOff, maxHold := v 16 1 999999 26 4 t.maxHold,
    highMark := v 17 1 24 30 1 t.highMark, plausibility := v 18 1 255 31 1 t.plausibility,
    routePosted := if parkPresent body 19 then BitVec.ofNat 4 (fieldAt body 32 1) else t.routePosted }

theorem applyParkSet_eq (body : List Byte) (t : Settings) : applyParkSet body t = (parkSettings body t, parkMoved body) := by
  have rows := applyRows_eq (body := body) settingRow_set_get 1 3 t
  rw [itemsOf_settingRows] at rows
  simp only [applyParkSet, presentField, rows]
  by_cases hp : parkPresent body 19 = true
  · have bit : (fieldAt body 0 3).testBit 18 = true := hp
    simp only [bit, if_true, parkSettings, hp]
    rfl
  · have bit : ¬ (fieldAt body 0 3).testBit 18 = true := hp
    simp only [bit, if_false, parkSettings, hp, Bool.false_eq_true]
    rfl

/-! ## PARK-SET -/

theorem parkSet_outOfRange (h : 2 ^ 19 ≤ fieldAt body 0 3) : parkSet.act body s = (⟨.outOfRange, []⟩, s) := if_pos h

theorem parkSet_taken (h : fieldAt body 0 3 < 2 ^ 19) : parkSet.act body s =
    (⟨if parkMoved body = [] then .done else .clamped, if parkMoved body = [] then [] else clampedData (parkMoved body)⟩,
      { s with settings := parkSettings body s.settings }) := by
  unfold parkSet
  simp only [if_neg (Nat.not_le.2 h), applyParkSet_eq, List.isEmpty_iff]
  split <;> rfl

/-- Settles O12: a body beyond the nineteen settings is refused, and any other is taken row by row. -/
theorem parkSetTakesEachValueAtItsNearestLimit : Obligations.ParkSetTakesEachValueAtItsNearestLimit := by
  intro tag body s h hl v t
  refine ⟨fun hbits => ?_, fun hbits => ?_⟩
  · exact exec_answered rfl rfl (by decide) h (by simp [parkSet, hl]) (parkSet_outOfRange hbits)
  · refine exec_answered rfl rfl (by decide) h (by simp [parkSet, hl]) ?_
    rw [parkSet_taken hbits, State.served_settings]
    rfl

/-! ## PARK-READ -/

/-- The bytes of the settings, in the order and sizes of section 12.2. -/
theorem settingsBytes_eq (t : Settings) : settingsBytes t =
    bytesOf 2 t.fastPeriod ++ bytesOf 2 t.quietTime ++ bytesOf 1 t.linkSilence ++ bytesOf 1 t.authWait
      ++ bytesOf 2 t.plugWait ++ bytesOf 1 t.probeRetries ++ bytesOf 1 t.endingTimeout ++ bytesOf 1 t.suspendLimit
      ++ bytesOf 2 t.siteCap ++ bytesOf 2 t.reserve ++ bytesOf 2 t.fallbackLoad ++ bytesOf 1 t.staleTime
      ++ bytesOf 1 t.agingRounds ++ bytesOf 2 t.yieldOn ++ bytesOf 2 t.yieldOff ++ bytesOf 4 t.maxHold
      ++ bytesOf 1 t.highMark ++ bytesOf 1 t.plausibility ++ bytesOf 1 t.routePosted.toNat := by
  simp only [settingsBytes, settingRows, List.flatMap_cons, List.flatMap_nil, List.append_nil, List.append_assoc]

/-- The clock's valid flag and stamp (R144, R193). -/
theorem clockBytes_eq (c : Option Clock) : yesNoByte c.isSome ++ stampBytes (c.map fun c => ⟨c.day, c.second⟩) =
    c.elim (bytesOf 1 0 ++ bytesOf 2 0xFFFF ++ bytesOf 3 0xFFFFFF)
      (fun c => bytesOf 1 1 ++ bytesOf 2 c.day ++ bytesOf 3 c.second) := by
  cases c <;> rfl

theorem ParkState.code_eq (p : ParkState) : p.code = if p = .opened then 1 else 0 := by cases p <;> rfl

/-- Settles O13: the reply's data field by field; the act gives back the state that it reads. -/
theorem parkReadReportsEverySetting : Obligations.ParkReadReportsEverySetting := by
  intro tag s h t
  refine exec_answered rfl rfl (by decide) h (by simp [parkRead]) ?_
  unfold parkRead
  simp only [State.served_settings, State.served_park, State.served_clock]
  rw [List.append_assoc _ (yesNoByte _), clockBytes_eq, settingsBytes_eq, ParkState.code_eq]

end Sys2Proof.Machine
end

section
/-! SUPPORT. TARIFF-WRITE, TARIFF-READ and TARIFF-CLEAR (R131 to R134, section 12.2). -/

namespace Sys2Proof.Machine

variable {s : State} {body : List Byte} {i : Fin 8}

/-! ## The structure of a body (R132) -/

/-- The bands of a body, entry by entry. -/
theorem bandsAt_eq (body : List Byte) (count off : Nat) : bandsAt body count off =
    (List.range count).map fun j => ⟨fieldAt body (off + 6 * j) 2, fieldAt body (off + 2 + 6 * j) 4⟩ := by
  induction count generalizing off with
  | zero => rfl
  | succ count ih =>
    rw [bandsAt, ih, List.range_succ_eq_map, List.map_cons, List.map_map]
    congr 1
    refine List.map_congr_left fun j _ => ?_
    simp only [Function.comp_apply, Nat.succ_eq_add_one, Nat.mul_succ]
    congr 2 <;> omega

theorem bandsAt_body (body : List Byte) (count : Nat) :
    bandsAt body count 2 = (List.range count).map fun j => ⟨bandStart body j, bandPrice body j⟩ := bandsAt_eq body count 2

/-- A band list ascends if start minutes and prices lie in range and every start minute is below the next. -/
theorem bandsAscend_iff (bands : List Band) : bandsAscend bands = true ↔
    (∀ b ∈ bands, b.start ≤ 1439 ∧ b.price ≤ 9999999) ∧ bands.IsChain fun b c => b.start < c.start := by
  induction bands with
  | nil => simp [bandsAscend]
  | cons b bands ih =>
    cases bands with
    | nil => simp [bandsAscend]
    | cons c bands =>
      rw [bandsAscend, Bool.and_eq_true, Bool.and_eq_true, decide_eq_true_eq, decide_eq_true_eq, ih, List.isChain_cons_cons,
        List.forall_mem_cons (a := b)]
      constructor
      · rintro ⟨⟨hlt, hprice⟩, hrange, hchain⟩
        have hc := (hrange c (.head _)).1
        exact ⟨⟨⟨by omega, hprice⟩, hrange⟩, hlt, hchain⟩
      · rintro ⟨⟨⟨_, hprice⟩, hrange⟩, hlt, hchain⟩
        exact ⟨⟨hlt, hprice⟩, hrange, hchain⟩

/-- The bands of a body with 1 to 6 entries are valid if they have the structure of R132. -/
theorem bandsValid_body {count : Nat} (h : 1 ≤ count ∧ count ≤ 6) : bandsValid (bandsAt body count 2) = true ↔
    bandStart body 0 = 0 ∧ (∀ j < count, bandStart body j ≤ 1439 ∧ bandPrice body j ≤ 9999999)
      ∧ ∀ j < count - 1, bandStart body j < bandStart body (j + 1) := by
  have first : ((List.range count).map fun j => Band.mk (bandStart body j) (bandPrice body j)).head? =
      some ⟨bandStart body 0, bandPrice body 0⟩ := by
    rw [List.head?_map, List.head?_range, if_neg (by omega)]
    rfl
  unfold bandsValid
  rw [bandsAt_body, Bool.and_eq_true, Bool.and_eq_true, Bool.and_eq_true, bandsAscend_iff, List.isChain_map, List.isChain_range,
    first]
  simp [h]

theorem tariffBodyGood_iff (body : List Byte) : TariffBodyGood body ↔
    ¬ (fieldAt body 1 1 = 0 ∨ fieldAt body 1 1 > 6 ∨ (!bandsValid (bandsAt body (min (fieldAt body 1 1) 6) 2)) = true
      ∨ fieldAt body 42 1 > 240) := by
  by_cases hcount : 1 ≤ fieldAt body 1 1 ∧ fieldAt body 1 1 ≤ 6
  · have bands := bandsValid_body (body := body) hcount
    rw [Nat.min_eq_left hcount.2, Bool.not_eq_true', ← Bool.not_eq_true, bands]
    unfold TariffBodyGood
    constructor
    · rintro ⟨_, hfirst, hrange, hchain, hgrace⟩ hbad
      rcases hbad with hbad | hbad | hbad | hbad
      · omega
      · omega
      · exact hbad ⟨hfirst, hrange, hchain⟩
      · omega
    · intro hgood
      push Not at hgood
      obtain ⟨_, _, ⟨hfirst, hrange, hchain⟩, hgrace⟩ := hgood
      exact ⟨hcount, hfirst, hrange, hchain, hgrace⟩
  · refine iff_of_false (fun hgood => hcount hgood.1) fun hgood => ?_
    push Not at hgood
    exact hcount ⟨Nat.one_le_iff_ne_zero.2 hgood.1, hgood.2.1⟩

/-! ## TARIFF-WRITE and TARIFF-CLEAR -/

theorem not_usesTariff (h : ¬ s.UsesTariff i) : s.tariffInUse i = false := by
  rwa [← tariffInUse_iff, Bool.not_eq_true] at h

theorem State.served_usesTariff (s : State) : s.served.UsesTariff i ↔ s.UsesTariff i := by
  unfold State.UsesTariff
  simp only [State.served_session]

theorem tariffWrite_none (h : 7 < fieldAt body 0 1) : tariffWrite.act body s = (⟨.outOfRange, []⟩, s) := by
  simp only [tariffWrite, tariffIndexOf_none h]
  rfl

section Named

/-! The body names a tariff. -/

variable (hi : fieldAt body 0 1 = i.val)
include hi

theorem tariffWrite_inUse (h : s.UsesTariff i) : tariffWrite.act body s = (⟨.inUse, []⟩, s) := by
  simp only [tariffWrite, tariffIndexOf_some hi, (tariffInUse_iff s i).2 h, if_true]

theorem tariffWrite_bad (h : ¬ s.UsesTariff i) (hb : ¬ TariffBodyGood body) :
    tariffWrite.act body s = (⟨.outOfRange, []⟩, s) := by
  rw [tariffBodyGood_iff, not_not] at hb
  simp only [tariffWrite, tariffIndexOf_some hi, not_usesTariff h, Bool.false_eq_true, if_false, if_pos hb]
  rfl

theorem tariffWrite_good (h : ¬ s.UsesTariff i) (hg : TariffBodyGood body) :
    tariffWrite.act body s = (⟨.done, []⟩, { s with tariffs := s.tariffs.set i (tariffOfBody body) }) := by
  have bands : bandsAt body (min (fieldAt body 1 1) 6) 2 = (tariffOfBody body).bands := by
    rw [Nat.min_eq_left hg.1.2]
    exact bandsAt_body body _
  have good := (tariffBodyGood_iff body).1 hg
  simp only [tariffWrite, tariffIndexOf_some hi, not_usesTariff h, Bool.false_eq_true, if_false, if_neg good]
  rw [bands]
  rfl

theorem tariffClear_inUse (h : s.UsesTariff i) : tariffClear.act body s = (⟨.inUse, []⟩, s) := by
  simp only [tariffClear, tariffIndexOf_some hi, (tariffInUse_iff s i).2 h, if_true]

theorem tariffClear_unused (h : ¬ s.UsesTariff i) :
    tariffClear.act body s = (⟨.done, []⟩, { s with tariffs := s.tariffs.set i {} }) := by
  simp only [tariffClear, tariffIndexOf_some hi, not_usesTariff h, Bool.false_eq_true, if_false]
  rfl

end Named

theorem tariffClear_none (h : 7 < fieldAt body 0 1) : tariffClear.act body s = (⟨.outOfRange, []⟩, s) := by
  simp only [tariffClear, tariffIndexOf_none h]
  rfl

/-! ## TARIFF-READ (R134) -/

/-- The first `k` elements of a list, a missing one read as `z`. -/
theorem take_append_replicate {α : Type} (l : List α) (z : α) (k : Nat) :
    (l ++ List.replicate k z).take k = (List.range k).map fun j => l[j]?.getD z := by
  refine List.ext_getElem (by simp) fun j hj _ => ?_
  have hk : j < k := by simpa using hj
  simp only [List.getElem_take, List.getElem_append, List.getElem_replicate, List.getElem_map, List.getElem_range]
  split
  · rename_i hlt
    rw [List.getElem?_eq_getElem hlt, Option.getD_some]
  · rename_i hge
    rw [List.getElem?_eq_none (Nat.not_lt.1 hge), Option.getD_none]

theorem bandBytes_eq (bands : List Band) : bandBytes bands = (List.range 6).flatMap fun j =>
    bytesOf 2 ((bands[j]?).elim 0 Band.start) ++ bytesOf 4 ((bands[j]?).elim 0 Band.price) := by
  unfold bandBytes
  rw [take_append_replicate, List.flatMap_map]
  congr 1
  funext j
  cases bands[j]? <;> rfl

/-- The sessions under a tariff, counted over pedestals. -/
theorem tariffUse_eq (s : State) (i : Fin 8) : s.tariffUse i = Ped.all.countP fun n =>
    (s.session n).state.granted && decide ((s.session n).grant.map (·.tariff) = some i) := by
  rw [State.tariffUse, s.records_toList, List.countP_map]
  congr 1
  funext n
  cases hg : (s.session n).grant <;> simp [hg, Bool.beq_eq_decide_eq]

theorem tariffRead_none (h : 7 < fieldAt body 0 1) : tariffRead.act body s = (⟨.outOfRange, []⟩, s) := by
  simp only [tariffRead, tariffIndexOf_none h]
  rfl

theorem tariffRead_some (hi : fieldAt body 0 1 = i.val) : tariffRead.act body s = (⟨.done,
    bytesOf 1 (if (s.tariffs.get i).defined then 1 else 0) ++ bytesOf 1 (s.tariffs.get i).bands.length
      ++ ((List.range 6).flatMap fun j => bytesOf 2 (((s.tariffs.get i).bands[j]?).elim 0 Band.start)
          ++ bytesOf 4 (((s.tariffs.get i).bands[j]?).elim 0 Band.price))
      ++ bytesOf 2 (s.tariffs.get i).startFee ++ bytesOf 2 (s.tariffs.get i).idleFeePerMinute
      ++ bytesOf 1 (s.tariffs.get i).idleGrace
      ++ bytesOf 1 (Ped.all.countP fun n =>
          (s.session n).state.granted && decide ((s.session n).grant.map (·.tariff) = some i))⟩, s) := by
  simp only [tariffRead, tariffIndexOf_some hi, yesNoByte_eq, bandBytes_eq, tariffUse_eq]

/-- Settles O15: the rows of R132 to R134 in their order. -/
theorem tariffsAreWrittenReadAndCleared : Obligations.TariffsAreWrittenReadAndCleared := by
  refine ⟨fun tag body s h hl => ⟨fun hout => ?_, fun i hi => ⟨fun hu => ?_, fun hu hb => ?_, fun hu hg => ?_⟩⟩,
    fun tag body s h hl => ⟨fun hout => ⟨?_, ?_⟩, fun i hi => ⟨fun hu => ?_, fun hu => ?_, ?_⟩⟩⟩
  · exact exec_answered rfl rfl (by decide) h (by simp [tariffWrite, hl]) (tariffWrite_none hout)
  · exact exec_answered rfl rfl (by decide) h (by simp [tariffWrite, hl]) (tariffWrite_inUse hi (s.served_usesTariff.2 hu))
  · exact exec_answered rfl rfl (by decide) h (by simp [tariffWrite, hl]) (tariffWrite_bad hi (mt s.served_usesTariff.1 hu) hb)
  · refine exec_answered rfl rfl (by decide) h (by simp [tariffWrite, hl]) ?_
    rw [tariffWrite_good hi (mt s.served_usesTariff.1 hu) hg, State.served_tariffs]
  · exact exec_answered rfl rfl (by decide) h (by simp [tariffRead, hl]) (tariffRead_none hout)
  · exact exec_answered rfl rfl (by decide) h (by simp [tariffClear, hl]) (tariffClear_none hout)
  · exact exec_answered rfl rfl (by decide) h (by simp [tariffClear, hl]) (tariffClear_inUse hi (s.served_usesTariff.2 hu))
  · refine exec_answered rfl rfl (by decide) h (by simp [tariffClear, hl]) ?_
    rw [tariffClear_unused hi (mt s.served_usesTariff.1 hu), State.served_tariffs]
  · refine exec_answered rfl rfl (by decide) h (by simp [tariffRead, hl]) ?_
    rw [tariffRead_some hi]
    simp only [State.served_tariffs, State.served_session]

end Sys2Proof.Machine
end

section
/-! SUPPORT. O60: what the operations on sessions, entries and rounds leave of the device's front: settings, host line, run
state, place in the scan cycle and STOP-ALL. -/

namespace Sys2Proof.Machine

/-! ## The front of a state -/

/-- What the laws of settings, link, host line and run states read of a state, its records apart. -/
structure Front where
  settings : Settings
  line : HostLine
  runState : RunState
  pendingRestart : Option RestartKind
  phase : BusPhase
  stopAllOwed : Bool

def State.front (s : State) : Front :=
  ⟨s.settings, s.line, s.supply.runState, s.supply.pendingRestart, s.bus.phase, s.bus.stopAllOwed⟩

theorem State.front_eq_iff {s t : State} : t.front = s.front ↔ t.settings = s.settings ∧ t.line = s.line
    ∧ t.supply.runState = s.supply.runState ∧ t.supply.pendingRestart = s.supply.pendingRestart ∧ t.bus.phase = s.bus.phase
    ∧ t.bus.stopAllOwed = s.bus.stopAllOwed := by
  simp [State.front]

/-- Sixteen operations that each leave the front leave it together. -/
theorem forPedestals_front {f : Ped → State → State} (h : ∀ n s, (f n s).front = s.front) (s : State) :
    (forPedestals f s).front = s.front := forPedestals_frame h

variable (n : Ped) (s : State)

/-! ## Records, entries, conditions and pace -/

@[simp] theorem State.setSession_front (r : Session) : (s.setSession n r).front = s.front := rfl
@[simp] theorem State.setEntry_front (e : PedestalEntry) : (s.setEntry n e).front = s.front := rfl
@[simp] theorem State.setAlloc_front (a : Alloc) : (s.setAlloc n a).front = s.front := rfl
@[simp] theorem State.reach_front (p : Point) : (s.reach p).front = s.front := rfl
@[simp] theorem latchPed_front (k : PedKind) (d : CondData) : (latchPed n k d s).front = s.front := rfl
@[simp] theorem latchPark_front (k : ParkKind) (d : CondData) : (latchPark k d s).front = s.front := rfl
@[simp] theorem releaseSlot_front : (releaseSlot s).front = s.front := rfl
@[simp] theorem reserveSlot_front : (reserveSlot s).front = s.front := rfl

@[simp] theorem putSession_front (r : Session) : (putSession n r s).front = s.front := by
  obtain ⟨pace, timer, start, e⟩ := putSession_eq n r s
  rw [e]
  rfl

@[simp] theorem quietActivity_front : (quietActivity s).front = s.front := by
  rcases quietActivity_cases s with ⟨_, e⟩ | ⟨_, e⟩ <;> rw [e]
  obtain ⟨p, h, _⟩ := paceFast_eq s
  rw [h]
  rfl

@[simp] theorem joinQueue_front (r : SettlementRecord) : (joinQueue r s).front = s.front := by
  rcases joinQueue_eq r s with e | e <;> rw [e] <;> rfl

@[simp] theorem refuseToken_front (reason : Byte) : (refuseToken n reason s).front = s.front := rfl

/-! ## Ends of sessions -/

@[simp] theorem cancelSession_front (reason : Byte) : (cancelSession n reason s).front = s.front := by
  simp [cancelSession]

@[simp] theorem closeSession_front (why : EndReason) : (closeSession n why s).front = s.front := by
  rw [closeSession_eq, putSession_front, latchPed_front]
  cases closingRecord n why s with
  | none => rfl
  | some r => exact joinQueue_front s r

@[simp] theorem enterEnding_front (why : EndReason) : (enterEnding n why s).front = s.front := putSession_front n s _

@[simp] theorem stopSession_front (why : EndReason) : (stopSession n why s).front = s.front := by
  unfold stopSession
  split
  case h_1 | h_2 => exact closeSession_front n s why
  case h_3 | h_4 | h_5 => exact enterEnding_front n s why
  all_goals rfl

@[simp] theorem haltSession_front (why : EndReason) : (haltSession why n s).front = s.front := by
  unfold haltSession
  split
  case h_1 => exact cancelSession_front n s _
  case h_8 | h_9 | h_10 => rfl
  all_goals exact closeSession_front n s why

@[simp] theorem loseSession_front : (loseSession n s).front = s.front := by
  unfold loseSession
  simp only []
  split
  case h_1 => exact cancelSession_front n s _
  case h_8 | h_9 | h_10 => rfl
  all_goals simp

/-! ## Probe, grant and token -/

@[simp] theorem startAttempt_front : (startAttempt n s).front = s.front := rfl

@[simp] theorem enterProbing_front : (enterProbing n s).front = s.front := by
  unfold enterProbing
  simp

@[simp] theorem attemptFailed_front : (attemptFailed n s).front = s.front := by
  unfold attemptFailed
  simp only []
  split <;> simp

@[simp] theorem energize_front (count : Nat) : (energize n count s).front = s.front := by
  unfold energize
  simp

@[simp] theorem takeGrant_front (g : Grant) : (takeGrant n g s).front = s.front := by
  unfold takeGrant
  simp only []
  split <;> simp

@[simp] theorem offerGrant_front (o : GrantOffer) : (offerGrant n o s).front = s.front := by
  unfold offerGrant
  split <;> simp

@[simp] theorem authExpired_front : (authExpired n s).front = s.front := by
  unfold authExpired
  split
  · split <;> simp
  · simp

@[simp] theorem decideSession_front (o : Opening) (c : CapturedTerms) : (decideSession n o c s).front = s.front := by
  rcases decideSession_cases n o c s with ⟨reason, e⟩ | ⟨g, e⟩ | e <;> rw [e]
  · exact cancelSession_front n s reason
  · exact offerGrant_front n s g
  · rfl

@[simp] theorem acceptToken_front (token : Token) (source : TokenSource) : (acceptToken n token source s).front = s.front := by
  unfold acceptToken
  simp

@[simp] theorem takeToken_front (token : Token) (source : TokenSource) : (takeToken n token source s).front = s.front := by
  have offered : (offerToken n token source s).front = s.front := by
    unfold offerToken
    split <;> simp
  unfold takeToken
  simp only []
  split
  case h_1 | h_2 => exact offered
  case h_10 => rfl
  all_goals split <;> simp

/-! ## The fields of a good reply (R5, R153) -/

@[simp] theorem meterSteps_front (count : Nat) : (meterSteps n count s).front = s.front := by
  rw [meterSteps_frame]
  rfl

@[simp] theorem tableFaults_front (x : StatusReply) : (tableFaults n x s).front = s.front := by
  rw [tableFaults_eq]
  rfl

@[simp] theorem sessionFaults_front (x : StatusReply) : (sessionFaults n x s).front = s.front := by
  have stop : ∀ why, (faultStop n why s).front = s.front := by
    intro why
    unfold faultStop
    split <;> simp
  unfold sessionFaults
  simp only []
  split
  · exact stop _
  · split <;> simp [stop]

@[simp] theorem reactPlugIn_front : (reactPlugIn n s).front = s.front := by
  unfold reactPlugIn
  split
  case h_1 => exact putSession_front n s _
  case h_2 =>
    split
    · exact closeSession_front n s _
    · split <;> simp
  all_goals rfl

@[simp] theorem reactPlugOut_front : (reactPlugOut n s).front = s.front := by
  unfold reactPlugOut
  split
  case h_1 | h_2 => exact putSession_front n s _
  case h_3 | h_4 | h_5 | h_6 => exact stopSession_front n s _
  all_goals rfl

@[simp] theorem takePlug_front (plug : Bool) : (takePlug n plug s).front = s.front := by
  unfold takePlug
  simp only []
  split
  · simp
  · split
    · simp
    · split
      · split <;> simp
      · rfl

@[simp] theorem takePresentation_front (p : Presentation) : (takePresentation n p s).front = s.front := by
  unfold takePresentation
  simp only []
  split
  · split <;> simp
  · simp

@[simp] theorem takeProbe_front (probe : ProbeResult) (count : Nat) : (takeProbe n probe count s).front = s.front := by
  unfold takeProbe
  split
  · cases probe with
    | none => rfl
    | openCircuit => exact attemptFailed_front n s
    | short => simp
    | matched length => simp only []; split <;> simp
  · rfl

@[simp] theorem takeComplete_front (complete : Bool) : (takeComplete n complete s).front = s.front := by
  unfold takeComplete enterOccupying
  split
  case h_1 | h_2 => split <;> simp
  all_goals rfl

@[simp] theorem takeVehicleRequest_front (request : Nat) (complete : Bool) :
    (takeVehicleRequest n request complete s).front = s.front := by
  unfold takeVehicleRequest enterSuspended returnToDispensing
  split
  case h_1 =>
    split
    · split <;> simp
    · rfl
  case h_2 | h_3 => split <;> simp
  all_goals rfl

@[simp] theorem takePower_front (wasEnding : Bool) (power : Nat) : (takePower n wasEnding power s).front = s.front := by
  unfold takePower
  split <;> simp

@[simp] theorem linkSteps_front (plug : Bool) : (linkSteps n plug s).front = s.front := by
  unfold linkSteps
  simp only []
  split <;> rfl

@[simp] theorem tokenStep_front (x : StatusReply) : (tokenStep n x s).front = s.front := by
  unfold tokenStep
  cases x.presentation with
  | some p => exact takePresentation_front n s p
  | none => rfl

@[simp] theorem takeReply_front (x : StatusReply) : (takeReply n x s).front = s.front := by
  rw [takeReply_eq]
  simp [closingSteps, faultSteps]

@[simp] theorem takeMiss_front : (takeMiss n s).front = s.front := by
  unfold takeMiss
  simp only []
  split <;> simp

@[simp] theorem takeExchange_front (e : Exchange) (reply : Option StatusReply) : (takeExchange e reply s).front = s.front := by
  unfold takeExchange
  split
  · rfl
  · cases reply with
    | none => exact takeMiss_front _ s
    | some x => simp only []; split <;> simp

/-! ## The allocation round -/

@[simp] theorem allocationRound_front : (allocationRound s).front = s.front := by
  rw [allocationRound_frame]
  simp only [State.front]

end Sys2Proof.Machine
end

section
/-! SUPPORT. O60: the laws of settings, link, host line and run states together, and the kinds of change that keep them (R141, R160,
R176, R178, R181, R188, R189, R192). -/

namespace Sys2Proof.Machine

variable {s t u : State} {n : Ped}

/-! ## The laws together -/

/-- The laws of settings, link, host line and run states. -/
structure State.FrontSound (s : State) : Prop where
  settings : s.settings.InRange
  link : s.LinkLaw
  line : s.LineLaw
  run : s.RunLaw

/-- No session is open. -/
def State.Shut (s : State) : Prop := ∀ n, (s.session n).state.isOpen = false

theorem State.anyOpen_eq_false_iff (s : State) : s.anyOpen = false ↔ s.Shut := by
  rw [← Bool.not_eq_true, State.anyOpen_iff, not_exists]
  simp only [Bool.not_eq_true, State.Shut]

/-- Outside RUNNING no session is open (R189, R192). -/
theorem State.FrontSound.shut (h : s.FrontSound) (hrun : s.supply.runState ≠ .running) : s.Shut :=
  (s.anyOpen_eq_false_iff).1 (h.run.1 hrun).1

/-- While a session is open the device is RUNNING. -/
theorem State.FrontSound.running_of_open (h : s.FrontSound) (hn : (s.session n).state.isOpen = true) :
    s.supply.runState = .running := by
  by_contra hrun
  simp [h.shut hrun n] at hn

/-- Outside RUNNING the end of the exchange under way brings STOP-ALL (R160). -/
theorem State.FrontSound.owed (h : s.FrontSound) (hrun : s.supply.runState ≠ .running) {e : Exchange}
    (hphase : s.bus.phase = .exchange e) : s.bus.stopAllOwed = true := by
  obtain ⟨_, stopping, _⟩ := h.run.1 hrun
  simpa only [Bus.stopping, hphase] using stopping

/-- While an alert slot is open the device is RUNNING. -/
theorem State.FrontSound.running_of_alertSlot (h : s.FrontSound) (hphase : s.bus.phase = .alertSlot) :
    s.supply.runState = .running := by
  by_contra hrun
  obtain ⟨_, stopping, _⟩ := h.run.1 hrun
  simp [Bus.stopping, hphase] at stopping

/-! ## What keeps them -/

/-- A change behind the front, which outside RUNNING opens no session. -/
theorem State.FrontSound.of_front (h : s.FrontSound) (e : t.front = s.front)
    (shut : s.supply.runState = .running ∨ (s.Shut → t.Shut)) : t.FrontSound := by
  obtain ⟨settings, line, runState, pending, phase, owed⟩ := State.front_eq_iff.1 e
  have stopping : t.bus.stopping = s.bus.stopping := by unfold Bus.stopping; rw [phase, owed]
  obtain ⟨outside, running, halted, restart⟩ := h.run
  refine ⟨?_, ?_, ?_, fun hrun => ?_, ?_, ?_, ?_⟩
  · rw [settings]; exact h.settings
  · rw [State.LinkLaw, line]; exact h.link
  · rw [State.LineLaw, line]; exact h.line
  · rw [runState] at hrun
    rw [State.anyOpen_eq_false_iff, stopping, line]
    exact ⟨shut.resolve_left hrun (h.shut hrun), (outside hrun).2⟩
  · rw [runState, owed, phase]; exact running
  · rw [runState, line]; exact halted
  · rw [pending, runState]; exact restart

/-- A change behind the front and behind the records. -/
theorem State.FrontSound.of_frame (h : s.FrontSound) (e : t.front = s.front) (records : t.records = s.records) : t.FrontSound :=
  h.of_front e (.inr fun hs m => by rw [State.session, records]; exact hs m)

theorem State.FrontSound.ite {p : Prop} [Decidable p] (ht : p → t.FrontSound) (h : s.FrontSound) :
    (if p then t else s).FrontSound := by
  split
  · exact ht ‹p›
  · exact h

/-- The place in the scan cycle moves, and no stop is sent. -/
def State.Goes (s t : State) : Prop := ∃ p, p ≠ BusPhase.stopped ∧ t.front = { s.front with phase := p }

theorem State.Goes.after (h : t.Goes u) (e : t.front = s.front) : s.Goes u := by
  unfold State.Goes
  rwa [← e]

/-- A running device goes on in its scan cycle. -/
theorem State.FrontSound.goes (h : s.FrontSound) (hrun : s.supply.runState = .running) (hg : s.Goes t) : t.FrontSound := by
  obtain ⟨p, hp, e⟩ := hg
  obtain ⟨_, running, halted, restart⟩ := h.run
  have placed : (s.withBus { s.bus with phase := p }).FrontSound :=
    ⟨h.settings, h.link, h.line, fun hno => absurd hrun hno, fun _ => ⟨(running hrun).1, hp⟩, halted, restart⟩
  exact placed.of_front e (.inl hrun)

/-- A change of the host line. -/
theorem State.FrontSound.withLine (h : s.FrontSound) {l : HostLine} (link : (s.withLine l).LinkLaw)
    (line : (s.withLine l).LineLaw) (outside : s.supply.runState ≠ .running → l.busyList = [] ∧ l.parser.hunting = true)
    (halted : s.supply.runState = .halted → l.sending = none ∧ l.replyWaiting = none) : (s.withLine l).FrontSound := by
  obtain ⟨stopped, running, _, restart⟩ := h.run
  refine ⟨h.settings, link, line, fun hrun => ?_, running, halted, restart⟩
  obtain ⟨shut, stopping, _⟩ := stopped hrun
  exact ⟨shut, stopping, outside hrun⟩

/-- A change of the host line of a running device. -/
theorem State.FrontSound.withLine_running (h : s.FrontSound) (hrun : s.supply.runState = .running) {l : HostLine}
    (link : (s.withLine l).LinkLaw) (line : (s.withLine l).LineLaw) : (s.withLine l).FrontSound :=
  h.withLine link line (fun hno => absurd hrun hno) fun hhalt => by simp [hrun] at hhalt

/-! ## Sessions that stay closed -/

theorem State.Shut.of_states (h : s.Shut) (e : ∀ n, (t.session n).state = (s.session n).state) : t.Shut := fun n => by
  rw [e n]
  exact h n

theorem State.Shut.setSession (h : s.Shut) {r : Session} (hr : r.state = (s.session n).state) : (s.setSession n r).Shut :=
  h.of_states fun m => by
    by_cases hm : m = n
    · subst hm; rw [State.session_setSession_self, hr]
    · rw [State.session_setSession_ne s hm]

theorem meterSteps_shut (h : s.Shut) (n : Ped) (count : Nat) : (meterSteps n count s).Shut :=
  h.of_states fun m => by
    by_cases hm : m = n
    · subst hm; exact meterSteps_state m count
    · rw [meterSteps_session_ne hm]

/-- A lost pedestal ends the open sessions alone (R28). -/
theorem loseSession_closed (h : (s.session n).state.isOpen = false) : loseSession n s = s := by
  unfold loseSession
  simp only []
  split
  case h_8 | h_9 | h_10 => rfl
  all_goals
    rename_i hs
    simp [hs, SessionState.isOpen] at h

theorem takeMiss_shut (h : s.Shut) (n : Ped) : (takeMiss n s).Shut := by
  unfold takeMiss
  simp only []
  split
  · rw [loseSession_closed (by simpa using h n)]
    exact h
  · exact h

/-- With STOP-ALL owed an exchange opens no session (R160). -/
theorem takeExchange_shut (h : s.Shut) (howed : s.bus.stopAllOwed = true) (e : Exchange) (reply : Option StatusReply) :
    (takeExchange e reply s).Shut := by
  unfold takeExchange
  split
  · exact h
  · cases reply with
    | none => exact takeMiss_shut h _
    | some x => exact meterSteps_shut h _ _

/-- A stop cause leaves its pedestal without an open session (R29, R32). -/
theorem haltSession_closed (why : EndReason) (n : Ped) (s : State) : ((haltSession why n s).session n).state.isOpen = false := by
  unfold haltSession
  split
  case h_1 =>
    rw [cancelSession_session_self]
    unfold Session.toCancelled
    by_cases hp : (s.session n).hasPlug = .yes <;> simp [hp, SessionState.isOpen]
  case h_8 hs | h_9 hs | h_10 hs => rw [hs]; rfl
  all_goals exact closeSession_not_open _ _ _

theorem haltSession_session_ne {m : Ped} (hm : m ≠ n) (why : EndReason) (s : State) :
    (haltSession why n s).session m = s.session m := by
  unfold haltSession
  split
  case h_1 => exact cancelSession_session_ne hm _
  case h_8 | h_9 | h_10 => rfl
  all_goals exact closeSession_session_ne hm _

/-- A stop of every session leaves none open, whatever the records held. -/
theorem haltAll_shut (why : EndReason) (s : State) : (forPedestals (haltSession why) s).Shut := by
  have foldl : ∀ (l : List Ped) (u : State) (m : Ped), (m ∈ l ∨ (u.session m).state.isOpen = false) →
      ((l.foldl (fun v k => haltSession why k v) u).session m).state.isOpen = false := by
    intro l
    induction l with
    | nil => exact fun u m hm => hm.resolve_left List.not_mem_nil
    | cons k l ih =>
      refine fun u m hm => ih _ m ?_
      by_cases hmk : m = k
      · subst hmk; exact .inr (haltSession_closed why m u)
      · rw [haltSession_session_ne hmk]
        exact hm.imp_left fun hmem => (List.mem_cons.1 hmem).resolve_left hmk
  exact fun m => foldl Ped.all s m (.inl (mem_all m))

theorem haltAll_front (why : EndReason) (s : State) : (forPedestals (haltSession why) s).front = s.front :=
  forPedestals_front (fun n u => haltSession_front n u why) s

end Sys2Proof.Machine
end

section
/-! SUPPORT. O60: the scan cycle, the stop causes and the starts keep the laws of the front (R150, R158 to R161, R188 to R192). -/

namespace Sys2Proof.Machine

variable {s t u : State} {n : Ped}

/-! ## The scan cycle -/

theorem sendCommand_goes (n : Ped) (outOfTurn : Bool) (s : State) : s.Goes (sendCommand n outOfTurn s) := by
  rw [sendCommand_eq]
  exact ⟨.exchange ⟨n, outOfTurn, false⟩, nofun, rfl⟩

theorem endCycle_goes (s : State) : s.Goes (endCycle s) := ⟨.idle, nofun, rfl⟩

theorem nextTurn_goes (l : List Ped) (s : State) : s.Goes (nextTurn l s) := by
  unfold nextTurn
  split
  · exact sendCommand_goes _ _ s
  · exact ⟨.alertSlot, nofun, rfl⟩

theorem takeAlert_goes (reading : Nat) (s : State) : s.Goes (takeAlert reading s) := by
  unfold takeAlert
  simp only []
  split
  · exact endCycle_goes s
  · split
    · split
      · exact (sendCommand_goes _ _ _).after (quietActivity_front s)
      · exact (endCycle_goes _).after (quietActivity_front s)
    · exact (endCycle_goes _).after (quietActivity_front s)

theorem startCycle_goes (s : State) : s.Goes (startCycle s) := by
  unfold startCycle
  simp only []
  refine (nextTurn_goes _ _).after ?_
  rw [forPedestals_front fun n u => State.setEntry_front n u _]
  split
  · rw [allocationRound_front]; rfl
  · rfl

/-- STOP-ALL is sent as an exchange ends outside RUNNING (R160). -/
theorem State.FrontSound.sendStopAll (h : s.FrontSound) (hrun : s.supply.runState ≠ .running) : (sendStopAll s).FrontSound := by
  obtain ⟨outside, _, halted, restart⟩ := h.run
  obtain ⟨shut, _, line⟩ := outside hrun
  exact ⟨h.settings, h.link, h.line, fun _ => ⟨shut, rfl, line⟩, fun hr => absurd hr hrun, halted, restart⟩

/-- An exchange ends: with the next turn, with the end of the cycle, or outside RUNNING with STOP-ALL. -/
theorem exchange_frontSound {e : Exchange} (h : s.FrontSound) (hphase : s.bus.phase = .exchange e) (reply : Option StatusReply) :
    (endExchange e (takeExchange e reply s)).FrontSound := by
  have front := takeExchange_front s e reply
  obtain ⟨_, _, runState, _, _, owed⟩ := State.front_eq_iff.1 front
  by_cases hrun : s.supply.runState = .running
  · have taken := h.of_front front (.inl hrun)
    have notOwed : (takeExchange e reply s).bus.stopAllOwed = false := owed.trans (h.run.2.1 hrun).1
    refine taken.goes (runState.trans hrun) ?_
    cases hout : e.outOfTurn
    · rw [endExchange_inTurn e notOwed hout]
      exact nextTurn_goes _ _
    · rw [endExchange_outOfTurn e notOwed hout]
      exact endCycle_goes _
  · have howed := h.owed hrun hphase
    have taken := h.of_front front (.inr fun shut => takeExchange_shut shut howed e reply)
    rw [endExchange_stopAll e (owed.trans howed)]
    exact taken.sendStopAll (by rwa [runState])

/-! ## Stop causes (R188, R189) -/

theorem Bus.askedToStop_stopping (b : Bus) : b.askedToStop.stopping = true := by
  unfold Bus.askedToStop Bus.stopping
  cases hphase : b.phase <;> simp [hphase]

theorem haltDevice_frontSound (h : s.FrontSound) : (haltDevice s).FrontSound := by
  have shut := haltAll_shut .supplyLoss s
  obtain ⟨settings, _⟩ := State.front_eq_iff.1 (haltAll_front .supplyLoss s)
  rw [haltDevice_eq]
  generalize forPedestals (haltSession .supplyLoss) s = v at shut settings ⊢
  refine ⟨?_, h.link, ⟨?_, ?_, ?_, h.line.2.2.2⟩, fun _ => ⟨(State.anyOpen_eq_false_iff _).2 shut, ?_, rfl, rfl⟩, ?_,
    fun _ => ⟨rfl, rfl⟩, rfl⟩
  · show v.settings.InRange
    rw [settings]
    exact h.settings
  · exact nofun
  · exact fun hne => absurd rfl hne
  · exact Nat.zero_le _
  · exact v.bus.askedToStop_stopping
  · exact nofun

theorem stopCause_frontSound (h : s.FrontSound) : (stopCause s).FrontSound := by
  unfold stopCause
  split
  · exact h
  · exact haltDevice_frontSound h

theorem losePower_frontSound (h : s.FrontSound) (hhalt : s.supply.runState = .halted) : (losePower s).FrontSound := by
  obtain ⟨outside, _, halted, restart⟩ := h.run
  have hrun : s.supply.runState ≠ .running := by simp [hhalt]
  obtain ⟨shut, _, line⟩ := outside hrun
  exact ⟨h.settings, h.link, h.line, fun _ => ⟨shut, rfl, line⟩, fun hr => absurd hr hrun, halted, restart⟩

/-! ## Starts (R187, R191, R192) -/

theorem latchStart_front (kind : StartKind) (cause : StartCause) (s : State) : (latchStart kind cause s).front = s.front := by
  unfold latchStart
  simp only []
  split <;> rfl

/-- A device that has started: RUNNING before its first cycle, with nothing to send and settings in range. -/
theorem State.FrontSound.of_started {g : Settings} {a b : BaudRate} (hg : g.InRange)
    (e : t.front = ⟨g, { strap := a, baud := b }, .running, none, .idle, false⟩) : t.FrontSound := by
  have started : State.FrontSound { settings := g, line := { strap := a, baud := b } } :=
    ⟨hg, rfl, ⟨nofun, fun hne => absurd rfl hne, Nat.zero_le _, Nat.zero_le _⟩,
      fun hno => absurd rfl hno, fun _ => ⟨rfl, nofun⟩, nofun, rfl⟩
  exact started.of_front e (.inl rfl)

theorem settings_default_inRange : Settings.InRange {} := by decide

theorem freshStart_frontSound (kind : StartKind) (cause : StartCause) (q : Settlement) (s : State) :
    (freshStart kind cause q s).FrontSound := .of_started settings_default_inRange (latchStart_front _ _ _)

theorem markerStart_frontSound (cause : StartCause) (s : State) : (markerStart cause s).FrontSound := by
  unfold markerStart
  split <;> exact freshStart_frontSound _ _ _ s

theorem softStart_frontSound (h : s.FrontSound) : (softStart s).FrontSound := .of_started h.settings (latchStart_front _ _ _)

end Sys2Proof.Machine
end

section
/-! SUPPORT. O60: requests, characters and sending keep the laws of the front (R141, R142, R148, R174 to R181, R192). -/

namespace Sys2Proof.Machine

variable {s t : State} {n : Ped}

/-! ## Settings in range (R141, R142) -/

/-- A value of a PARK-SET body, or the one before it, lies in range. -/
theorem parkValue_inRange {body : List Byte} {item low high off size old : Nat} (hle : low ≤ high)
    (h : low ≤ old ∧ old ≤ high) :
    low ≤ parkValue body item low high off size old ∧ parkValue body item low high off size old ≤ high := by
  unfold parkValue ParkItem.nearest
  split
  · exact ⟨Nat.le_max_left _ _, Nat.max_le.2 ⟨hle, Nat.min_le_left _ _⟩⟩
  · exact h

theorem parkSettings_inRange (body : List Byte) {g : Settings} (h : g.InRange) : (parkSettings body g).InRange := by
  unfold Settings.InRange settingRows at h ⊢
  simp only [List.forall_mem_cons, List.not_mem_nil, false_imp_iff, implies_true, and_true] at h ⊢
  revert h
  iterate 17 refine And.imp (parkValue_inRange (by decide)) ?_
  exact parkValue_inRange (by decide)

/-! ## Sending (R178) -/

/-- The interface is free for a reply: no reply is being sent or waits, and no BUSY reply waits. -/
theorem HostLine.busy_eq_false {l : HostLine} (h : l.busy = false) :
    (l.sending = none ∨ ∃ f, l.sending = some (.notice f)) ∧ l.replyWaiting = none ∧ l.busyList = [] := by
  unfold HostLine.busy at h
  simp only [Bool.or_eq_false_iff, Bool.not_eq_false', List.isEmpty_iff, Option.isSome_eq_false_iff, Option.isNone_iff_eq_none] at h
  obtain ⟨⟨hsending, hwaiting⟩, hlist⟩ := h
  refine ⟨?_, hwaiting, hlist⟩
  rcases hs : l.sending with _ | r | f
  · exact .inl rfl
  · simp [hs] at hsending
  · exact .inr ⟨f, rfl⟩

/-- While the interface is busy something is being sent. -/
theorem State.LineLaw.sending_of_busy (h : s.LineLaw) (hb : s.line.busy = true) : s.line.sending.isSome = true := by
  obtain ⟨waits, listed, _⟩ := h
  unfold HostLine.busy at hb
  rcases hs : s.line.sending with _ | f
  · have hlist : s.line.busyList = [] := by
      by_contra hne
      simpa [hs] using listed hne
    have hwaiting : s.line.replyWaiting.isSome = false := by
      by_contra hw
      obtain ⟨_, e⟩ := waits (eq_true_of_ne_false hw)
      simp [hs] at e
    simp [hs, hlist, hwaiting] at hb
  · rfl

/-- A reply may go out: the laws hold, the interface is not busy, no frame is being parsed, and the device is not HALTED. -/
structure State.MayReply (s : State) : Prop where
  sound : s.FrontSound
  free : s.line.busy = false
  hunting : s.line.parser.hunting = true
  alive : s.supply.runState ≠ .halted

theorem State.MayReply.sendReply (h : s.MayReply) (r : Reply) : (sendReply r s).FrontSound := by
  obtain ⟨sending, waiting, list⟩ := HostLine.busy_eq_false h.free
  have outside : s.supply.runState ≠ .running → s.line.busyList = [] ∧ s.line.parser.hunting = true := fun _ =>
    ⟨list, h.hunting⟩
  obtain ⟨_, _, short, errors⟩ := h.sound.line
  rcases sending with idle | ⟨f, notice⟩
  · rw [sendReply_idle idle]
    refine h.sound.withLine h.sound.link ⟨fun hw => ?_, fun _ => rfl, short, errors⟩ outside fun hhalt => absurd hhalt h.alive
    simp [waiting] at hw
  · rw [sendReply_waits notice]
    refine h.sound.withLine h.sound.link ⟨fun _ => ⟨f, notice⟩, fun hne => absurd list hne, short, errors⟩ outside
      fun hhalt => absurd hhalt h.alive

theorem startNotice_frontSound (h : s.FrontSound) : (startNotice s).FrontSound := by
  unfold startNotice
  split
  · rename_i hc
    obtain ⟨hfree, hrun⟩ := hc
    unfold HostLine.free at hfree
    simp only [Bool.and_eq_true, Option.isNone_iff_eq_none, List.isEmpty_iff] at hfree
    obtain ⟨⟨_, waiting⟩, list⟩ := hfree
    obtain ⟨_, _, short, errors⟩ := h.line
    split
    · rename_i k _
      have noticed := h.withLine_running hrun (l := { s.line with sending := some (.notice (noticeFor k s.conds).1) }) h.link
        ⟨fun hw => ⟨_, rfl⟩, fun _ => rfl, short, errors⟩
      exact noticed.of_frame rfl rfl
    · exact h
  · exact h

/-- The frame under way has gone, and what waits behind it follows. -/
theorem frameSent_frontSound (h : s.FrontSound) : (frameSent s).FrontSound := by
  obtain ⟨waits, _, short, errors⟩ := h.line
  obtain ⟨outside, _, halted, _⟩ := h.run
  unfold frameSent
  split
  · rename_i r _ hw
    refine h.withLine h.link ⟨nofun, fun _ => rfl, short, errors⟩ (fun hrun => (outside hrun).2.2) fun hhalt => ?_
    simp [(halted hhalt).2] at hw
  · rename_i b bs hw hl
    have hrun : s.supply.runState = .running := by
      by_contra hrun
      simp [(outside hrun).2.2.1] at hl
    refine h.withLine_running hrun h.link ⟨fun hsome => ?_, fun _ => rfl, ?_, errors⟩
    · simp [hw] at hsome
    · rw [hl] at short
      exact (Nat.le_succ _).trans short
  · rename_i hw hl
    refine startNotice_frontSound (h.withLine h.link ⟨fun hsome => ?_, fun hne => absurd hl hne, short, errors⟩
      (fun hrun => (outside hrun).2.2) fun hhalt => ⟨rfl, hw⟩)
    simp [hw] at hsome

/-! ## Requests -/

/-- What a request of a running device leaves alone. -/
theorem State.MayReply.of_front (h : s.MayReply) (hrun : s.supply.runState = .running) (e : t.front = s.front) : t.MayReply := by
  obtain ⟨_, line, runState, _⟩ := State.front_eq_iff.1 e
  exact ⟨h.sound.of_front e (.inl hrun), by rw [line]; exact h.free, by rw [line]; exact h.hunting, by rw [runState]; exact h.alive⟩

theorem statusRead_mayReply (h : s.MayReply) (hrun : s.supply.runState = .running) (body : List Byte) :
    (statusRead.act body s).2.MayReply := by
  obtain ⟨waits, listed, short, _⟩ := h.sound.line
  exact ⟨h.sound.withLine_running hrun h.sound.link ⟨waits, listed, short, Nat.zero_le _⟩, h.free, h.hunting, h.alive⟩

theorem parkSet_mayReply (h : s.MayReply) (body : List Byte) : (parkSet.act body s).2.MayReply := by
  by_cases hbits : 2 ^ 19 ≤ fieldAt body 0 3
  · rw [parkSet_outOfRange hbits]
    exact h
  · rw [parkSet_taken (Nat.lt_of_not_le hbits)]
    exact ⟨⟨parkSettings_inRange body h.sound.settings, h.sound.link, h.sound.line, h.sound.run⟩, h.free, h.hunting, h.alive⟩

theorem voidExchange_goes (n : Ped) (h : s.bus.phase ≠ .stopped) : s.Goes (voidExchange n s) := by
  have stays : s.Goes s := ⟨s.bus.phase, h, rfl⟩
  unfold voidExchange
  split
  · rename_i e _
    split
    · exact ⟨.exchange { e with void := true }, nofun, rfl⟩
    · exact stays
  all_goals exact stays

theorem withdraw_mayReply (h : s.MayReply) (hrun : s.supply.runState = .running) (body : List Byte) :
    (withdraw.act body s).2.MayReply := by
  have withdrawn : ∀ n, (voidExchange n (s.setEntry n {})).MayReply := by
    intro n
    have goes := (voidExchange_goes (s := s.setEntry n {}) n (h.sound.run.2.1 hrun).2).after (s.setEntry_front n {})
    have line : (voidExchange n (s.setEntry n {})).line = s.line := by rw [voidExchange_eq]; rfl
    have supply : (voidExchange n (s.setEntry n {})).supply = s.supply := by rw [voidExchange_eq]; rfl
    exact ⟨h.sound.goes hrun goes, by rw [line]; exact h.free, by rw [line]; exact h.hunting, by rw [supply]; exact h.alive⟩
  unfold withdraw
  simp only []
  split
  · exact h
  · split
    · exact h
    · split
      · exact h
      · exact withdrawn _

/-- With no session open the device enters RESTARTING: STOP-ALL goes out or is owed, and DONE may be sent (R192). -/
theorem enterRestarting_mayReply (h : s.MayReply) (shut : s.Shut) (kind : RestartKind) : (enterRestarting kind s).MayReply := by
  obtain ⟨_, _, list⟩ := HostLine.busy_eq_false h.free
  obtain ⟨waits, _, _, errors⟩ := h.sound.line
  have line : ({ s.line with busyList := [] } : HostLine) = s.line := by rw [← list]
  unfold enterRestarting
  simp only [requestStopAll_eq]
  exact ⟨⟨h.sound.settings, h.sound.link, ⟨waits, fun hne => absurd rfl hne, Nat.zero_le _, errors⟩,
    fun _ => ⟨(State.anyOpen_eq_false_iff _).2 shut, s.bus.askedToStop_stopping, rfl, h.hunting⟩, nofun, nofun, rfl⟩,
    (congrArg HostLine.busy line).trans h.free, h.hunting, nofun⟩

theorem restart_mayReply (h : s.MayReply) (hrun : s.supply.runState = .running) (body : List Byte) :
    (restart.act body s).2.MayReply := by
  unfold restart
  simp only []
  split
  · exact enterRestarting_mayReply (h.of_front hrun (haltAll_front .hostRestart s)) (haltAll_shut .hostRestart s) .soft
  · split
    · exact h
    · rename_i hopen
      exact enterRestarting_mayReply h ((s.anyOpen_eq_false_iff).1 (by simpa using hopen)) .hard
  · exact h

theorem enrol_front (body : List Byte) (s : State) : (enrol.act body s).2.front = s.front := by
  have dropped : ∀ n, (dropShare n s).front = s.front := by
    intro n
    unfold dropShare
    simp only []
    split <;> rfl
  unfold enrol
  simp only []
  split
  · rfl
  · split
    · rfl
    · split
      · exact dropped _
      · rfl

theorem sessionStop_front (body : List Byte) (s : State) : (sessionStop.act body s).2.front = s.front := by
  unfold sessionStop hostStop
  simp only []
  generalize (if body.length = 3 then some (fieldAt body 1 2) else none) = given
  split
  · rfl
  · split
    · rfl
    · split
      · rfl
      · simp only [done]
        split <;> simp

theorem authDecision_front (body : List Byte) (s : State) : (authDecision.act body s).2.front = s.front := by
  unfold authDecision
  simp only []
  split
  · rfl
  · split
    · rfl
    · split
      · rfl
      · exact cancelSession_front _ s _
      · split
        · rfl
        · exact offerGrant_front _ s _

theorem countersRead_front (body : List Byte) (s : State) : (countersRead.act body s).2.front = s.front :=
  forPedestals_front (fun n u => u.setEntry_front n { u.entry n with frameErrors := 0, missMark := false }) s

/-- Every request of the catalogue, taken by a running device, leaves a reply that may go out; those named in no lemma above leave
the front as it is. -/
theorem catalogue_mayReply {kind : Byte} {q : Request} (hq : catalogue kind = some q) (h : s.MayReply)
    (hrun : s.supply.runState = .running) (body : List Byte) : (q.act body s).2.MayReply := by
  unfold catalogue at hq
  split at hq <;> cases hq
  case h_1 => exact statusRead_mayReply h hrun body
  case h_2 => exact parkSet_mayReply h body
  case h_14 => exact h.of_front hrun (enrol_front body s)
  case h_15 => exact withdraw_mayReply h hrun body
  case h_18 => exact h.of_front hrun (countersRead_front body s)
  case h_20 => exact h.of_front hrun (sessionStop_front body s)
  case h_22 => exact h.of_front hrun (authDecision_front body s)
  case h_29 => exact restart_mayReply h hrun body
  all_goals
    refine h.of_front hrun ?_
    dsimp only [parkRead, parkOpen, parkClose, clockSet, siteLoad, tariffWrite, tariffRead, tariffClear, windowWrite, windowRead,
      windowClear, unblock, pedestalRead, sessionRead, sessionCap, queryList, settleFetch, fetchUnnamed, fetchNamed, settleConfirm,
      conditionsRead, conditionsClear, conditionsMask]
    repeat' split
    all_goals rfl

/-! ## Frames (R177, R178, R181) -/

/-- A valid frame restarts the silence timer of a running device, and the link is ATTENDED (R181). -/
theorem served_frontSound (h : s.FrontSound) (hrun : s.supply.runState = .running) : s.served.FrontSound := by
  let l : HostLine := { s.line with
    parser := .hunt false, mode := .attended, silenceTimer := some (s.after s.settings.linkSilence) }
  have linked : (s.withLine l).FrontSound := h.withLine_running hrun rfl h.line
  rcases linkFrame_cases (s.withLine { s.line with parser := .hunt false }) with ⟨_, e⟩ | ⟨_, e⟩
  · rw [State.served, e]
    exact linked
  · rw [State.served, e]
    exact linked.of_frame (latchPark_front _ _ _) rfl

theorem State.served_parser (s : State) : s.served.line.parser = .hunt false := by
  rcases linkFrame_cases (s.withLine { s.line with parser := .hunt false }) with ⟨_, e⟩ | ⟨_, e⟩ <;> rw [State.served, e] <;> rfl

@[simp] theorem State.served_supply (s : State) : s.served.supply = s.supply := by
  obtain ⟨l, c, h⟩ := s.served_eq; rw [h]

/-- A change of parser and line-error count on a running device. -/
theorem State.FrontSound.parsed (h : s.FrontSound) (hrun : s.supply.runState = .running) (p : Parser) {k : Nat}
    (hk : k ≤ Config.max16) : (s.withLine { s.line with parser := p, lineErrors := k }).FrontSound := by
  obtain ⟨waits, listed, short, _⟩ := h.line
  exact h.withLine_running hrun h.link ⟨waits, listed, short, hk⟩

theorem State.FrontSound.withParser (h : s.FrontSound) (hrun : s.supply.runState = .running) (p : Parser) :
    (s.withParser p).FrontSound := h.parsed hrun p h.line.2.2.2

theorem State.FrontSound.countLineError (h : s.FrontSound) (hrun : s.supply.runState = .running) :
    (countLineError s).FrontSound := h.parsed hrun s.line.parser (satAdd_le _ _ _)

theorem refuseBusy_frontSound (h : s.FrontSound) (hrun : s.supply.runState = .running) (hb : s.line.busy = true) (kind tag : Byte) :
    (refuseBusy kind tag s).FrontSound := by
  obtain ⟨waits, _, _, errors⟩ := h.line
  unfold refuseBusy
  split
  · rename_i hroom
    refine h.withLine_running hrun h.link ⟨waits, fun _ => h.line.sending_of_busy hb, ?_, errors⟩
    rw [State.withLine_line, List.length_append]
    exact hroom
  · exact h.countLineError hrun

theorem takeFrame_frontSound (h : s.FrontSound) (kind tag : Byte) (body : List Byte) :
    (takeFrame kind tag body (catalogue kind) s).FrontSound := by
  refine .ite (fun hrun => ?_) h
  have served := served_frontSound h hrun
  have running : s.served.supply.runState = .running := by rw [State.served_supply]; exact hrun
  have hunting : s.served.line.parser.hunting = true := by rw [State.served_parser]; rfl
  show (answerFrame kind tag body (catalogue kind) s.served).FrontSound
  generalize s.served = u at served running hunting
  unfold answerFrame
  split
  · exact refuseBusy_frontSound served running ‹_› kind tag
  · rename_i hb
    have ready : u.MayReply := ⟨served, by simpa using hb, hunting, by simp [running]⟩
    split
    · exact ready.sendReply _
    · split
      · exact ready.sendReply _
      · rename_i q hq
        split
        · exact (catalogue_mayReply hq ready running body).sendReply _
        · exact ready.sendReply _

/-! ## Characters (R175, R176) -/

theorem discardFrame_frontSound (h : s.FrontSound) (hrun : s.supply.runState = .running) : (discardFrame s).FrontSound :=
  (h.countLineError hrun).withParser hrun _

theorem badSyncByte_frontSound (h : s.FrontSound) (hrun : s.supply.runState = .running) (badRun : Bool) :
    (badSyncByte badRun s).FrontSound := by
  unfold badSyncByte
  split
  · exact h.withParser hrun _
  · exact (h.countLineError hrun).withParser hrun _

theorem parseByte_frontSound (h : s.FrontSound) (hrun : s.supply.runState = .running) (b : Byte) : (parseByte b s).FrontSound := by
  unfold parseByte endFrame
  split
  case h_1 =>
    split
    · exact h.withParser hrun _
    · exact badSyncByte_frontSound h hrun _
  case h_2 =>
    split
    · exact h.withParser hrun _
    · exact discardFrame_frontSound h hrun
  case h_7 =>
    split
    · exact takeFrame_frontSound h _ _ _
    · exact discardFrame_frontSound h hrun
  all_goals exact h.withParser hrun _

theorem receiveChar_frontSound (h : s.FrontSound) (c : RxChar) : (receiveChar c s).FrontSound := by
  unfold receiveChar badStop
  refine .ite (fun hrun => ?_) h
  split
  · exact parseByte_frontSound h hrun _
  · split
    · exact badSyncByte_frontSound h hrun _
    all_goals exact discardFrame_frontSound h hrun

theorem receive_frontSound (h : s.FrontSound) (received : List RxChar) : (receive received s).FrontSound := by
  unfold receive
  induction received generalizing s with
  | nil => exact h
  | cons c cs ih => exact ih (receiveChar_frontSound h c)

end Sys2Proof.Machine
end

section
/-! SUPPORT. O60: every command, and with it every step, keeps the laws of settings, link, host line and run states. -/

namespace Sys2Proof.Machine

variable {s t : State} {n : Ped}

/-! ## Timers of sessions -/

/-- An operation behind the front on a session that is open. -/
theorem State.FrontSound.of_open (h : s.FrontSound) (hn : (s.session n).state.isOpen = true) (e : t.front = s.front) :
    t.FrontSound := h.of_front e (.inl (h.running_of_open hn))

theorem tickSecond_frontSound (h : s.FrontSound) : (tickSecond s).FrontSound := by
  refine h.of_front rfl (.inr fun shut => shut.of_states fun n => ?_)
  rw [tickSecond_session]
  unfold Session.tickOccupying
  split <;> rfl

theorem idleMinuteOf_frontSound (h : s.FrontSound) (n : Ped) : (idleMinuteOf n s).FrontSound := by
  unfold idleMinuteOf
  split
  · refine .ite (fun _ => h.of_front rfl (.inr fun shut => shut.setSession ?_)) h
    unfold Session.chargeIdleMinute
    split <;> rfl
  · exact h

/-! ## Commands and steps -/

/-- An input moves, or the main supply. -/
theorem State.FrontSound.withSupply (h : s.FrontSound) {v : Supply} (runState : v.runState = s.supply.runState)
    (pending : v.pendingRestart = s.supply.pendingRestart) : (s.withSupply v).FrontSound :=
  h.of_frame (State.front_eq_iff.2 ⟨rfl, rfl, runState, pending, rfl, rfl⟩) rfl

/-- Every command keeps the laws. -/
theorem exec_frontSound (i : Instr) (h : s.FrontSound) : ∃ t, exec i s = .next t ∧ t.FrontSound := by
  cases i
  case frameDiscarded received => exact ⟨_, rfl, receive_frontSound h received⟩
  case badSyncRun received => exact ⟨_, rfl, receive_frontSound h received⟩
  case frameGapTimeout received =>
    have received := receive_frontSound h received
    exact ⟨_, rfl, .ite (fun hc => discardFrame_frontSound received hc.1) received⟩
  case linkSilenceExpiry =>
    refine ⟨_, rfl, ?_⟩
    split
    · rename_i p _
      refine .ite (fun _ => ?_) h
      have reached : (s.reach p).FrontSound := h.of_frame rfl rfl
      obtain ⟨outside, _, halted, _⟩ := h.run
      exact reached.withLine rfl h.line (fun hrun => (outside hrun).2.2) halted
    · exact h
  case replySent | noticeSent =>
    refine ⟨_, rfl, ?_⟩
    split
    case h_1 => exact frameSent_frontSound h
    all_goals exact h
  case notice => exact ⟨_, rfl, startNotice_frontSound h⟩
  case softRestart => exact ⟨_, rfl, .ite (fun _ => softStart_frontSound h) h⟩
  case hardRestart => exact ⟨_, rfl, .ite (fun _ => freshStart_frontSound _ _ _ s) h⟩
  case cycleStart => exact ⟨_, rfl, .ite (fun hc => h.goes hc.1 (startCycle_goes s)) h⟩
  case statusReply | exchangeMiss =>
    refine ⟨_, rfl, ?_⟩
    split
    case h_1 hphase => exact exchange_frontSound h hphase _
    all_goals exact h
  case alertSlot =>
    refine ⟨_, rfl, ?_⟩
    split
    case h_1 hphase => exact h.goes (h.running_of_alertSlot hphase) (takeAlert_goes _ s)
    all_goals exact h
  case quietTimerExpiry =>
    refine ⟨_, rfl, ?_⟩
    split
    · exact .ite (fun _ => h.of_frame rfl rfl) h
    · exact h
  case authDeadlineExpiry n =>
    refine ⟨_, rfl, ?_⟩
    split
    · rename_i p hp
      exact h.of_open (n := n) (by rw [State.authDeadlineOf_some hp]; rfl) (authExpired_front n _)
    · exact h
  case plugDeadlineExpiry n =>
    refine ⟨_, rfl, ?_⟩
    split
    · rename_i p hp
      exact h.of_open (n := n) (by rw [State.plugDeadlineOf_some hp]; rfl) (closeSession_front n _ _)
    · exact h
  case probeDeadlineExpiry n =>
    refine ⟨_, rfl, ?_⟩
    split
    · rename_i p hp
      exact h.of_open (n := n) (by rw [State.probeDeadlineOf_some hp]; rfl) (attemptFailed_front n _)
    · exact h
  case endingDeadlineExpiry n =>
    refine ⟨_, rfl, ?_⟩
    split
    · rename_i p hp
      exact h.of_open (n := n) (by rw [State.endingDeadlineOf_some hp]; rfl) (closeSession_front n _ _)
    · exact h
  case refusalDisplayExpiry n =>
    refine ⟨_, rfl, ?_⟩
    split
    · exact .ite (fun _ => h.of_front rfl (.inr fun shut => State.Shut.setSession (s := s.reach _) shut rfl)) h
    · exact h
  case oneSecondTick =>
    refine ⟨_, rfl, ?_⟩
    split
    · exact h
    · exact tickSecond_frontSound h
  case suspendLimit n =>
    refine ⟨_, rfl, .ite (fun hc => ?_) h⟩
    have hs : (s.session n).state = .suspended := by
      have reached := hc.2
      simp only [State.suspendLimitReached, Bool.and_eq_true, beq_iff_eq] at reached
      exact reached.1
    exact h.of_open (n := n) (by rw [hs]; rfl) (putSession_front n s _)
  case idleMinute n => exact ⟨_, rfl, .ite (fun _ => idleMinuteOf_frontSound h n) h⟩
  case supplyWarning | reset => exact ⟨_, rfl, (stopCause_frontSound h).withSupply rfl rfl⟩
  case supplyFail =>
    refine ⟨_, rfl, ?_⟩
    split
    · rename_i hhalt
      exact losePower_frontSound h hhalt
    · exact (haltDevice_frontSound h).withSupply rfl rfl
  case retentionLoss =>
    exact ⟨_, rfl, .ite (fun hhalt => (losePower_frontSound h hhalt).of_frame rfl rfl) h⟩
  case powerOn => exact ⟨_, rfl, .ite (fun _ => markerStart_frontSound _ s) h⟩
  case haltedStart => exact ⟨_, rfl, .ite (fun _ => markerStart_frontSound _ s) h⟩
  all_goals exact ⟨_, exec_requestFrame rfl s, takeFrame_frontSound h _ _ _⟩

theorem step_frontSound (h : s.FrontSound) (e : step s = .next t) : t.FrontSound := by
  unfold step at e
  split at e
  · obtain rfl := Host.Outcome.next.inj e
    unfold idle
    split
    · exact h
    · exact h.of_frame rfl rfl
  · rename_i c rest _
    have taken : State.FrontSound { s with pending := rest } := h.of_frame rfl rfl
    obtain ⟨u, hu, sound⟩ := exec_frontSound c taken
    obtain rfl := Host.Outcome.next.inj (hu.symm.trans e)
    exact sound

/-- Settles O60: operations on sessions stay behind the front, those on the front keep its laws, and outside RUNNING no operation
that could open a session is taken. -/
theorem stepsKeepLineAndRunStates : Obligations.StepsKeepLineAndRunStates := by
  intro s t settings link line run e
  obtain ⟨settings, link, line, run⟩ := step_frontSound ⟨settings, link, line, run⟩ e
  exact ⟨settings, link, line, run⟩

end Sys2Proof.Machine
end

section
/-! SUPPORT. O59: the pace and the quiet timer while records change: the two entries of R151 keep their law, and so do the
operations on one session, which write records through them. -/

namespace Sys2Proof.Machine

variable {s t : State} {n : Ped}

/-! ## The law by record states -/

/-- The law of pace and quiet timer, read of the states of the records (R151). -/
def State.Paced (s : State) : Prop :=
  ((∃ n, (s.session n).state ≠ .free) → s.bus.pace = .fast ∧ s.bus.quietTimer = none)
    ∧ ((∀ n, (s.session n).state = .free) → s.bus.quietTimer.isSome = (s.bus.pace == .fast))

theorem State.paced_iff (s : State) : s.Paced ↔ s.PaceLaw := by
  unfold State.Paced State.PaceLaw
  by_cases h : ∀ n, (s.session n).state = .free
  · rw [if_pos ((State.allFree_iff s).2 h)]
    exact ⟨fun law => law.2 h, fun law => ⟨fun ⟨n, hn⟩ => absurd (h n) hn, fun _ => law⟩⟩
  · rw [if_neg fun hall => h ((State.allFree_iff s).1 hall)]
    exact ⟨fun law => law.1 (not_forall.1 h), fun law => ⟨fun _ => law, fun hall => absurd hall h⟩⟩

/-- While a record is not FREE the pace is FAST and the quiet timer stopped. -/
theorem State.Paced.of_busy (hn : (t.session n).state ≠ .free) (pace : t.bus.pace = .fast) (timer : t.bus.quietTimer = none) :
    t.Paced := ⟨fun _ => ⟨pace, timer⟩, fun hall => absurd (hall n) hn⟩

/-- With every record FREE the quiet timer runs at FAST pace alone. -/
theorem State.Paced.of_quiet (hall : ∀ n, (t.session n).state = .free)
    (timer : t.bus.quietTimer.isSome = (t.bus.pace == .fast)) : t.Paced :=
  ⟨fun ⟨n, hn⟩ => absurd (hall n) hn, fun _ => timer⟩

/-- A change that leaves the record states, the pace and the quiet timer. -/
theorem State.Paced.of_states (h : s.Paced) (states : ∀ n, (t.session n).state = (s.session n).state)
    (pace : t.bus.pace = s.bus.pace) (timer : t.bus.quietTimer = s.bus.quietTimer) : t.Paced := by
  unfold State.Paced
  simp only [states, pace, timer]
  exact h

/-- A change behind the records, the pace and the quiet timer. -/
theorem State.Paced.of_records (h : s.Paced) (records : t.records = s.records) (pace : t.bus.pace = s.bus.pace)
    (timer : t.bus.quietTimer = s.bus.quietTimer) : t.Paced :=
  h.of_states (fun n => by rw [State.session, records, State.session]) pace timer

theorem State.Paced.ite {p : Prop} [Decidable p] (ht : t.Paced) (h : s.Paced) : (if p then t else s).Paced := by
  split
  · exact ht
  · exact h

theorem State.Paced.forPedestals {f : Ped → State → State} (h : s.Paced) (step : ∀ n u, State.Paced u → (f n u).Paced) :
    (forPedestals f s).Paced := forPedestals_induction h step

/-! ## Records and activity (R151) -/

/-- A record rewritten in its state. -/
theorem State.Paced.setSession (h : s.Paced) {r : Session} (hr : r.state = (s.session n).state) : (s.setSession n r).Paced := by
  refine h.of_states (fun m => ?_) rfl rfl
  by_cases hm : m = n
  · subst hm; rw [State.session_setSession_self, hr]
  · rw [State.session_setSession_ne s hm]

theorem State.Paced.setAlloc (h : s.Paced) (n : Ped) (a : Alloc) : (s.setAlloc n a).Paced := h.setSession rfl

/-- A record's new contents: the pace becomes FAST as the first record leaves FREE, and the quiet timer starts as the last one
returns (R151). -/
theorem State.Paced.putSession (h : s.Paced) (n : Ped) (r : Session) : (putSession n r s).Paced := by
  have self (b : Bus) : (State.session { s with records := s.records.set n r, bus := b } n) = r := get_set_self _ _ _
  by_cases hs : (s.session n).state = .free <;> by_cases hr : r.state = .free
  · have stays : Machine.putSession n r s = s.setSession n r := by simp [Machine.putSession, hs, hr]
    rw [stays]
    exact h.setSession (hr.trans hs.symm)
  · rw [putSession_leavingFree n r s hs hr]
    exact .of_busy (n := n) (by rw [self]; exact hr) rfl rfl
  · obtain ⟨pace, timer⟩ := h.1 ⟨n, hs⟩
    rw [putSession_toFree n r s hs hr]
    by_cases others : ∀ m, m ≠ n → (s.session m).state = .free
    · rw [if_pos others]
      refine .of_quiet (fun m => ?_) (by simp [State.quietBus, pace])
      by_cases hm : m = n
      · subst hm; rw [self]; exact hr
      · exact (congrArg Session.state (State.session_setSession_ne s hm r)).trans (others m hm)
    · rw [if_neg others]
      push Not at others
      obtain ⟨m, hm, busy⟩ := others
      exact .of_busy (n := m) (by rwa [← State.session_setSession_ne s hm r] at busy) pace timer
  · obtain ⟨pace, timer⟩ := h.1 ⟨n, hs⟩
    rw [putSession_plain n r s hs hr]
    exact .of_busy (n := n) (by rw [self s.bus]; exact hr) pace timer

/-- A plug-in, a token or an alert while every record is FREE starts the quiet timer at FAST pace (R151). -/
theorem State.Paced.quietActivity (h : s.Paced) : (quietActivity s).Paced := by
  rw [quietActivity_eq]
  split
  · rename_i hall
    exact .of_quiet hall rfl
  · exact h

/-! ## Ends of sessions -/

theorem refuseToken_paced (h : s.Paced) (n : Ped) (reason : Byte) : (refuseToken n reason s).Paced :=
  State.Paced.setSession (s := latchPed n .tokenRefused (.reason reason) s) h rfl

theorem cancelSession_paced (h : s.Paced) (n : Ped) (reason : Byte) : (cancelSession n reason s).Paced :=
  refuseToken_paced (State.Paced.putSession (s := releaseSlot s) h n _) n reason

theorem closeSession_paced (h : s.Paced) (n : Ped) (why : EndReason) : (closeSession n why s).Paced := by
  have joined : ∀ r, (joinQueue r s).Paced := fun r => by
    rcases joinQueue_eq r s with e | e <;> rw [e] <;> exact h
  rw [closeSession_eq]
  refine State.Paced.putSession ?_ n _
  cases closingRecord n why s with
  | none => exact h
  | some r => exact joined r

theorem enterEnding_paced (h : s.Paced) (n : Ped) (why : EndReason) : (enterEnding n why s).Paced := h.putSession n _

theorem stopSession_paced (h : s.Paced) (n : Ped) (why : EndReason) : (stopSession n why s).Paced := by
  unfold stopSession
  split
  case h_1 | h_2 => exact closeSession_paced h n why
  case h_3 | h_4 | h_5 => exact enterEnding_paced h n why
  all_goals exact h

theorem haltSession_paced (h : s.Paced) (why : EndReason) (n : Ped) : (haltSession why n s).Paced := by
  unfold haltSession
  split
  case h_1 => exact cancelSession_paced h n _
  case h_8 | h_9 | h_10 => exact h
  all_goals exact closeSession_paced h n why

theorem loseSession_paced (h : s.Paced) (n : Ped) : (loseSession n s).Paced := by
  have changed : ∀ r : Session, r.state = (s.session n).state → (closeSession n .pedestalLost (s.setSession n r)).Paced :=
    fun r hr => closeSession_paced (h.setSession hr) n _
  unfold loseSession
  simp only []
  split
  case h_1 => exact cancelSession_paced h n _
  case h_2 => exact closeSession_paced h n _
  case h_8 | h_9 | h_10 => exact h
  all_goals exact changed _ rfl

/-! ## Probe, grant and token -/

theorem startAttempt_paced (h : s.Paced) (n : Ped) : (startAttempt n s).Paced := h.setSession rfl

theorem enterProbing_paced (h : s.Paced) (n : Ped) : (enterProbing n s).Paced := startAttempt_paced (h.putSession n _) n

theorem attemptFailed_paced (h : s.Paced) (n : Ped) : (attemptFailed n s).Paced := by
  have cleared : (s.setSession n { s.session n with probeDeadline := none }).Paced := h.setSession rfl
  exact .ite (startAttempt_paced cleared n) (closeSession_paced cleared n _)

theorem energize_paced (h : s.Paced) (n : Ped) (count : Nat) : (energize n count s).Paced :=
  State.Paced.putSession (s := latchPed n .energized .none s) h n _

theorem takeGrant_paced (h : s.Paced) (n : Ped) (g : Grant) : (takeGrant n g s).Paced := by
  have granted : (s.setSession n { s.session n with grant := some g, captured := none, authDeadline := none }).Paced :=
    h.setSession rfl
  exact .ite (enterProbing_paced granted n) (granted.putSession n _)

theorem offerGrant_paced (h : s.Paced) (n : Ped) (o : GrantOffer) : (offerGrant n o s).Paced := by
  unfold offerGrant
  split
  · exact takeGrant_paced h n _
  · exact cancelSession_paced h n _

theorem authExpired_paced (h : s.Paced) (n : Ped) : (authExpired n s).Paced := by
  unfold authExpired
  split
  · exact .ite (offerGrant_paced h n _) (cancelSession_paced h n _)
  · exact cancelSession_paced h n _

theorem decideSession_paced (h : s.Paced) (n : Ped) (o : Opening) (c : CapturedTerms) : (decideSession n o c s).Paced := by
  rcases decideSession_cases n o c s with ⟨reason, e⟩ | ⟨g, e⟩ | e <;> rw [e]
  · exact cancelSession_paced h n reason
  · exact offerGrant_paced h n g
  · exact State.Paced.setSession (s := s) h rfl

theorem acceptToken_paced (h : s.Paced) (n : Ped) (token : Token) (source : TokenSource) : (acceptToken n token source s).Paced :=
  decideSession_paced (State.Paced.putSession (s := reserveSlot s) h n _) n _ _

theorem takeToken_paced (h : s.Paced) (n : Ped) (token : Token) (source : TokenSource) : (takeToken n token source s).Paced := by
  have offered : (offerToken n token source s).Paced := by
    unfold offerToken
    split
    · exact refuseToken_paced h n _
    · exact acceptToken_paced h n token source
  unfold takeToken
  simp only []
  split
  case h_1 | h_2 => exact offered
  case h_3 | h_4 => exact .ite h (refuseToken_paced h n _)
  case h_10 => exact refuseToken_paced h n _
  all_goals exact .ite (stopSession_paced h n _) (refuseToken_paced h n _)

/-! ## The fields of a good reply (R5, R153) -/

theorem meterSteps_paced (h : s.Paced) (n : Ped) (count : Nat) : (meterSteps n count s).Paced := by
  refine h.of_states (fun m => ?_) (by rw [meterSteps_bus]) (by rw [meterSteps_bus])
  by_cases hm : m = n
  · subst hm; exact meterSteps_state m count
  · rw [meterSteps_session_ne hm]

theorem faultSteps_paced (h : s.Paced) (n : Ped) (x : StatusReply) : (faultSteps n x s).Paced := by
  have table : (tableFaults n x s).Paced := by
    rw [tableFaults_eq]
    exact h
  have stop : ∀ why, (faultStop n why (tableFaults n x s)).Paced := fun why => .ite table (stopSession_paced table n why)
  exact .ite (stop _) (.ite (stop _) table)

theorem reactPlugIn_paced (h : s.Paced) (n : Ped) : (reactPlugIn n s).Paced := by
  unfold reactPlugIn
  split
  case h_1 => exact h.putSession n _
  case h_2 => exact .ite (closeSession_paced h n _) (.ite (closeSession_paced h n _) (enterProbing_paced h n))
  all_goals exact h

theorem reactPlugOut_paced (h : s.Paced) (n : Ped) : (reactPlugOut n s).Paced := by
  unfold reactPlugOut
  split
  case h_1 | h_2 => exact h.putSession n _
  case h_3 | h_4 | h_5 | h_6 => exact stopSession_paced h n _
  all_goals exact h

theorem takePlug_paced (h : s.Paced) (n : Ped) (plug : Bool) : (takePlug n plug s).Paced := by
  have woken : (quietActivity (latchPed n .plugIn .none s)).Paced := State.Paced.quietActivity h
  have plugged : ∀ (u : State) (p : HasPlug), u.Paced →
      (u.setSession n { u.session n with hasPlug := p, refusal := none }).Paced := fun _ _ hu => hu.setSession rfl
  unfold takePlug
  simp only []
  split
  · exact reactPlugIn_paced (plugged _ .yes woken) n
  · split
    · exact reactPlugOut_paced (plugged (latchPed n .plugOut .none s) .no h) n
    · exact .ite (.ite (h.setSession rfl) (h.putSession n _)) h

theorem tokenStep_paced (h : s.Paced) (n : Ped) (x : StatusReply) : (tokenStep n x s).Paced := by
  have presented : ∀ p, (takePresentation n p s).Paced := by
    intro p
    have stored : (s.setEntry n { s.entry n with lastPresentation := some p.number }).Paced := h
    unfold takePresentation
    simp only []
    split
    · exact .ite stored (takeToken_paced stored.quietActivity n _ _)
    · exact stored
  unfold tokenStep
  cases x.presentation with
  | some p => exact presented p
  | none => exact h

theorem takeProbe_paced (h : s.Paced) (n : Ped) (probe : ProbeResult) (count : Nat) : (takeProbe n probe count s).Paced := by
  refine .ite ?_ h
  cases probe with
  | none => exact h
  | openCircuit => exact attemptFailed_paced h n
  | short =>
    exact closeSession_paced (s := latchPed n .probeFault .none (s.setEntry n { s.entry n with blocked := true })) h n _
  | matched length => exact .ite (energize_paced h n count) (closeSession_paced h n _)

theorem takeComplete_paced (h : s.Paced) (n : Ped) (complete : Bool) : (takeComplete n complete s).Paced := by
  unfold takeComplete
  split
  case h_1 | h_2 => exact .ite (h.putSession n _) h
  all_goals exact h

theorem takeVehicleRequest_paced (h : s.Paced) (n : Ped) (request : Nat) (complete : Bool) :
    (takeVehicleRequest n request complete s).Paced := by
  unfold takeVehicleRequest
  split
  case h_1 => exact .ite (.ite h (h.putSession n _)) (h.setAlloc n _)
  case h_2 | h_3 => exact .ite (h.putSession n _) h
  all_goals exact h

/-- A good reply, field by field in the order of R5. -/
theorem takeReply_paced (h : s.Paced) (n : Ped) (x : StatusReply) : (takeReply n x s).Paced := by
  have linked : ∀ u : State, u.Paced → (linkSteps n x.plug u).Paced := fun u hu =>
    .ite (t := latchPed n .pedestalBack .none (u.setEntry n _)) (s := u.setEntry n _) hu hu
  have plugged := takePlug_paced (faultSteps_paced (meterSteps_paced h n x.meter) n x) n x.plug
  have probed := takeProbe_paced (tokenStep_paced plugged n x) n x.probe x.meter
  have driven := takeVehicleRequest_paced (takeComplete_paced probed n x.complete) n x.request x.complete
  exact linked _ (.ite (closeSession_paced driven n _) driven)

end Sys2Proof.Machine
end

section
/-! SUPPORT. O59: the scan cycle, requests, characters, stops, starts and timers keep the law of pace and quiet timer (R150 to R160,
R189 to R192), and with them every step. -/

namespace Sys2Proof.Machine

variable {s t : State} {n : Ped}

/-! ## Exchanges and the alert slot -/

theorem takeMiss_paced (h : s.Paced) (n : Ped) : (takeMiss n s).Paced :=
  .ite (loseSession_paced (s := latchPed n .pedestalLost .none (s.setEntry n _)) h n) h

theorem takeExchange_paced (h : s.Paced) (e : Exchange) (reply : Option StatusReply) : (takeExchange e reply s).Paced := by
  refine .ite h ?_
  cases reply with
  | none => exact takeMiss_paced h _
  | some x => exact .ite (meterSteps_paced h _ _) (takeReply_paced h _ x)

theorem sendCommand_paced (h : s.Paced) (n : Ped) (outOfTurn : Bool) : (sendCommand n outOfTurn s).Paced :=
  .ite (State.Paced.setSession (s := s.withBus { s.bus with
    lastFrame := some (formCommand n s), phase := .exchange ⟨n, outOfTurn, false⟩ }) h rfl) h

theorem nextTurn_paced (h : s.Paced) (l : List Ped) : (nextTurn l s).Paced := by
  unfold nextTurn
  split
  · exact sendCommand_paced h _ _
  · exact h

theorem endExchange_paced (h : s.Paced) (e : Exchange) : (endExchange e s).Paced :=
  .ite h (.ite h (nextTurn_paced h _))

theorem takeAlert_paced (h : s.Paced) (reading : Nat) : (takeAlert reading s).Paced := by
  have active := h.quietActivity
  refine .ite h ?_
  simp only []
  split
  · exact .ite (sendCommand_paced active _ _) active
  · exact active

/-! ## The cycle start (R150) -/

theorem prepareRound_paced (h : s.Paced) : (prepareRound s).Paced := by
  have covered : (forPedestals (fun n => coverStage (s.coverFigure n) n) s).Paced := h.forPedestals fun n u hu => by
    unfold coverStage
    split
    · exact enterEnding_paced hu n _
    · exact hu
  have blocked := covered.forPedestals (f := blockedStage) fun n _ hu => .ite (hu.setAlloc n _) hu
  have counted := blocked.forPedestals (f := countdownStage) fun n _ hu =>
    .ite (.ite (hu.setAlloc n _) (hu.setAlloc n _)) hu
  unfold prepareRound releaseStage
  exact State.Paced.ite (counted.forPedestals (f := releaseYielder) fun n _ hu => .ite (hu.setAlloc n _) hu) counted

/-- Allocation fields changed in one record after the other. -/
theorem foldl_setAlloc_paced {α : Type} (p : α → Ped) (a : α → State → Alloc) (l : List α) (h : s.Paced) :
    (l.foldl (fun u x => u.setAlloc (p x) (a x u)) s).Paced := by
  induction l generalizing s with
  | nil => exact h
  | cons x xs ih => exact ih (h.setAlloc _ _)

theorem divideBudget_paced (h : s.Paced) (figure : Ped → Option CoverFigure) : (divideBudget figure s).Paced := by
  have reported : ∀ (budget k p : Nat) (u : State), u.Paced → (reportRound budget k p u).Paced := by
    intro budget k p u hu
    unfold reportRound
    simp only []
    split <;> exact hu
  unfold divideBudget
  exact reported _ _ _ _ (foldl_setAlloc_paced Candidate.pedestal (fun c u => (u.session c.pedestal).alloc.park) _
    (foldl_setAlloc_paced Prod.fst
      (fun x u => (u.session x.1).alloc.power x.2 _ u.settings.yieldOn u.settings.yieldOff) _ h))

theorem allocationRound_paced (h : s.Paced) : (allocationRound s).Paced := divideBudget_paced (prepareRound_paced h) _

theorem startCycle_paced (h : s.Paced) : (startCycle s).Paced := by
  have cleared : ∀ u : State, u.Paced → (forPedestals (fun n v => v.setEntry n { v.entry n with missMark := false }) u).Paced :=
    fun _ hu => hu.forPedestals fun _ _ hv => hv
  unfold startCycle
  refine nextTurn_paced (cleared _ ?_) _
  split
  · exact allocationRound_paced (h.of_records rfl rfl rfl)
  · exact h

/-! ## Stop causes and starts (R161, R188 to R192) -/

theorem State.Paced.withSupply (h : s.Paced) (v : Supply) : (s.withSupply v).Paced := h

theorem haltAll_paced (h : s.Paced) (why : EndReason) : (forPedestals (haltSession why) s).Paced :=
  h.forPedestals fun n _ hu => haltSession_paced hu why n

theorem requestStopAll_paced (h : s.Paced) : (requestStopAll s).Paced := by
  unfold requestStopAll
  split <;> exact h

theorem haltDevice_paced (h : s.Paced) : (haltDevice s).Paced := by
  have stopped := requestStopAll_paced (haltAll_paced h .supplyLoss)
  unfold haltDevice
  generalize requestStopAll _ = u at stopped ⊢
  exact stopped

theorem stopCause_paced (h : s.Paced) : (stopCause s).Paced := .ite h (haltDevice_paced h)

/-- After a start every record is FREE, the pace is SLOW and the quiet timer stopped (R32, R161). -/
theorem State.Paced.of_started (records : t.records = Vector.replicate 16 {}) (pace : t.bus.pace = .slow)
    (timer : t.bus.quietTimer = none) : t.Paced := by
  refine .of_quiet (fun n => ?_) (by rw [pace, timer]; rfl)
  rw [State.session, records]
  exact congrArg Session.state (Vector.getElem_replicate n.isLt)

theorem latchStart_bus (kind : StartKind) (cause : StartCause) (s : State) : (latchStart kind cause s).bus = s.bus := by
  unfold latchStart
  simp only []
  split <;> rfl

theorem freshStart_paced (kind : StartKind) (cause : StartCause) (q : Settlement) (s : State) :
    (freshStart kind cause q s).Paced :=
  .of_started (latchStart_records _ _ _) (congrArg Bus.pace (latchStart_bus _ _ _))
    (congrArg Bus.quietTimer (latchStart_bus _ _ _))

theorem softStart_paced (s : State) : (softStart s).Paced :=
  .of_started (latchStart_records _ _ _) (congrArg Bus.pace (latchStart_bus _ _ _))
    (congrArg Bus.quietTimer (latchStart_bus _ _ _))

theorem markerStart_paced (cause : StartCause) (s : State) : (markerStart cause s).Paced :=
  .ite (freshStart_paced _ _ _ s) (freshStart_paced _ _ _ s)

/-! ## Requests -/

theorem withdraw_paced (h : s.Paced) (body : List Byte) : (withdraw.act body s).2.Paced := by
  have voided : ∀ n, (voidExchange n (s.setEntry n {})).Paced := by
    intro n
    unfold voidExchange
    split
    · exact .ite h h
    all_goals exact h
  unfold withdraw
  simp only []
  split
  · exact h
  · split
    · exact h
    · split
      · exact h
      · exact voided _

theorem enrol_paced (h : s.Paced) (body : List Byte) : (enrol.act body s).2.Paced := by
  have dropped : ∀ n, (dropShare n s).Paced := fun n => .ite (h.setAlloc n _) h
  unfold enrol
  simp only []
  split
  · exact h
  · split
    · exact h
    · exact State.Paced.ite (dropped _) h

theorem sessionCap_paced (h : s.Paced) (body : List Byte) : (sessionCap.act body s).2.Paced := by
  have capped : ∀ n cap, (s.setHostCap n cap).Paced := fun n cap => h.setSession rfl
  unfold sessionCap
  simp only []
  split
  · exact h
  · split
    · exact h
    · split
      · exact h
      · split
        · exact capped _ _
        · split <;> exact capped _ _

theorem sessionStop_paced (h : s.Paced) (body : List Byte) : (sessionStop.act body s).2.Paced := by
  unfold sessionStop
  simp only []
  generalize (if body.length = 3 then some (fieldAt body 1 2) else none) = given
  split
  · exact h
  · split
    · exact h
    · split
      · exact h
      · exact State.Paced.ite (cancelSession_paced h _ _) (stopSession_paced h _ _)

theorem authDecision_paced (h : s.Paced) (body : List Byte) : (authDecision.act body s).2.Paced := by
  unfold authDecision
  simp only []
  split
  · exact h
  · split
    · exact h
    · split
      · exact h
      · exact cancelSession_paced h _ _
      · split
        · exact h
        · exact offerGrant_paced h _ _

theorem restart_paced (h : s.Paced) (body : List Byte) : (restart.act body s).2.Paced := by
  have restarting : ∀ (kind : RestartKind) (u : State), u.Paced → (enterRestarting kind u).Paced := fun _ _ hu =>
    requestStopAll_paced hu
  unfold restart
  simp only []
  split
  · exact restarting _ _ (haltAll_paced h _)
  · split
    · exact h
    · exact restarting _ _ h
  · exact h

theorem countersRead_paced (h : s.Paced) (body : List Byte) : (countersRead.act body s).2.Paced :=
  h.forPedestals (f := fun n u => u.setEntry n { u.entry n with frameErrors := 0, missMark := false }) fun _ _ hu => hu

/-- Every request of the catalogue keeps the law; those named in no lemma above touch neither record states nor the bus. -/
theorem catalogue_paced {kind : Byte} {q : Request} (hq : catalogue kind = some q) (h : s.Paced) (body : List Byte) :
    (q.act body s).2.Paced := by
  unfold catalogue at hq
  split at hq <;> cases hq
  case h_14 => exact enrol_paced h body
  case h_15 => exact withdraw_paced h body
  case h_18 => exact countersRead_paced h body
  case h_20 => exact sessionStop_paced h body
  case h_21 => exact sessionCap_paced h body
  case h_22 => exact authDecision_paced h body
  case h_29 => exact restart_paced h body
  all_goals
    refine h.of_records ?_ ?_ ?_
    all_goals
      dsimp only [statusRead, parkSet, parkRead, parkOpen, parkClose, clockSet, siteLoad, tariffWrite, tariffRead, tariffClear,
        windowWrite, windowRead, windowClear, unblock, pedestalRead, sessionRead, queryList, settleFetch, fetchUnnamed, fetchNamed,
        settleConfirm, conditionsRead, conditionsClear, conditionsMask]
      repeat' split
      all_goals rfl

/-! ## Frames and characters -/

theorem takeFrame_paced (h : s.Paced) (kind tag : Byte) (body : List Byte) :
    (takeFrame kind tag body (catalogue kind) s).Paced := by
  have replied : ∀ (r : Reply) (u : State), u.Paced → (sendReply r u).Paced := by
    intro r u hu
    obtain ⟨l, e⟩ := sendReply_eq r u
    rw [e]
    exact hu
  have served : s.served.Paced := by
    obtain ⟨l, c, e⟩ := s.served_eq
    rw [e]
    exact h
  refine .ite ?_ h
  show (answerFrame kind tag body (catalogue kind) s.served).Paced
  refine .ite (.ite served served) (.ite (replied _ _ served) ?_)
  split
  · exact replied _ _ served
  · rename_i q hq
    exact .ite (replied _ _ (catalogue_paced hq served body)) (replied _ _ served)

theorem badSyncByte_paced (h : s.Paced) (badRun : Bool) : (badSyncByte badRun s).Paced :=
  State.Paced.ite (p := badRun = true) (t := s) (s := countLineError s) h h

theorem receive_paced (h : s.Paced) (received : List RxChar) : (receive received s).Paced := by
  have parsed : ∀ (b : Byte) (u : State), u.Paced → (parseByte b u).Paced := by
    intro b u hu
    unfold parseByte
    split
    case h_1 => exact .ite hu (badSyncByte_paced hu _)
    case h_2 => exact .ite hu hu
    case h_7 => exact .ite (takeFrame_paced hu _ _ _) hu
    all_goals exact hu
  have stopped : ∀ u : State, u.Paced → (badStop u).Paced := by
    intro u hu
    unfold badStop
    split
    · exact badSyncByte_paced hu _
    all_goals exact hu
  unfold receive
  induction received generalizing s with
  | nil => exact h
  | cons c cs ih => exact ih (.ite (.ite (parsed _ _ h) (stopped _ h)) h)

/-- Sending touches the host line and the conditions alone. -/
theorem frameSent_paced (h : s.Paced) : (frameSent s).Paced := by
  unfold frameSent
  split
  · exact h
  · exact h
  · rcases startNotice_cases (s.withLine { s.line with sending := none }) with e | ⟨_, _, _, e⟩ <;> rw [e] <;> exact h

/-! ## Commands and steps -/

theorem tickSecond_paced (h : s.Paced) : (tickSecond s).Paced := by
  refine h.of_states (fun n => ?_) rfl rfl
  rw [tickSecond_session]
  unfold Session.tickOccupying
  split <;> rfl

theorem idleMinuteOf_paced (h : s.Paced) (n : Ped) : (idleMinuteOf n s).Paced := by
  unfold idleMinuteOf
  split
  · refine .ite (h.setSession ?_) h
    unfold Session.chargeIdleMinute
    split <;> rfl
  · exact h

/-- The quiet timer runs while every record is FREE alone, and as it expires the pace becomes SLOW (R151). -/
theorem quietExpired_paced (h : s.Paced) {p : Point} (timer : s.bus.quietTimer = some p) :
    ((s.reach p).withBus { s.bus with pace := .slow, quietTimer := none }).Paced := by
  refine .of_quiet (fun n => ?_) rfl
  by_contra hn
  have stopped := (h.1 ⟨n, hn⟩).2
  simp [timer] at stopped

/-- Every command keeps the law of pace and quiet timer. -/
theorem exec_paced (i : Instr) (h : s.Paced) : ∃ t, exec i s = .next t ∧ t.Paced := by
  cases i
  case frameDiscarded received | badSyncRun received => exact ⟨_, rfl, receive_paced h received⟩
  case frameGapTimeout received => exact ⟨_, rfl, .ite (receive_paced h received) (receive_paced h received)⟩
  case linkSilenceExpiry =>
    refine ⟨_, rfl, ?_⟩
    split
    · exact .ite h h
    · exact h
  case replySent | noticeSent =>
    refine ⟨_, rfl, ?_⟩
    split
    case h_1 => exact frameSent_paced h
    all_goals exact h
  case notice =>
    refine ⟨_, rfl, ?_⟩
    rcases startNotice_cases s with e | ⟨_, _, _, e⟩ <;> rw [e] <;> exact h
  case softRestart => exact ⟨_, rfl, .ite (softStart_paced s) h⟩
  case hardRestart => exact ⟨_, rfl, .ite (freshStart_paced _ _ _ s) h⟩
  case cycleStart => exact ⟨_, rfl, .ite (startCycle_paced h) h⟩
  case statusReply | exchangeMiss =>
    refine ⟨_, rfl, ?_⟩
    split
    case h_1 => exact endExchange_paced (takeExchange_paced h _ _) _
    all_goals exact h
  case alertSlot =>
    refine ⟨_, rfl, ?_⟩
    split
    case h_1 => exact takeAlert_paced h _
    all_goals exact h
  case quietTimerExpiry =>
    refine ⟨_, rfl, ?_⟩
    split
    · exact .ite (quietExpired_paced h ‹_›) h
    · exact h
  case authDeadlineExpiry n =>
    refine ⟨_, rfl, ?_⟩
    split
    · exact authExpired_paced (s := s.reach _) h n
    · exact h
  case probeDeadlineExpiry n =>
    refine ⟨_, rfl, ?_⟩
    split
    · exact attemptFailed_paced (s := s.reach _) h n
    · exact h
  case plugDeadlineExpiry n | endingDeadlineExpiry n =>
    refine ⟨_, rfl, ?_⟩
    split
    · exact closeSession_paced (s := s.reach _) h n _
    · exact h
  case refusalDisplayExpiry n =>
    refine ⟨_, rfl, ?_⟩
    split
    · exact .ite (State.Paced.setSession (s := s.reach _) h rfl) h
    · exact h
  case oneSecondTick => exact ⟨_, rfl, .ite h (tickSecond_paced h)⟩
  case suspendLimit n => exact ⟨_, rfl, .ite (h.putSession n _) h⟩
  case idleMinute n => exact ⟨_, rfl, .ite (idleMinuteOf_paced h n) h⟩
  case supplyWarning | reset => exact ⟨_, rfl, (stopCause_paced h).withSupply _⟩
  case supplyFail => exact ⟨_, rfl, .ite h ((haltDevice_paced h).withSupply _)⟩
  case retentionLoss => exact ⟨_, rfl, .ite h h⟩
  case powerOn | haltedStart => exact ⟨_, rfl, .ite (markerStart_paced _ s) h⟩
  all_goals exact ⟨_, exec_requestFrame rfl s, takeFrame_paced h _ _ _⟩

theorem step_paced (h : s.Paced) (e : step s = .next t) : t.Paced := by
  unfold step at e
  split at e
  · obtain rfl := Host.Outcome.next.inj e
    exact .ite h h
  · rename_i c rest _
    obtain ⟨u, hu, paced⟩ := exec_paced (s := { s with pending := rest }) c h
    obtain rfl := Host.Outcome.next.inj (hu.symm.trans e)
    exact paced

/-- Settles O59: a record leaves and enters FREE through `putSession`, activity wakes a quiet park, the timer's expiry lets it
rest, starts begin anew, and nothing else moves pace, quiet timer or a record in or out of FREE. -/
theorem stepsKeepThePace : Obligations.StepsKeepThePace :=
  fun s t law e => (t.paced_iff).1 (step_paced ((s.paced_iff).2 law) e)

end Sys2Proof.Machine
end

section
/-! SUPPORT. PEDESTAL-READ, the alert slot, and which frames are status replies (R149, R151, R153, R158, R159, R194). -/

namespace Sys2Proof.Machine

variable {s : State} {n : Ped} {body bytes : List Byte}

/-! ## PEDESTAL-READ -/

theorem pedestalRead_noPedestal (h : fieldAt body 0 1 = 0 ∨ 16 < fieldAt body 0 1) :
    pedestalRead.act body s = (⟨.outOfRange, []⟩, s) := by
  simp only [pedestalRead, pedestalOf_none h]
  rfl

theorem pedestalRead_named (h : fieldAt body 0 1 = n.number) : pedestalRead.act body s = (⟨.done, (s.entry n).bytes⟩, s) := by
  simp only [pedestalRead, pedestalOf_some h]

/-- The number byte of a PEDESTAL-READ reply; it is open while no number is held (notes/assumptions/9.md). -/
def PedestalEntry.numberByte (e : PedestalEntry) : Byte := e.lastPresentation.getD (BitVec.ofNat 8 Config.absentPresentation)

theorem linkCode_eq (l : Link) : l.code = if l = .online then 1 else 0 := by cases l <;> rfl

/-- The bytes of an entry, field by field (section 12.2). -/
theorem PedestalEntry.bytes_eq (e : PedestalEntry) :
    e.bytes = bytesOf 1 (if e.enrolled then 1 else 0) ++ bytesOf 2 e.rating ++ bytesOf 2 e.floor ++ bytesOf 1 e.extension
      ++ bytesOf 1 e.maxCable ++ bytesOf 1 (if e.link = .online then 1 else 0)
      ++ bytesOf 1 (if e.blocked then 1 else 0) ++ bytesOf 1 (if e.estop then 1 else 0) ++ bytesOf 3 e.lastMeter
      ++ bytesOf 1 (if e.lastPlug = some true then 1 else if e.lastPlug = some false then 0 else 0xFF)
      ++ bytesOf 1 (if e.lastPresentation = none then 0 else 1) ++ [e.numberByte]
      ++ bytesOf 1 e.misses ++ bytesOf 1 e.frameErrors := by
  obtain ⟨enrolled, rating, floor, extension, maxCable, link, blocked, estop, lastMeter, plug, presentation, misses, errors, mark⟩
    := e
  unfold PedestalEntry.bytes PedestalEntry.numberByte
  simp only [yesNoByte_eq, linkCode_eq, List.append_assoc]
  rcases plug with _ | _ | _ <;> cases presentation <;> rfl

/-- Settles O20: the reply's data is the entry's, spelt out field by field. -/
theorem pedestalReadReportsTheEntry : Obligations.PedestalReadReportsTheEntry := by
  intro tag body s h hl
  refine ⟨fun hout => ?_, fun n hn valid => ?_⟩
  · exact exec_answered rfl rfl (by decide) h (by simp [pedestalRead, hl]) (pedestalRead_noPedestal hout)
  · intro e
    refine ⟨valid.1, e.numberByte, fun p hp => by rw [PedestalEntry.numberByte, hp, Option.getD_some], ?_⟩
    rw [← e.bytes_eq]
    exact exec_answered rfl rfl (by decide) h (by simp [pedestalRead, hl])
      (by rw [pedestalRead_named hn, State.served_entry])

/-! ## The alert slot (R151, R158, R159) -/

theorem exec_alertSlot (h : s.bus.phase = .alertSlot) (nodes : List BusAddress) :
    exec (.alertSlot nodes) s = .next (takeAlert (contentionField nodes) s) := by
  simp only [exec, execAlertSlot, h]

/-- With no node contending every bit stays recessive. -/
theorem contentionField_nil : contentionField [] = 31 := by decide

/-- The field that the device reads is the least address that contends. -/
theorem contentionField_least {nodes : List BusAddress} {a : BusAddress} (ha : a ∈ nodes) (least : ∀ c ∈ nodes, a.toNat ≤ c.toNat) :
    contentionField nodes = a.toNat := by
  have whole : ∀ c : BusAddress, c.toNat % 2 ^ 5 = c.toNat := fun c => Nat.mod_eq_of_lt c.isLt
  have field := contention_least 5 nodes a ha fun c hc => by rw [whole, whole]; exact least c hc
  rw [contentionField, field, whole]

/-- Only a pedestal's own number names it. -/
theorem pedestalOf_eq_some {k : Nat} (h : pedestalOf k = some n) : k = n.number := by
  unfold pedestalOf at h
  split at h
  · obtain rfl := Option.some.inj h
    simp only [Ped.number, Fin.val_ofNat]
    omega
  · cases h

theorem takeAlert_empty (s : State) : takeAlert 31 s = endCycle s := if_pos rfl

/-- An enrolled winner is commanded out of turn. -/
theorem takeAlert_enrolled {reading : Nat} (hr : reading = n.number) (he : (s.entry n).enrolled = true) :
    takeAlert reading s = (quietActivity s).commanded n true := by
  have entry : ((quietActivity s).entry n).enrolled = true := by
    rw [quietActivity_withBus]
    exact he
  have contended : reading ≠ 31 := by
    have := n.isLt
    unfold Ped.number at hr
    omega
  unfold takeAlert
  simp only [if_neg contended, pedestalOf_some hr, if_pos entry, sendCommand_eq]

/-- A winner that is not enrolled, or whose address is no pedestal's, ends the cycle. -/
theorem takeAlert_other {reading : Nat} (contended : reading ≠ 31)
    (he : ∀ n : Ped, reading = n.number → (s.entry n).enrolled = false) : takeAlert reading s = endCycle (quietActivity s) := by
  unfold takeAlert
  rw [if_neg contended]
  simp only []
  split
  · rename_i n hn
    have entry : ((quietActivity s).entry n).enrolled = false := by
      rw [quietActivity_withBus]
      exact he n (pedestalOf_eq_some hn)
    rw [entry]
    rfl
  · rfl

/-- Settles O46: the field read is the least contender's address, and the slot is taken by it. -/
theorem lowestContenderWinsTheAlertSlot : Obligations.LowestContenderWinsTheAlertSlot := by
  intro s hphase
  refine ⟨?_, fun nodes a ha least ha31 => ?_⟩
  · rw [exec_alertSlot hphase, contentionField_nil, takeAlert_empty]
    rfl
  · intro u
    have active : quietActivity s = u := quietActivity_eq s
    have contended : a.toNat ≠ 31 := fun e => ha31 (BitVec.eq_of_toNat_eq e)
    rw [exec_alertSlot hphase, contentionField_least ha least, ← active]
    exact ⟨fun n hn he => by rw [takeAlert_enrolled hn he], fun he => by rw [takeAlert_other contended he]; rfl⟩

/-! ## Which frames are good (R153, R194) -/

theorem decodeReply_good (h : replyIsGood n bytes = true) : decodeReply n bytes = some (StatusReply.ofBytes bytes) := if_pos h

theorem decodeReply_bad (h : ¬ replyIsGood n bytes = true) : decodeReply n bytes = none := if_neg h

/-- A frame is good at one pedestal alone. -/
theorem decodeReply_bytes_ne {m : Ped} {x : StatusReply} (h : x.fits = true) (hm : m ≠ n) : decodeReply m (x.bytes n) = none := by
  obtain ⟨haddress, _⟩ := StatusReply.fieldAt_bytes n h
  refine decodeReply_bad fun good => hm ?_
  obtain ⟨_, _, commanded, _⟩ := (replyIsGood_iff m _).1 good
  exact Fin.ext (by omega)

/-- Every frame's fields fit a reply. -/
theorem StatusReply.ofBytes_fits (bytes : List Byte) : (StatusReply.ofBytes bytes).fits = true := by
  have request := fieldAt_lt bytes 2 2
  have power := fieldAt_lt bytes 5 2
  have meter := fieldAt_lt bytes 7 3
  have length := fieldAt_lt bytes 21 1
  have probe : (StatusReply.ofBytes bytes).probe.lengthValue ≤ 255 := by
    show (ProbeResult.ofBytes (fieldAt bytes 20 1) (fieldAt bytes 21 1)).lengthValue ≤ 255
    unfold ProbeResult.ofBytes
    split
    case h_3 => exact Nat.le_of_lt_succ length
    all_goals exact Nat.zero_le _
  unfold StatusReply.fits
  simp only [Bool.and_eq_true, decide_eq_true_eq]
  exact ⟨⟨⟨Nat.le_of_lt_succ request, Nat.le_of_lt_succ power⟩, meter⟩, probe⟩

/-- A frame without the token-carried bit presents nothing, whatever its token bytes hold (R194). -/
theorem presentationAt_clear (h : fieldAt bytes 10 1 % 2 = 0) : presentationAt bytes = none := by
  simp [presentationAt, h]

theorem presentationAt_carried (h : fieldAt bytes 10 1 % 2 = 1) :
    presentationAt bytes = some ⟨BitVec.ofNat 8 (fieldAt bytes 11 1), BitVec.ofNat 64 (fieldAt bytes 12 8),
      if fieldAt bytes 10 1 = 3 then .vehicle else .reader⟩ := by
  have vehicle : fieldAt bytes 10 1 / 2 = 1 ↔ fieldAt bytes 10 1 = 3 := by omega
  simp only [presentationAt, tokenAt, if_pos h, vehicle]

/-- In an exchange the bytes count as the reply that they decode to. -/
theorem exec_statusReply {e : Exchange} (h : s.bus.phase = .exchange e) (bytes : List Byte) :
    exec (.statusReply bytes) s = .next (endExchange e (takeExchange e (decodeReply e.pedestal bytes) s)) := by
  simp only [exec, execStatusReply, h]

theorem exec_exchangeMiss {e : Exchange} (h : s.bus.phase = .exchange e) (cause : MissCause) :
    exec (.exchangeMiss cause) s = .next (endExchange e (takeExchange e none s)) := by
  simp only [exec, execExchangeMiss, h]

/-- Settles O45: a reply is read back from its frame, a frame that is not good decodes to none, and a good one to the reply of its
fields, whose own frame decodes to it again. -/
theorem statusRepliesReadBackFromTheirBytes : Obligations.StatusRepliesReadBackFromTheirBytes := by
  refine ⟨fun n m x hx => ⟨decodeReply_bytes n hx, decodeReply_bytes_ne hx⟩, fun s under bytes cause hphase => ?_⟩
  intro n f good
  refine ⟨fun bad => ?_, fun hgood => ?_⟩
  · have noReply := decodeReply_bad fun h => bad ((replyIsGood_iff n bytes).1 h)
    exact ⟨noReply, by rw [exec_statusReply hphase, exec_exchangeMiss hphase, noReply]⟩
  · have decoded := decodeReply_good ((replyIsGood_iff n bytes).2 hgood)
    obtain ⟨-, -, -, -, -, -, -, hfaults, -⟩ := hgood
    have fits := StatusReply.ofBytes_fits bytes
    have bit : ∀ k : Nat, (k == 1) = true ↔ k = 1 := fun k => beq_iff_eq
    have probe : ∀ k, f 20 1 = k → (StatusReply.ofBytes bytes).probe = ProbeResult.ofBytes k (f 21 1) := fun k hk => by
      rw [← hk]; rfl
    refine ⟨.ofBytes bytes, fits, decoded, ?_, bit _, rfl, bit _, rfl, rfl, presentationAt_clear,
      presentationAt_carried, probe 0, probe 1, probe 2, probe 3, ?_, bit _⟩
    · rw [exec_statusReply hphase, exec_statusReply hphase, decoded, decodeReply_bytes _ fits]
    · exact Nat.mod_eq_of_lt (Nat.lt_succ_of_le hfaults)

end Sys2Proof.Machine
end

section
/-! SUPPORT. The answers that no owner gives: BUSY, BAD-TAG, BAD-LENGTH and BAD-KIND, a device that is not RUNNING, and
STATUS-READ (R174, R177, R178, R180, R181). -/

namespace Sys2Proof.Machine

variable {s : State} {kind tag : Byte} {body : List Byte}

/-! ## The link and the line (R178, R181) -/

/-- A valid frame's service of the link, field by field. -/
theorem State.served_spelt (s : State) : s.served = { s with
    line := { s.line with
      parser := .hunt false
      mode := .attended
      silenceTimer := some (s.timebase + 1000 * s.settings.linkSilence) }
    conds := if s.line.mode = .attended then s.conds else s.conds.withPark 4 .none } := by
  rcases linkFrame_cases (s.withLine { s.line with parser := .hunt false }) with ⟨attended, linked⟩ | ⟨standalone, linked⟩
  · have mode : s.line.mode = .attended := attended
    rw [State.served, linked, if_pos mode]
    rfl
  · have mode : s.line.mode ≠ .attended := by
      have : s.line.mode = .standalone := standalone
      simp [this]
    rw [State.served, linked, if_neg mode]
    rfl

theorem State.served_line (s : State) : s.served.line = { s.line with
    parser := .hunt false
    mode := .attended
    silenceTimer := some (s.timebase + 1000 * s.settings.linkSilence) } := by
  rw [s.served_spelt]

/-- A reply is sent on an idle line and otherwise waits. -/
theorem State.answering_spelt (code : ReplyCode) (data : List Byte) (s : State) :
    State.answering kind tag code data s = { s with
      line := if s.line.sending = none then { s.line with sending := some (.reply ⟨kind, tag, code.value :: data⟩) }
        else { s.line with replyWaiting := some ⟨kind, tag, code.value :: data⟩ } } := by
  unfold State.answering
  rcases idle : s.line.sending with _ | under
  · rw [sendReply_idle idle, if_pos rfl]
    rfl
  · rw [sendReply_waits idle, if_neg (Option.some_ne_none under)]
    rfl

/-- Settles O5: both operations, field by field. -/
theorem servedAndAnsweringTouchTheLine : Obligations.ServedAndAnsweringTouchTheLine :=
  fun s _ _ code data => ⟨s.served_spelt, s.answering_spelt code data⟩

/-! ## The rows of R177 -/

/-- A running device answers a valid frame with the link served. -/
theorem takeFrame_running (h : s.supply.runState = .running) (q : Option Request) :
    takeFrame kind tag body q s = answerFrame kind tag body q s.served := if_pos h

theorem refuseBusy_spelt (low : kind.toNat < 0x80) (s : State) : refuseBusy kind tag s = { s with
    line := if s.line.busyList.length < 8 then
        { s.line with busyList := s.line.busyList ++ [⟨kind + 0x80#8, tag, [0x02#8]⟩] }
      else { s.line with lineErrors := min 65535 (s.line.lineErrors + 1) } } := by
  unfold refuseBusy replyOf replyKind
  rw [if_pos low]
  by_cases room : s.line.busyList.length < 8
  · rw [if_pos room, if_pos (show s.line.busyList.length < Config.busyLimit from room)]
    rfl
  · rw [if_neg room, if_neg (show ¬ s.line.busyList.length < Config.busyLimit from room)]
    rfl

/-- Settles O6: a busy interface refuses the frame with the link served, whatever its kind and tag. -/
theorem busyRequestsAreRefused : Obligations.BusyRequestsAreRefused := by
  intro i kind tag body s frame low running busy
  rw [exec_requestFrame frame, takeFrame_running running, answerFrame_busy (s.served_busy.trans busy), refuseBusy_spelt low,
    s.served_line]

/-- The catalogue holds the kinds 0x01 to 0x1D, each with the body lengths of section 12.2. -/
theorem catalogue_lengths (kind : Byte) :
    (catalogue kind).map (·.lengths) = if isRequestKind kind then some (acceptedLengths kind) else none := by
  unfold catalogue
  split
  case h_30 =>
    rw [if_neg]
    · rfl
    · intro request
      unfold isRequestKind at request
      simp only [Bool.and_eq_true, decide_eq_true_eq] at request
      obtain ⟨low, high⟩ := request
      generalize kind.toNat = k at *
      interval_cases k <;> contradiction
  all_goals
    next held =>
      unfold isRequestKind acceptedLengths
      rw [held]
      rfl

theorem catalogue_request (request : isRequestKind kind = true) :
    ∃ q, catalogue kind = some q ∧ q.lengths = acceptedLengths kind := by
  have lengths := catalogue_lengths kind
  rw [if_pos request] at lengths
  exact Option.map_eq_some_iff.1 lengths

theorem catalogue_unknown (unknown : isRequestKind kind = false) : catalogue kind = none := by
  have lengths := catalogue_lengths kind
  rw [unknown] at lengths
  exact Option.map_eq_none_iff.1 lengths

/-- A request kind lies below 0x80, so that its reply kind is given. -/
theorem replyKind_request (request : isRequestKind kind = true) : replyKind kind = kind + 0x80#8 := by
  unfold isRequestKind at request
  simp only [Bool.and_eq_true, decide_eq_true_eq] at request
  exact if_pos (by omega)

/-- Settles O7: rows 2 to 4 of R177 on an interface that is not busy. -/
theorem badTagKindAndLengthAreRefused : Obligations.BadTagKindAndLengthAreRefused := by
  refine ⟨fun i kind tag body s frame running idle => ?_, fun kind tag body s ready unknown => ?_⟩
  · have free : s.served.line.busy = false := s.served_busy.trans idle
    rw [exec_requestFrame frame, takeFrame_running running]
    refine ⟨fun zero low => ?_, fun tagged request long => ?_⟩
    · subst zero
      rw [answerFrame_badTag free, replyKind, if_pos low]
      rfl
    · obtain ⟨q, held, lengths⟩ := catalogue_request request
      rw [held, answerFrame_badLength free tagged (lengths ▸ long), replyKind_request request]
      rfl
  · obtain ⟨running, idle, tagged⟩ := ready
    rw [exec_requestFrame (i := .badKind kind tag body) rfl, takeFrame_running running, catalogue_unknown unknown,
      answerFrame_badKind (s.served_busy.trans idle) tagged]
    rfl

/-! ## A device that is not RUNNING (R174) -/

theorem receiveChar_not_running (h : s.supply.runState ≠ .running) (c : RxChar) : receiveChar c s = s := if_neg h

theorem receive_not_running (h : s.supply.runState ≠ .running) (received : List RxChar) : receive received s = s := by
  induction received with
  | nil => rfl
  | cons c rest ih =>
    change receive rest (receiveChar c s) = s
    rw [receiveChar_not_running h, ih]

/-- Settles O8: neither a frame nor a character is taken. -/
theorem onlyARunningDeviceTakesTheHostLine : Obligations.OnlyARunningDeviceTakesTheHostLine := by
  intro s stopped
  refine ⟨fun i ⟨kind, tag, body⟩ frame => ?_, fun received => ?_⟩
  · rw [exec_requestFrame frame, takeFrame_not_running stopped]
  · have untouched := receive_not_running stopped received
    have noGap : gapExpired s = s := if_neg fun ⟨running, _⟩ => stopped running
    refine ⟨congrArg Host.Outcome.next untouched, congrArg Host.Outcome.next untouched, ?_⟩
    change Host.Outcome.next (gapExpired (receive received s)) = _
    rw [untouched, noGap]

/-! ## STATUS-READ (R180) -/

theorem Pace.code_eq (p : Pace) : p.code = if p = .fast then 1 else 0 := by cases p <;> rfl

/-- The figures that STATUS-READ finds once its own frame has made the link ATTENDED. -/
theorem statusData_served (s : State) : statusData s.served =
    bytesOf 1 (if s.park = .opened then 1 else 0) ++ [1#8] ++ bytesOf 1 (if s.bus.pace = .fast then 1 else 0)
      ++ bytesOf 1 (if s.clock = none then 0 else 1) ++ bytesOf 1 s.settlement.queue.length
      ++ bytesOf 1 s.settlement.reserved ++ bytesOf 1 s.supply.startKind.code ++ bytesOf 1 s.supply.startCause.code
      ++ bytesOf 2 s.line.lineErrors := by
  have clockFlag : yesNoByte s.clock.isSome = bytesOf 1 (if s.clock = none then 0 else 1) := by cases s.clock <;> rfl
  unfold statusData
  rw [s.served_line, s.served_park, s.served_bus, s.served_clock, s.served_settlement, s.served_supply, clockFlag,
    ParkState.code_eq, Pace.code_eq]
  rfl

/-- Settles O11: the reply carries the figures as they stand before the count is cleared. -/
theorem statusReadReportsAndClearsErrors : Obligations.StatusReadReportsAndClearsErrors := by
  intro tag s ready
  rw [← statusData_served]
  exact exec_answered rfl rfl (by decide) ready (by simp [statusRead]) rfl

end Sys2Proof.Machine
end

section
/-! SUPPORT. The frame parser over the characters of a frame, of a part of one, and of a bad-sync run (R175, R176). -/

namespace Sys2Proof.Machine

variable {s : State} {kind tag : Byte} {body : List Byte}

/-! ## Bytes within a frame -/

/-- The place in a frame to which a byte brings the parser: none where the byte belongs to no frame, makes the frame invalid or
ends it. -/
def Parser.advance (b : Byte) : Parser → Option Parser
  | .hunt _ => if b = Config.syncByte then some .length else none
  | .length => if b.toNat ≤ Config.maxBody then some (.header b.toNat none) else none
  | .header size none => some (.header size (some b))
  | .header size (some kind) => some (afterTag size kind b)
  | .body size kind tag taken => some (afterBody size kind tag (taken ++ [b]))
  | .crc kind tag body none => some (.crc kind tag body (some b))
  | .crc _ _ _ (some _) => none

/-- The place in a frame to which bytes bring the parser one after the other. -/
def Parser.advances (bytes : List Byte) (p : Parser) : Option Parser := bytes.foldlM (fun p b => p.advance b) p

theorem Parser.advances_cons (b : Byte) (bytes : List Byte) (p : Parser) :
    p.advances (b :: bytes) = (p.advance b).bind (Parser.advances bytes) := rfl

theorem Parser.advances_append (first rest : List Byte) (p : Parser) :
    p.advances (first ++ rest) = (p.advances first).bind (Parser.advances rest) := List.foldlM_append

/-- A parser that a byte has advanced stands inside a frame. -/
theorem Parser.advance_hunting {b : Byte} {p q : Parser} (h : p.advance b = some q) : q.hunting = false := by
  unfold Parser.advance at h
  split at h
  · split at h <;> cases h
    rfl
  · split at h <;> cases h
    rfl
  · cases h
    rfl
  · cases h
    unfold afterTag
    split <;> rfl
  · cases h
    unfold afterBody
    split <;> rfl
  · cases h
    rfl
  · cases h

theorem Parser.advances_hunting {bytes : List Byte} {p q : Parser} (nonempty : bytes ≠ []) (h : p.advances bytes = some q) :
    q.hunting = false := by
  obtain ⟨first, last, rfl⟩ := (List.eq_nil_or_concat bytes).resolve_left nonempty
  rw [List.concat_eq_append, Parser.advances_append] at h
  obtain ⟨r, -, lastStep⟩ := Option.bind_eq_some_iff.1 h
  rw [Parser.advances_cons] at lastStep
  obtain ⟨q', step, stays⟩ := Option.bind_eq_some_iff.1 lastStep
  cases stays
  exact Parser.advance_hunting step

/-- A byte that advances the parser does nothing else. -/
theorem parseByte_advance {b : Byte} {p : Parser} (h : s.line.parser.advance b = some p) : parseByte b s = s.withParser p := by
  unfold parseByte
  rcases place : s.line.parser with badRun | _ | ⟨size, _ | kind⟩ | ⟨size, kind, tag, taken⟩ |
    ⟨kind, tag, body, _ | first⟩ <;> rw [place] at h
  case hunt =>
    obtain ⟨sync, e⟩ := Option.ite_none_right_eq_some.1 h
    cases e
    exact if_pos sync
  case length =>
    obtain ⟨fits, e⟩ := Option.ite_none_right_eq_some.1 h
    cases e
    exact if_pos fits
  case crc.some => cases h
  all_goals
    cases h
    rfl

/-- Bytes that advance the parser of a running device do nothing else. -/
theorem receive_advances (running : s.supply.runState = .running) {bytes : List Byte} {p : Parser}
    (h : s.line.parser.advances bytes = some p) : receive (goodChars bytes) s = s.withParser p := by
  induction bytes generalizing s with
  | nil =>
    cases h
    rfl
  | cons b bytes ih =>
    rw [Parser.advances_cons] at h
    obtain ⟨q, first, rest⟩ := Option.bind_eq_some_iff.1 h
    have taken : receiveChar ⟨b, true⟩ s = s.withParser q := (if_pos running).trans (parseByte_advance first)
    change receive (goodChars bytes) (receiveChar ⟨b, true⟩ s) = _
    rw [taken]
    exact ih (s := s.withParser q) running rest

/-! ## The bytes of a frame (section 12.1) -/

theorem afterTag_eq (size : Nat) (kind tag : Byte) : afterTag size kind tag = afterBody size kind tag [] := by
  unfold afterTag afterBody
  by_cases h : size = 0 <;> simp [h]

/-- The body bytes of a frame bring the parser to its CRC. -/
theorem Parser.advances_body (kind tag : Byte) (taken rest : List Byte) :
    (afterBody (taken ++ rest).length kind tag taken).advances rest = some (.crc kind tag (taken ++ rest) none) := by
  induction rest generalizing taken with
  | nil =>
    rw [List.append_nil, afterBody, if_pos le_rfl]
    rfl
  | cons b rest ih =>
    have within : afterBody (taken ++ b :: rest).length kind tag taken = .body (taken ++ b :: rest).length kind tag taken :=
      if_neg (by simp)
    have ih := ih (taken ++ [b])
    rw [List.append_assoc, List.singleton_append] at ih
    rw [within]
    exact ih

/-- The sync byte, the length, kind, tag and body bytes and the first CRC byte bring the parser to the last CRC byte. -/
theorem Parser.advances_frame (b : Bool) (kind tag c : Byte) (short : body.length ≤ 240) :
    (Parser.hunt b).advances (0xC3#8 :: hostFrameCore kind tag body ++ [c]) = some (.crc kind tag body (some c)) := by
  have size : (BitVec.ofNat 8 body.length).toNat = body.length := by
    rw [BitVec.toNat_ofNat]
    omega
  have lengthStep : Parser.length.advance (BitVec.ofNat 8 body.length) = some (.header body.length none) := by
    unfold Parser.advance
    rw [size]
    exact if_pos short
  have bytes : 0xC3#8 :: hostFrameCore kind tag body ++ [c] =
      0xC3#8 :: BitVec.ofNat 8 body.length :: kind :: tag :: (body ++ [c]) := by
    simp [hostFrameCore, bytesOf]
  have syncStep : (Parser.hunt b).advance 0xC3#8 = some .length := rfl
  have kindStep : (Parser.header body.length none).advance kind = some (.header body.length (some kind)) := rfl
  have tagStep : (Parser.header body.length (some kind)).advance tag = some (afterBody body.length kind tag []) :=
    congrArg some (afterTag_eq _ _ _)
  have bodySteps := Parser.advances_body kind tag [] body
  rw [List.nil_append] at bodySteps
  rw [bytes]
  simp only [Parser.advances_cons, syncStep, lengthStep, kindStep, tagStep, Option.bind_some, Parser.advances_append,
    bodySteps]
  rfl

/-- Up to its last CRC byte, a frame only advances the parser of a running device in HUNT. -/
theorem receive_frame {b : Bool} (running : s.supply.runState = .running) (hunt : s.line.parser = .hunt b) (kind tag c d : Byte)
    (short : body.length ≤ 240) : receive (goodChars (0xC3#8 :: hostFrameCore kind tag body ++ [c, d])) s =
      endFrame kind tag body c d (s.withParser (.crc kind tag body (some c))) := by
  have advanced := receive_advances running ((congrArg (Parser.advances _) hunt).trans (Parser.advances_frame b kind tag c short))
  have last : goodChars (0xC3#8 :: hostFrameCore kind tag body ++ [c, d]) =
      goodChars (0xC3#8 :: hostFrameCore kind tag body ++ [c]) ++ [⟨d, true⟩] := by
    simp [goodChars]
  rw [last, receive_append, advanced]
  exact if_pos running

/-- The two CRC bytes of a frame. -/
theorem crcBytes_pair (bytes : List Byte) : ∃ c d, crcBytes bytes = [c, d] := List.length_eq_two.1 (length_crcBytes bytes)

/-- A proper beginning of a frame leaves the parser of a running device inside that frame, and changes nothing else. -/
theorem receive_beginning {b : Bool} (running : s.supply.runState = .running) (hunt : s.line.parser = .hunt b) (kind tag : Byte)
    (short : body.length ≤ 240) {k : Nat} (begun : 0 < k) (unfinished : k < (hostFrameBytes kind tag body).length) :
    ∃ p : Parser, p.hunting = false ∧ receive (goodChars ((hostFrameBytes kind tag body).take k)) s = s.withParser p := by
  obtain ⟨c, d, crc⟩ := crcBytes_pair (hostFrameCore kind tag body)
  have frame : hostFrameBytes kind tag body = (0xC3#8 :: hostFrameCore kind tag body ++ [c]) ++ [d] := by
    rw [hostFrameBytes, crc, List.append_assoc]
    rfl
  rw [frame] at unfinished ⊢
  rw [List.length_append, List.length_singleton] at unfinished
  have whole := Parser.advances_frame b kind tag c short
  generalize 0xC3#8 :: hostFrameCore kind tag body ++ [c] = bytes at unfinished whole ⊢
  rw [List.take_append_of_le_length (by omega)]
  rw [← List.take_append_drop k bytes, Parser.advances_append] at whole
  obtain ⟨p, beginning, -⟩ := Option.bind_eq_some_iff.1 whole
  refine ⟨p, Parser.advances_hunting ?_ beginning, receive_advances running (by rw [hunt, beginning])⟩
  rw [← List.length_pos_iff, List.length_take]
  omega

/-! ## Frames that are taken -/

/-- Taking a frame forgets where the parser stood. -/
theorem takeFrame_withParser (running : s.supply.runState = .running) (p : Parser) (q : Option Request) :
    takeFrame kind tag body q (s.withParser p) = takeFrame kind tag body q s := by
  rw [takeFrame_running running, takeFrame_running (s := s.withParser p) running]
  rfl

/-- Settles O10: the characters bring the parser to the frame's last byte, which takes it as the command does. -/
theorem receivedFramesAreTheirCommands : Obligations.ReceivedFramesAreTheirCommands := by
  intro i kind tag body s b frame short running hunt
  obtain ⟨c, d, crc⟩ := crcBytes_pair (hostFrameCore kind tag body)
  have bytes : hostFrameBytes kind tag body = 0xC3#8 :: hostFrameCore kind tag body ++ [c, d] := by
    rw [hostFrameBytes, crc]
    rfl
  rw [exec_requestFrame frame, bytes, receive_frame running hunt kind tag c d short, endFrame, if_pos crc.symm,
    takeFrame_withParser running]

/-! ## Frames that are discarded (R175, R176) -/

/-- Discarding a frame forgets where the parser stood. -/
theorem discardFrame_withParser (p : Parser) (s : State) : discardFrame (s.withParser p) = discardFrame s := rfl

/-- A frame with a wrong CRC is discarded. -/
theorem receive_wrongCrc {b : Bool} (running : s.supply.runState = .running) (hunt : s.line.parser = .hunt b) {c d : Byte}
    (short : body.length ≤ 240) (wrong : [c, d] ≠ crcBytes (hostFrameCore kind tag body)) :
    receive (goodChars (0xC3#8 :: hostFrameCore kind tag body ++ [c, d])) s = discardFrame s := by
  rw [receive_frame running hunt kind tag c d short, endFrame, if_neg wrong, discardFrame_withParser]

/-- A frame that announces a body of more than 240 bytes is discarded. -/
theorem receive_tooLong {b : Bool} (running : s.supply.runState = .running) (hunt : s.line.parser = .hunt b) {length : Byte}
    (long : 240 < length.toNat) : receive (goodChars [0xC3#8, length]) s = discardFrame s := by
  have synced : receive (goodChars [0xC3#8]) s = s.withParser .length := receive_advances running (by rw [hunt]; rfl)
  have tooLong : parseByte length (s.withParser .length) = discardFrame (s.withParser .length) := if_neg (Nat.not_le.2 long)
  change receive (goodChars [0xC3#8] ++ [⟨length, true⟩]) s = _
  rw [receive_append, synced]
  exact (if_pos running).trans tooLong

/-- Inside a frame a bad stop bit discards it. -/
theorem badStop_inside {p : Parser} (inside : p.hunting = false) (s : State) :
    badStop (s.withParser p) = discardFrame s := by
  cases p with
  | hunt badRun => cases inside
  | length => rfl
  | header => rfl
  | body => rfl
  | crc => rfl

/-- Inside a frame the gap discards it. -/
theorem gapExpired_inside {p : Parser} (running : s.supply.runState = .running) (inside : p.hunting = false) :
    gapExpired (s.withParser p) = discardFrame s := if_pos ⟨running, congrArg not inside⟩

/-! ## Bad-sync runs (R176) -/

theorem noSync_cons (c : RxChar) (rest : List RxChar) :
    noSync (c :: rest) = true ↔ (c.stopGood && c.value == 0xC3#8) = false ∧ noSync rest = true := by
  change (!(c.stopGood && c.value == 0xC3#8) && noSync rest) = true ↔ _
  rw [Bool.and_eq_true, Bool.not_eq_true']

/-- In HUNT a character that is no sync byte with a good stop bit belongs to a bad-sync run. -/
theorem receiveChar_badSync {b : Bool} (running : s.supply.runState = .running) (hunt : s.line.parser = .hunt b) {c : RxChar}
    (other : (c.stopGood && c.value == 0xC3#8) = false) : receiveChar c s = badSyncByte b s := by
  unfold receiveChar
  rw [if_pos running]
  by_cases good : c.stopGood = true
  · have value : c.value ≠ Config.syncByte := by
      rw [good, Bool.true_and] at other
      exact ne_of_beq_false other
    rw [if_pos good, parseByte, hunt]
    exact if_neg value
  · rw [if_neg good, badStop, hunt]

/-- Within a run that is under way, more of it changes nothing. -/
theorem receive_moreBadSync (running : s.supply.runState = .running) (hunt : s.line.parser = .hunt true) {received : List RxChar}
    (other : noSync received = true) : receive received s = s := by
  induction received with
  | nil => rfl
  | cons c rest ih =>
    obtain ⟨first, others⟩ := (noSync_cons c rest).1 other
    have unchanged : badSyncByte true s = s := by
      change s.withParser (.hunt true) = s
      rw [← hunt]
      rfl
    change receive rest (receiveChar c s) = s
    rw [receiveChar_badSync running hunt first, unchanged, ih others]

/-- A bad-sync run does what its first character does. -/
theorem receive_badSyncRun {b : Bool} (running : s.supply.runState = .running) (hunt : s.line.parser = .hunt b)
    {received : List RxChar} (nonempty : received ≠ []) (other : noSync received = true) :
    receive received s = badSyncByte b s := by
  obtain ⟨c, rest, rfl⟩ := List.exists_cons_of_ne_nil nonempty
  obtain ⟨first, others⟩ := (noSync_cons c rest).1 other
  have stillRunning : (badSyncByte b s).supply.runState = .running := by
    cases b <;> exact running
  change receive rest (receiveChar c s) = _
  rw [receiveChar_badSync running hunt first]
  exact receive_moreBadSync stillRunning rfl others

/-- Settles O9: each clause brings the parser to the character that discards the frame, or to the first one of a run. -/
theorem discardedFramesCountOneLineError : Obligations.DiscardedFramesCountOneLineError := by
  intro s b running hunt errors discarded
  refine ⟨fun kind tag c d body short wrong => congrArg Host.Outcome.next (receive_wrongCrc running hunt short wrong),
    fun length long => congrArg Host.Outcome.next (receive_tooLong running hunt long),
    fun kind tag v body k short begun unfinished => ?_, fun received nonempty other => ?_⟩
  · obtain ⟨p, inside, begun⟩ := receive_beginning running hunt kind tag short begun unfinished
    constructor
    · change Host.Outcome.next (receive (_ ++ [⟨v, false⟩]) s) = _
      rw [receive_append, begun]
      exact congrArg Host.Outcome.next ((if_pos running).trans (badStop_inside inside s))
    · change Host.Outcome.next (gapExpired (receive _ s)) = _
      rw [begun, gapExpired_inside running inside]
      rfl
  · change Host.Outcome.next (receive received s) = _
    rw [receive_badSyncRun running hunt nonempty other]
    cases b <;> rfl

end Sys2Proof.Machine
end

section
/-! SUPPORT. The condition sets: what a change of one set leaves, the three requests on the conditions, and the notices
(R178, R182 to R186, section 12.2). -/

namespace Sys2Proof.Machine

variable {s : State} {tag : Byte} {body : List Byte} {k : Fin 17} {n : Ped}

/-! ## The flags of a set (R182) -/

/-- The condition set of a pedestal. -/
def pedestalSet (n : Ped) : Fin 17 := Fin.ofNat 17 n.number

theorem conditionSetOf_pedestalSet {v : Nat} (h : v = n.number) : conditionSetOf v = some (pedestalSet n) :=
  (conditionSetOf_pedestal h).1

theorem pedestalSet_ne_zero (n : Ped) : pedestalSet n ≠ 0 := (conditionSetOf_pedestal (n := n) rfl).2.1

theorem setPedestal_pedestalSet (n : Ped) : setPedestal (pedestalSet n) = n := (conditionSetOf_pedestal (n := n) rfl).2.2

theorem pedestalSet_val (n : Ped) : (pedestalSet n).val = n.number := Nat.mod_eq_of_lt (Nat.succ_lt_succ n.isLt)

theorem conditionSetOf_none {v : Nat} (h : 16 < v) : conditionSetOf v = none := if_neg (Nat.not_le.2 h)

/-- Two sets beside the park's are those of two pedestals. -/
theorem setPedestal_ne {j k : Fin 17} (hj : j ≠ 0) (hk : k ≠ 0) (h : j ≠ k) : setPedestal j ≠ setPedestal k := by
  revert j k
  decide

theorem condFlags_park (c : Conditions) : condFlags c 0 = c.park.toList := if_pos rfl

theorem condFlags_pedestal (c : Conditions) (n : Ped) : condFlags c (pedestalSet n) = (c.ped.get n).toList := by
  rw [condFlags, if_neg (pedestalSet_ne_zero n), setPedestal_pedestalSet]

theorem mapFlags_park (f : Nat → Option Latched → Option Latched) (c : Conditions) :
    mapFlags 0 f c = { c with park := c.park.mapIdx f } := if_pos rfl

theorem mapFlags_pedestal (n : Ped) (f : Nat → Option Latched → Option Latched) (c : Conditions) :
    mapFlags (pedestalSet n) f c = { c with ped := c.ped.set n ((c.ped.get n).mapIdx f) } := by
  simp only [mapFlags, if_neg (pedestalSet_ne_zero n), setPedestal_pedestalSet]

/-- A change of one set's flags leaves the masks as they are. -/
theorem mapFlags_masks (k : Fin 17) (f : Nat → Option Latched → Option Latched) (c : Conditions) :
    (mapFlags k f c).pedMask = c.pedMask ∧ (mapFlags k f c).parkMask = c.parkMask := by
  unfold mapFlags
  split <;> exact ⟨rfl, rfl⟩

/-- A change of one set's flags changes each of them by its bit. -/
theorem condFlags_mapFlags_self (k : Fin 17) (f : Nat → Option Latched → Option Latched) (c : Conditions) (i : Nat) :
    (condFlags (mapFlags k f c) k)[i]? = ((condFlags c k)[i]?).map (f i) := by
  unfold condFlags mapFlags
  by_cases park : k = 0
  · simp only [if_pos park, Vector.getElem?_toList, Vector.getElem?_mapIdx]
  · simp only [if_neg park, get_set_self, Vector.getElem?_toList, Vector.getElem?_mapIdx]

/-- A change of one set's flags leaves those of the others. -/
theorem condFlags_mapFlags_ne {j k : Fin 17} (h : j ≠ k) (f : Nat → Option Latched → Option Latched) (c : Conditions) :
    condFlags (mapFlags k f c) j = condFlags c j := by
  unfold condFlags mapFlags
  by_cases park : k = 0
  · have pedestal : j ≠ 0 := park ▸ h
    simp only [if_pos park, if_neg pedestal]
  · by_cases parkToo : j = 0
    · simp only [if_neg park, if_pos parkToo]
    · simp only [if_neg park, if_neg parkToo, get_set_ne _ (setPedestal_ne parkToo park h)]

/-! ## CONDITIONS-READ (R185) -/

theorem mapIdx_const {α β : Type} {size : Nat} (f : α → β) (v : Vector α size) : v.mapIdx (fun _ => f) = v.map f := by
  ext i hi
  simp

theorem conditionsRead_named (hk : conditionSetOf (fieldAt body 0 1) = some k) (s : State) : conditionsRead.act body s =
    (⟨.done, conditionsReadData k s.conds⟩, { s with conds := markAllReported k s.conds }) := by
  simp only [conditionsRead, hk]

theorem conditionsRead_outOfRange (h : 16 < fieldAt body 0 1) (s : State) :
    conditionsRead.act body s = (⟨.outOfRange, []⟩, s) := by
  simp only [conditionsRead, conditionSetOf_none h]

/-- CONDITIONS-READ of any set: the bits of its set flags and of their reported marks, and the data of the set flags. -/
theorem conditionsRead_answer (ready : s.Ready tag) (one : body.length = 1) (hk : conditionSetOf (fieldAt body 0 1) = some k) :
    ∃ flags marks : Nat, Listed (condFlags s.served.conds k) (fun _ _ => true) flags
      ∧ Listed (condFlags s.served.conds k) (fun _ l => l.reported) marks
      ∧ exec (.conditionsRead tag body) s = .next (State.answering 0x9A#8 tag .done
        (bytesOf 1 k.val ++ bytesOf 2 flags ++ bytesOf 2 marks ++ listedData (condFlags s.served.conds k) fun _ _ => true)
        { s.served with conds := markAllReported k s.served.conds }) := by
  refine ⟨_, _, listed_bitsWhere _ _, listed_bitsWhere _ _, ?_⟩
  rw [listedData_eq]
  exact exec_answered rfl rfl (by decide) ready (by simp [conditionsRead, one]) (conditionsRead_named hk _)

/-! ## CONDITIONS-CLEAR (R186) -/

theorem conditionsClear_named (hk : conditionSetOf (fieldAt body 0 1) = some k) (someKind : 0 < fieldAt body 1 2)
    (own : fieldAt body 1 2 < 2 ^ kindsOfSet k) (s : State) : conditionsClear.act body s =
      let conds := clearReported k (fieldAt body 1 2) s.conds
      (⟨.done, bytesOf 2 (bitsWhere (fun _ _ => true) 0 (condFlags conds k))⟩, { s with conds := conds }) := by
  have kinds : ¬ (fieldAt body 1 2 = 0 ∨ fieldAt body 1 2 ≥ 2 ^ kindsOfSet k) := by omega
  simp only [conditionsClear, hk, if_neg kinds]

/-- No set of that number, no kind at all, and kinds beyond those of the set's type. -/
theorem conditionsClear_outOfRange (h : 16 < fieldAt body 0 1 ∨ fieldAt body 1 2 = 0
      ∨ (fieldAt body 0 1 = 0 ∧ 2 ^ 5 ≤ fieldAt body 1 2) ∨ 2 ^ 11 ≤ fieldAt body 1 2) (s : State) :
    conditionsClear.act body s = (⟨.outOfRange, []⟩, s) := by
  unfold conditionsClear conditionSetOf kindsOfSet
  by_cases beyond : 16 < fieldAt body 0 1
  · simp only [if_neg (Nat.not_le.2 beyond)]
  · have kinds : fieldAt body 1 2 = 0 ∨
        fieldAt body 1 2 ≥ 2 ^ (if Fin.ofNat 17 (fieldAt body 0 1) = 0 then 5 else 11) := by
      split
      · omega
      · next pedestal =>
        have : fieldAt body 0 1 ≠ 0 := fun zero => pedestal (by rw [zero]; rfl)
        omega
    simp only [if_pos (Nat.not_lt.1 beyond), if_pos kinds]

/-- CONDITIONS-CLEAR of any set: the reply lists the flags that remain. -/
theorem conditionsClear_answer (ready : s.Ready tag) (three : body.length = 3)
    (hk : conditionSetOf (fieldAt body 0 1) = some k) (someKind : 0 < fieldAt body 1 2)
    (own : fieldAt body 1 2 < 2 ^ kindsOfSet k) :
    ∃ left : Nat, Listed (condFlags (clearReported k (fieldAt body 1 2) s.served.conds) k) (fun _ _ => true) left
      ∧ exec (.conditionsClear tag body) s = .next (State.answering 0x9B#8 tag .done (bytesOf 2 left)
        { s.served with conds := clearReported k (fieldAt body 1 2) s.served.conds }) :=
  ⟨_, listed_bitsWhere _ _, exec_answered rfl rfl (by decide) ready (by simp [conditionsClear, three])
    (conditionsClear_named hk someKind own _)⟩

/-- A flag after CONDITIONS-CLEAR: none when it was named and reported. -/
def clearedFlag (named i : Nat) (f : Option Latched) : Option Latched :=
  f.bind fun l => if named.testBit i && l.reported then none else some l

theorem clearedFlag_eq (named i : Nat) (f : Option Latched) :
    clearedFlag named i f = if named.testBit i ∧ f.map (·.reported) = some true then none else f := by
  cases f <;> simp [clearedFlag]

/-- The flags of a set of either type after CONDITIONS-CLEAR. -/
theorem get_clearedFlags {size : Nat} (named : Nat) (v : Vector (Option Latched) size) (i : Fin size) :
    (v.mapIdx (clearedFlag named)).get i =
      if named.testBit i ∧ (v.get i).map (·.reported) = some true then none else v.get i :=
  (Vector.getElem_mapIdx i.isLt).trans (clearedFlag_eq named i (v.get i))

/-! ## CONDITIONS-MASK (R183) -/

theorem conditionsMask_outOfRange (h : 2 ^ 11 ≤ fieldAt body 0 2 ∨ 2 ^ 5 ≤ fieldAt body 2 1) (s : State) :
    conditionsMask.act body s = (⟨.outOfRange, []⟩, s) := if_pos h

theorem conditionsMask_taken (ped : fieldAt body 0 2 < 2 ^ 11) (park : fieldAt body 2 1 < 2 ^ 5) (s : State) :
    conditionsMask.act body s = (⟨.done, []⟩, { s with conds := { s.conds with
      pedMask := BitVec.ofNat 11 (fieldAt body 0 2), parkMask := BitVec.ofNat 5 (fieldAt body 2 1) } }) :=
  if_neg fun h => h.elim (Nat.not_le.2 ped) (Nat.not_le.2 park)

/-- Settles O25: each request on the park's set and on a pedestal's set is the one on any set. -/
theorem conditionsAreReadClearedAndMasked : Obligations.ConditionsAreReadClearedAndMasked := by
  intro tag body s ready c mark cleared
  refine ⟨fun one => ⟨fun beyond => ?_, fun zero => ?_, fun n hn => ?_⟩,
    fun three => ⟨fun bad => ?_, fun zero someKind own => ?_, fun n hn someKind own => ?_⟩, fun three => ⟨fun bad => ?_, fun ped park => ?_⟩⟩
  · exact exec_answered rfl rfl (by decide) ready (by simp [conditionsRead, one]) (conditionsRead_outOfRange beyond _)
  · have answer := conditionsRead_answer (k := 0) ready one (by rw [zero]; rfl)
    rwa [condFlags_park, markAllReported, mapFlags_park, mapIdx_const] at answer
  · have answer := conditionsRead_answer ready one (conditionSetOf_pedestalSet hn)
    rwa [condFlags_pedestal, markAllReported, mapFlags_pedestal, mapIdx_const, pedestalSet_val] at answer
  · exact exec_answered rfl rfl (by decide) ready (by simp [conditionsClear, three]) (conditionsClear_outOfRange bad _)
  · obtain ⟨left, listed, answer⟩ := conditionsClear_answer (k := 0) ready three (by rw [zero]; rfl) someKind own
    rw [clearReported, mapFlags_park] at listed answer
    exact ⟨_, left, get_clearedFlags _ _, listed, answer⟩
  · have kinds : kindsOfSet (pedestalSet n) = 11 := if_neg (pedestalSet_ne_zero n)
    obtain ⟨left, listed, answer⟩ := conditionsClear_answer ready three (conditionSetOf_pedestalSet hn) someKind
      (by rwa [kinds])
    rw [clearReported, mapFlags_pedestal] at listed answer
    rw [condFlags_pedestal, get_set_self] at listed
    exact ⟨_, left, get_clearedFlags _ _, listed, answer⟩
  · exact exec_answered rfl rfl (by decide) ready (by simp [conditionsMask, three]) (conditionsMask_outOfRange bad _)
  · exact exec_answered rfl rfl (by decide) ready (by simp [conditionsMask, three]) (conditionsMask_taken ped park _)

/-! ## The set that a notice reports (R184) -/

/-- The set at which the search for the next notice begins. -/
def firstSet (last : Option (Fin 17)) : Fin 17 := last.elim 0 fun k => k + 1

/-- The search goes once round the seventeen sets. -/
theorem noticeOrder_eq (last : Option (Fin 17)) : noticeOrder last = (List.finRange 17).map fun i => firstSet last + i := by
  cases last with
  | none => simp [noticeOrder, firstSet]
  | some k => rfl

theorem nextNoticeSet_none {c : Conditions} (h : ∀ k, hasNews c k = false) : nextNoticeSet c = none :=
  List.find?_eq_none.2 fun k _ => by simp [h k]

/-- The first set with news from the one after the last notice's on. -/
theorem nextNoticeSet_some {c : Conditions} (h : hasNews c k = true)
    (before : ∀ m, (m - firstSet c.lastNotice).val < (k - firstSet c.lastNotice).val → hasNews c m = false) :
    nextNoticeSet c = some k := by
  unfold nextNoticeSet
  rw [noticeOrder_eq, List.find?_eq_some_iff_getElem]
  refine ⟨h, (k - firstSet c.lastNotice).val, by simp, by simp, fun j hj => ?_⟩
  have earlier := before (firstSet c.lastNotice + ⟨j, hj.trans (Fin.isLt _)⟩) (by simpa using hj)
  simpa using earlier

/-! ## What is sent next (R178) -/

theorem frameSent_reply {r : Reply} (h : s.line.replyWaiting = some r) :
    frameSent s = { s with line := { s.line with sending := some (.reply r), replyWaiting := none } } := by
  simp only [frameSent, h]
  rfl

theorem frameSent_busy {b : Reply} {bs : List Reply} (h : s.line.replyWaiting = none) (hl : s.line.busyList = b :: bs) :
    frameSent s = { s with line := { s.line with sending := some (.reply b), busyList := bs } } := by
  simp only [frameSent, h, hl]
  rfl

theorem frameSent_last (h : s.line.replyWaiting = none) (hl : s.line.busyList = []) :
    frameSent s = startNotice { s with line := { s.line with sending := none } } := by
  simp only [frameSent, h, hl]
  rfl

/-- The end of the frame under way, a reply or a notice. -/
theorem exec_frameSent {i : Instr} (h : (i = .replySent ∧ ∃ r, s.line.sending = some (.reply r))
    ∨ (i = .noticeSent ∧ ∃ x, s.line.sending = some (.notice x))) : exec i s = .next (frameSent s) := by
  rcases h with ⟨rfl, r, under⟩ | ⟨rfl, x, under⟩
  · simp only [exec, execReplySent, under]
  · simp only [exec, execNoticeSent, under]

/-! ## Notices (R184) -/

theorem startNotice_none (h : nextNoticeSet s.conds = none) : startNotice s = s := by
  unfold startNotice
  rw [h]
  exact ite_self s

theorem startNotice_some (free : s.line.free = true) (running : s.supply.runState = .running)
    (h : nextNoticeSet s.conds = some k) : startNotice s = { s with
      conds := (noticeFor k s.conds).2
      line := { s.line with sending := some (.notice (noticeFor k s.conds).1) } } := by
  unfold startNotice
  rw [if_pos ⟨free, running⟩, h]

/-- The mask bits of a set, by its type. -/
theorem testBit_maskOf (c : Conditions) (k : Fin 17) (i : Nat) :
    (maskOf c k).testBit i = if k = 0 then c.parkMask.getLsbD i else c.pedMask.getLsbD i := by
  unfold maskOf
  split <;> rfl

/-- A flag of the set that a notice reports: marked reported when the notice lists it. -/
def noticedFlag (mask i : Nat) (f : Option Latched) : Option Latched :=
  f.map fun l => if isNews mask i l then { l with reported := true } else l

theorem noticeFor_conds (k : Fin 17) (c : Conditions) :
    (noticeFor k c).2 = { mapFlags k (noticedFlag (maskOf c k)) c with lastNotice := some k } := rfl

theorem noticeFor_masks (k : Fin 17) (c : Conditions) :
    (noticeFor k c).2.pedMask = c.pedMask ∧ (noticeFor k c).2.parkMask = c.parkMask := mapFlags_masks k _ c

theorem condFlags_noticeFor_ne {j k : Fin 17} (h : j ≠ k) (c : Conditions) :
    condFlags (noticeFor k c).2 j = condFlags c j := condFlags_mapFlags_ne h (noticedFlag (maskOf c k)) c

/-- A flag that the notice of its set lists is marked reported; another stays as it is. -/
theorem condFlags_noticeFor_self (k : Fin 17) (c : Conditions) (i : Nat) :
    (condFlags (noticeFor k c).2 k)[i]? = ((condFlags c k)[i]?).map fun f => f.map fun l =>
      if l.reported = false ∧ (maskOf c k).testBit i = false then { l with reported := true } else l := by
  have noticed : noticedFlag (maskOf c k) i = fun f => f.map fun l =>
      if l.reported = false ∧ (maskOf c k).testBit i = false then { l with reported := true } else l := by
    funext f
    simp only [noticedFlag, isNews, Bool.and_eq_true, Bool.not_eq_true']
  rw [← noticed]
  exact condFlags_mapFlags_self k (noticedFlag (maskOf c k)) c i

/-- Settles O31: what follows a frame is read off frameSent, and the notice of the first set with news off noticeFor. -/
theorem framesFollowEachOther : Obligations.FramesFollowEachOther := by
  intro s
  refine ⟨fun i ended => ?_, fun idle noReply noBusy running => ?_⟩
  · rw [exec_frameSent ended]
    exact ⟨fun r waiting => by rw [frameSent_reply waiting], fun b bs noWait listed => by rw [frameSent_busy noWait listed],
      fun noWait empty => by rw [frameSent_last noWait empty]; rfl⟩
  · intro first flags masked fresh news
    have free : s.line.free = true := by simp [HostLine.free, idle, noReply, noBusy]
    have fresh_eq (k : Fin 17) : fresh k = isNews (maskOf s.conds k) := by
      funext i l
      rw [isNews, testBit_maskOf]
    have news_iff (k : Fin 17) : news k ↔ hasNews s.conds k = true := by
      rw [hasNews_iff, ← fresh_eq]
      rfl
    refine ⟨fun quiet => ?_, fun k found before => ?_⟩
    · have noSet := nextNoticeSet_none fun k => Bool.eq_false_iff.2 fun h => quiet k ((news_iff k).2 h)
      exact congrArg Host.Outcome.next (startNotice_none noSet)
    · have next := nextNoticeSet_some ((news_iff k).1 found) fun m earlier =>
        Bool.eq_false_iff.2 fun h => before m earlier ((news_iff m).2 h)
      obtain ⟨pedMask, parkMask⟩ := noticeFor_masks k s.conds
      refine ⟨(noticeFor k s.conds).2, _, listed_bitsWhere _ _, ?_, rfl, pedMask, parkMask,
        fun j other => condFlags_noticeFor_ne other s.conds, condFlags_noticeFor_self k s.conds⟩
      rw [listedData_eq, fresh_eq]
      exact congrArg Host.Outcome.next (startNotice_some free running next)

end Sys2Proof.Machine
end

section
/-! SUPPORT. O50: the two RESTART rows (R192). Both rows are one request, and its body alone decides what it does. -/

namespace Sys2Proof.Machine

variable {s : State} {body : List Byte}

/-- What entering RESTARTING moves: the bus, the list of BUSY replies and the pending restart. -/
theorem enterRestarting_eq (kind : RestartKind) (s : State) : enterRestarting kind s = { s with
    bus := s.bus.askedToStop
    line := { s.line with busyList := [] }
    supply := { s.supply with runState := .restarting, pendingRestart := some kind } } := by
  unfold enterRestarting
  rw [requestStopAll_eq]
  rfl

/-! ## The rows of R192 -/

theorem restart_soft (soft : fieldAt body 0 1 = 0) (s : State) :
    restart.act body s = (⟨.done, []⟩, enterRestarting .soft (forPedestals (haltSession .hostRestart) s)) := by
  simp only [restart, soft, done]

theorem restart_hard_refused (hard : fieldAt body 0 1 = 1) (opened : ∃ n, (s.session n).state.isOpen = true) :
    restart.act body s = (⟨.wrongState, []⟩, s) := by
  simp only [restart, hard, if_pos (s.anyOpen_iff.2 opened)]

theorem restart_hard_taken (hard : fieldAt body 0 1 = 1) (shut : s.Shut) :
    restart.act body s = (⟨.done, []⟩, enterRestarting .hard s) := by
  simp only [restart, hard, s.anyOpen_eq_false_iff.2 shut, Bool.false_eq_true, if_false, done]

theorem restart_outOfRange (beyond : 1 < fieldAt body 0 1) (s : State) : restart.act body s = (⟨.outOfRange, []⟩, s) := by
  simp only [restart]
  split
  next zero => omega
  next one => omega
  next => rfl

/-- Either RESTART row is the request RESTART: its answer goes out from the state that it leaves (R177). -/
theorem exec_restart {tag : Byte} {data : List Byte} {i : Instr} {code : ReplyCode} {t : State}
    (row : i = .restartSoft tag body ∨ i = .restartHard tag body) (ready : s.Ready tag) (one : body.length = 1)
    (answer : restart.act body s.served = (⟨code, data⟩, t)) :
    exec i s = .next (State.answering 0x9D#8 tag code data t) := by
  have frame : requestFrame i = some (0x1D#8, tag, body) := by rcases row with rfl | rfl <;> rfl
  exact exec_answered frame rfl (by decide) ready (by simp [restart, one]) answer

/-- Settles O50: the rows of R192 by the kind that the body names; serving the link opens and closes no session. -/
theorem restartRequestsEnterRestarting : Obligations.RestartRequestsEnterRestarting := by
  intro tag body s i ready one row entered
  have entered_eq (kind : RestartKind) (u : State) : entered kind u = enterRestarting kind u := (enterRestarting_eq kind u).symm
  refine ⟨fun soft => ?_, fun hard opened => ?_, fun hard shut => ?_, fun beyond => ?_⟩
  · rw [entered_eq]
    exact exec_restart row ready one (restart_soft soft _)
  · exact exec_restart row ready one (restart_hard_refused hard (by simpa only [State.served_session] using opened))
  · rw [entered_eq]
    exact exec_restart row ready one (restart_hard_taken hard fun n => by rw [State.served_session, shut n])
  · exact exec_restart row ready one (restart_outOfRange beyond _)

end Sys2Proof.Machine
end

section
/-! SUPPORT. O3: what every operation of the model leaves of the queue of the commands that wait (notes/assumptions/4.md). -/

namespace Sys2Proof.Machine

variable (n : Ped) (s : State)

/-- Sixteen operations that each leave the queue of waiting commands leave it together. -/
theorem forPedestals_pending {f : Ped → State → State} (h : ∀ n s, (f n s).pending = s.pending) :
    (forPedestals f s).pending = s.pending := forPedestals_frame h

/-- What is done only in some states leaves the queue if the deed does. -/
theorem ite_pending {s t : State} {p : Prop} [Decidable p] (h : t.pending = s.pending) :
    (if p then t else s).pending = s.pending := by
  split
  · exact h
  · rfl

/-! ## Pace, new records and refusals -/

@[simp] theorem putSession_pending (r : Session) : (putSession n r s).pending = s.pending := by
  obtain ⟨pace, timer, start, e⟩ := putSession_eq n r s
  rw [e, State.withBus_pending, State.setSession_pending]

@[simp] theorem quietActivity_pending : (quietActivity s).pending = s.pending := by
  rcases quietActivity_cases s with ⟨_, e⟩ | ⟨_, e⟩ <;> rw [e]
  obtain ⟨start, e, _⟩ := paceFast_eq s
  rw [startQuiet_pending, e, State.withBus_pending]

@[simp] theorem refuseToken_pending (reason : Byte) : (refuseToken n reason s).pending = s.pending := by
  rw [refuseToken_eq, State.setSession_pending, latchPed_pending]

/-! ## Ends of sessions -/

@[simp] theorem cancelSession_pending (reason : Byte) : (cancelSession n reason s).pending = s.pending := by
  obtain ⟨bus, records, conds, settlement, e⟩ := cancelSession_frame n reason s
  rw [e]

@[simp] theorem closeSession_pending (why : EndReason) : (closeSession n why s).pending = s.pending := by
  obtain ⟨bus, records, conds, settlement, e⟩ := closeSession_frame n why s
  rw [e]

@[simp] theorem haltSession_pending (why : EndReason) : (haltSession why n s).pending = s.pending := by
  obtain ⟨bus, records, conds, settlement, e⟩ := haltSession_frame n why s
  rw [e]

@[simp] theorem enterEnding_pending (why : EndReason) : (enterEnding n why s).pending = s.pending := putSession_pending n s _

@[simp] theorem stopSession_pending (why : EndReason) : (stopSession n why s).pending = s.pending := by
  unfold stopSession
  split <;> simp

@[simp] theorem loseSession_pending : (loseSession n s).pending = s.pending := by
  unfold loseSession
  dsimp only
  split <;> simp

/-! ## Probe, grant and token -/

@[simp] theorem startAttempt_pending : (startAttempt n s).pending = s.pending := by
  rw [startAttempt_eq, State.setSession_pending]

@[simp] theorem enterProbing_pending : (enterProbing n s).pending = s.pending := by simp [enterProbing]

@[simp] theorem attemptFailed_pending : (attemptFailed n s).pending = s.pending := by
  unfold attemptFailed
  dsimp only
  split <;> simp

@[simp] theorem energize_pending (count : Nat) : (energize n count s).pending = s.pending := by simp [energize]

@[simp] theorem offerGrant_pending (o : GrantOffer) : (offerGrant n o s).pending = s.pending := by
  have taken (g : Grant) : (takeGrant n g s).pending = s.pending := by
    unfold takeGrant
    dsimp only
    split <;> simp
  unfold offerGrant
  split
  · exact taken _
  · exact cancelSession_pending n s _

@[simp] theorem authExpired_pending : (authExpired n s).pending = s.pending := by
  unfold authExpired
  split
  · split <;> simp
  · simp

@[simp] theorem decideSession_pending (o : Opening) (c : CapturedTerms) : (decideSession n o c s).pending = s.pending := by
  rcases decideSession_cases n o c s with ⟨reason, e⟩ | ⟨g, e⟩ | e <;> rw [e]
  · exact cancelSession_pending n s reason
  · exact offerGrant_pending n s g
  · rfl

@[simp] theorem offerToken_pending (token : Token) (source : TokenSource) :
    (offerToken n token source s).pending = s.pending := by
  unfold offerToken
  split
  · exact refuseToken_pending n s _
  · simp [acceptToken]

@[simp] theorem takeToken_pending (token : Token) (source : TokenSource) :
    (takeToken n token source s).pending = s.pending := by
  unfold takeToken
  dsimp only
  split
  case h_1 | h_2 => exact offerToken_pending n s token source
  case h_10 => exact refuseToken_pending n s _
  all_goals split <;> simp

/-! ## The fields of a good reply (R5, R153) -/

@[simp] theorem meterSteps_pending (count : Nat) : (meterSteps n count s).pending = s.pending := by rw [meterSteps_frame]

@[simp] theorem tableFaults_pending (x : StatusReply) : (tableFaults n x s).pending = s.pending := by rw [tableFaults_eq]

@[simp] theorem faultStop_pending (why : EndReason) : (faultStop n why s).pending = s.pending := by
  unfold faultStop
  split <;> simp

@[simp] theorem sessionFaults_pending (x : StatusReply) : (sessionFaults n x s).pending = s.pending := by
  unfold sessionFaults
  dsimp only
  split
  · exact faultStop_pending n s _
  · exact ite_pending (faultStop_pending n s _)

@[simp] theorem reactPlugIn_pending : (reactPlugIn n s).pending = s.pending := by
  unfold reactPlugIn
  split
  case h_1 => exact putSession_pending n s _
  case h_2 =>
    split
    · exact closeSession_pending n s _
    · split <;> simp
  all_goals rfl

@[simp] theorem reactPlugOut_pending : (reactPlugOut n s).pending = s.pending := by
  unfold reactPlugOut
  split <;> simp

@[simp] theorem takePlug_pending (plug : Bool) : (takePlug n plug s).pending = s.pending := by
  unfold takePlug
  dsimp only
  split
  · simp
  · split
    · simp
    · refine ite_pending ?_
      split <;> simp

@[simp] theorem takePresentation_pending (p : Presentation) : (takePresentation n p s).pending = s.pending := by
  unfold takePresentation
  dsimp only
  split
  · split <;> simp
  · simp

@[simp] theorem tokenStep_pending (x : StatusReply) : (tokenStep n x s).pending = s.pending := by
  unfold tokenStep
  cases x.presentation with
  | some p => exact takePresentation_pending n s p
  | none => rfl

@[simp] theorem takeProbe_pending (probe : ProbeResult) (count : Nat) : (takeProbe n probe count s).pending = s.pending := by
  unfold takeProbe
  refine ite_pending ?_
  cases probe with
  | none => rfl
  | openCircuit => exact attemptFailed_pending n s
  | short => simp
  | matched length => dsimp only; split <;> simp

@[simp] theorem takeComplete_pending (complete : Bool) : (takeComplete n complete s).pending = s.pending := by
  have occupying : (enterOccupying n s).pending = s.pending := putSession_pending n s _
  unfold takeComplete
  split
  case h_1 | h_2 => exact ite_pending occupying
  all_goals rfl

@[simp] theorem takeVehicleRequest_pending (request : Nat) (complete : Bool) :
    (takeVehicleRequest n request complete s).pending = s.pending := by
  unfold takeVehicleRequest enterSuspended returnToDispensing
  split
  case h_1 =>
    split
    · split <;> simp
    · rfl
  case h_2 | h_3 => exact ite_pending (putSession_pending n s _)
  all_goals rfl

@[simp] theorem takePower_pending (wasEnding : Bool) (power : Nat) : (takePower n wasEnding power s).pending = s.pending :=
  ite_pending (closeSession_pending n s _)

@[simp] theorem linkSteps_pending (plug : Bool) : (linkSteps n plug s).pending = s.pending := by
  unfold linkSteps
  dsimp only
  split <;> simp

@[simp] theorem takeReply_pending (x : StatusReply) : (takeReply n x s).pending = s.pending := by
  simp [takeReply_eq, closingSteps, faultSteps]

@[simp] theorem takeMiss_pending : (takeMiss n s).pending = s.pending := by
  unfold takeMiss
  dsimp only
  split <;> simp

@[simp] theorem takeExchange_pending (e : Exchange) (reply : Option StatusReply) :
    (takeExchange e reply s).pending = s.pending := by
  unfold takeExchange
  split
  · rfl
  · cases reply with
    | none => exact takeMiss_pending _ s
    | some x => dsimp only; split <;> simp

/-! ## The scan cycle (R150, R158 to R160) -/

@[simp] theorem sendCommand_pending (outOfTurn : Bool) : (sendCommand n outOfTurn s).pending = s.pending := by
  unfold sendCommand
  dsimp only
  split <;> simp

@[simp] theorem nextTurn_pending (toCome : List Ped) : (nextTurn toCome s).pending = s.pending := by
  unfold nextTurn
  split
  · exact sendCommand_pending _ s false
  · rfl

@[simp] theorem endExchange_pending (e : Exchange) : (endExchange e s).pending = s.pending := by
  unfold endExchange
  split
  · rfl
  · split
    · rfl
    · exact nextTurn_pending s _

@[simp] theorem takeAlert_pending (reading : Nat) : (takeAlert reading s).pending = s.pending := by
  have ended (s : State) : (endCycle s).pending = s.pending := rfl
  unfold takeAlert
  dsimp only
  split
  · exact ended s
  · split
    · split <;> simp [ended]
    · simp [ended]

@[simp] theorem startCycle_pending : (startCycle s).pending = s.pending := by
  have round (u : State) : (allocationRound u).pending = u.pending := by rw [allocationRound_frame]
  rw [startCycle_eq, nextTurn_pending]
  unfold State.cycleBegun
  dsimp only
  split
  · rw [round]
  · rfl

@[simp] theorem requestStopAll_pending : (requestStopAll s).pending = s.pending := by rw [requestStopAll_eq]

/-! ## Requests -/

@[simp] theorem enterRestarting_pending (kind : RestartKind) : (enterRestarting kind s).pending = s.pending := by
  rw [enterRestarting_eq]

theorem haltAll_pending (why : EndReason) : (forPedestals (haltSession why) s).pending = s.pending :=
  forPedestals_pending s fun n s => haltSession_pending n s why

theorem restart_pending (body : List Byte) : (restart.act body s).2.pending = s.pending := by
  unfold restart
  dsimp only
  split
  · exact (enterRestarting_pending _ .soft).trans (haltAll_pending s _)
  · split
    · rfl
    · exact enterRestarting_pending s .hard
  · rfl

theorem countersRead_pending (body : List Byte) : (countersRead.act body s).2.pending = s.pending := by
  simp only [countersRead]
  exact forPedestals_pending s fun n s => State.setEntry_pending s n _

theorem enrol_pending (body : List Byte) : (enrol.act body s).2.pending = s.pending := by
  have dropped (n : Ped) : (dropShare n s).pending = s.pending := by rw [dropShare_eq]
  unfold enrol
  dsimp only
  split
  · rfl
  · split
    · rfl
    · exact ite_pending (dropped _)

theorem withdraw_pending (body : List Byte) : (withdraw.act body s).2.pending = s.pending := by
  unfold withdraw
  dsimp only
  split
  · rfl
  · split
    · rfl
    · split
      · rfl
      · simp [done, voidExchange_eq]

theorem sessionStop_pending (body : List Byte) : (sessionStop.act body s).2.pending = s.pending := by
  have stopped (n : Ped) : (hostStop n s).pending = s.pending := by
    unfold hostStop
    split <;> simp
  unfold sessionStop
  dsimp only
  generalize (if body.length = 3 then some (fieldAt body 1 2) else none) = given
  split
  · rfl
  · split
    · rfl
    · split
      · rfl
      · exact stopped _

theorem authDecision_pending (body : List Byte) : (authDecision.act body s).2.pending = s.pending := by
  unfold authDecision
  dsimp only
  split
  · rfl
  · split
    · rfl
    · split
      · rfl
      · exact cancelSession_pending _ s _
      · split
        · rfl
        · exact offerGrant_pending _ s _

/-- No request of the catalogue touches the queue; those named in no lemma above write fields of the state beside it. -/
theorem catalogue_pending {kind : Byte} {q : Request} (h : catalogue kind = some q) (body : List Byte) :
    (q.act body s).2.pending = s.pending := by
  unfold catalogue at h
  split at h <;> cases h
  case h_14 => exact enrol_pending s body
  case h_15 => exact withdraw_pending s body
  case h_18 => exact countersRead_pending s body
  case h_20 => exact sessionStop_pending s body
  case h_22 => exact authDecision_pending s body
  case h_29 => exact restart_pending s body
  all_goals
    dsimp only [statusRead, parkSet, parkRead, parkOpen, parkClose, clockSet, siteLoad, tariffWrite, tariffRead, tariffClear,
      windowWrite, windowRead, windowClear, unblock, pedestalRead, sessionRead, sessionCap, queryList, settleFetch,
      fetchUnnamed, fetchNamed, settleConfirm, conditionsRead, conditionsClear, conditionsMask]
    repeat' split
    all_goals rfl

/-! ## Frames and characters -/

@[simp] theorem linkFrame_pending : (linkFrame s).pending = s.pending := by
  rcases linkFrame_cases s with ⟨_, e⟩ | ⟨_, e⟩ <;> rw [e] <;> rfl

theorem answerFrame_pending (kind tag : Byte) (body : List Byte) :
    (answerFrame kind tag body (catalogue kind) s).pending = s.pending := by
  unfold answerFrame
  split
  · unfold refuseBusy
    split <;> rfl
  · split
    · exact sendReply_pending _
    · split
      · exact sendReply_pending _
      next q request =>
        split
        · exact (sendReply_pending _).trans (catalogue_pending s request body)
        · exact sendReply_pending _

theorem takeFrame_pending (kind tag : Byte) (body : List Byte) :
    (takeFrame kind tag body (catalogue kind) s).pending = s.pending := by
  refine ite_pending ?_
  rw [answerFrame_pending, linkFrame_pending, State.withLine_pending]

theorem discardFrame_pending : (discardFrame s).pending = s.pending := rfl

theorem badSyncByte_pending (badRun : Bool) : (badSyncByte badRun s).pending = s.pending := by
  unfold badSyncByte
  split <;> rfl

theorem parseByte_pending (b : Byte) : (parseByte b s).pending = s.pending := by
  unfold parseByte endFrame
  split
  case h_1 =>
    split
    · rfl
    · exact badSyncByte_pending s _
  case h_2 => split <;> rfl
  case h_7 =>
    split
    · exact takeFrame_pending s _ _ _
    · exact discardFrame_pending s
  all_goals rfl

theorem receiveChar_pending (c : RxChar) : (receiveChar c s).pending = s.pending := by
  unfold receiveChar badStop
  refine ite_pending ?_
  split
  · exact parseByte_pending s _
  · split
    · exact badSyncByte_pending s _
    all_goals exact discardFrame_pending s

theorem receive_pending (received : List RxChar) : (receive received s).pending = s.pending := by
  unfold receive
  induction received generalizing s with
  | nil => rfl
  | cons c cs ih => exact (ih _).trans (receiveChar_pending s c)

theorem startNotice_pending : (startNotice s).pending = s.pending := by
  rcases startNotice_cases s with e | ⟨_, _, _, e⟩ <;> rw [e]

theorem frameSent_pending : (frameSent s).pending = s.pending := by
  unfold frameSent
  split
  case h_3 => exact startNotice_pending _
  all_goals rfl

/-! ## Starts and stops -/

/-- A start takes the queue over as it stands. -/
theorem latchStart_pending (kind : StartKind) (cause : StartCause) : (latchStart kind cause s).pending = s.pending := by
  unfold latchStart
  dsimp only
  split <;> rfl

theorem freshStart_pending (kind : StartKind) (cause : StartCause) (q : Settlement) :
    (freshStart kind cause q s).pending = s.pending := latchStart_pending _ kind cause

theorem softStart_pending : (softStart s).pending = s.pending := latchStart_pending _ .warm .restartSoft

theorem markerStart_pending (cause : StartCause) : (markerStart cause s).pending = s.pending := by
  unfold markerStart
  split <;> exact freshStart_pending s _ cause _

theorem haltDevice_pending : (haltDevice s).pending = s.pending := by
  rw [haltDevice_eq]
  dsimp only
  exact haltAll_pending s _

theorem stopCause_pending : (stopCause s).pending = s.pending := by
  unfold stopCause
  split
  · rfl
  · exact haltDevice_pending s

/-! ## Commands and steps -/

theorem idleMinuteOf_pending : (idleMinuteOf n s).pending = s.pending := by
  unfold idleMinuteOf
  split
  · exact ite_pending rfl
  · rfl

/-- Every command answers a next state with the queue that it found. -/
theorem exec_pending (i : Instr) : ∃ t, exec i s = .next t ∧ t.pending = s.pending := by
  cases i
  case frameDiscarded received | badSyncRun received => exact ⟨_, rfl, receive_pending s received⟩
  case frameGapTimeout received =>
    exact ⟨_, rfl, (ite_pending (discardFrame_pending _)).trans (receive_pending s received)⟩
  case linkSilenceExpiry | quietTimerExpiry | refusalDisplayExpiry =>
    refine ⟨_, rfl, ?_⟩
    split
    · exact ite_pending rfl
    · rfl
  case replySent | noticeSent =>
    refine ⟨_, rfl, ?_⟩
    split
    case h_1 => exact frameSent_pending s
    all_goals rfl
  case notice => exact ⟨_, rfl, startNotice_pending s⟩
  case softRestart => exact ⟨_, rfl, ite_pending (softStart_pending s)⟩
  case hardRestart => exact ⟨_, rfl, ite_pending (freshStart_pending s _ _ _)⟩
  case cycleStart => exact ⟨_, rfl, ite_pending (startCycle_pending s)⟩
  case statusReply | exchangeMiss =>
    refine ⟨_, rfl, ?_⟩
    split
    case h_1 => exact (endExchange_pending _ _).trans (takeExchange_pending s _ _)
    all_goals rfl
  case alertSlot =>
    refine ⟨_, rfl, ?_⟩
    split
    case h_1 => exact takeAlert_pending s _
    all_goals rfl
  case authDeadlineExpiry | plugDeadlineExpiry | probeDeadlineExpiry | endingDeadlineExpiry =>
    refine ⟨_, rfl, ?_⟩
    split
    · simp
    · rfl
  case oneSecondTick =>
    refine ⟨_, rfl, ?_⟩
    split <;> rfl
  case suspendLimit n => exact ⟨_, rfl, ite_pending (putSession_pending n s _)⟩
  case idleMinute n => exact ⟨_, rfl, ite_pending (idleMinuteOf_pending n s)⟩
  case supplyWarning | reset => exact ⟨_, rfl, (State.withSupply_pending _ _).trans (stopCause_pending s)⟩
  case supplyFail =>
    refine ⟨_, rfl, ?_⟩
    split
    · rfl
    · exact (State.withSupply_pending _ _).trans (haltDevice_pending s)
  case retentionLoss => exact ⟨_, rfl, ite_pending rfl⟩
  case powerOn | haltedStart => exact ⟨_, rfl, ite_pending (markerStart_pending s _)⟩
  all_goals exact ⟨_, exec_requestFrame rfl s, takeFrame_pending s _ _ _⟩

/-- Settles O3: every command answers some next state, and that one has the queue of the state before. -/
theorem commandsKeepTheQueue : Obligations.CommandsKeepTheQueue := by
  intro c s t answer
  obtain ⟨u, next, kept⟩ := exec_pending s c
  obtain rfl := Host.Outcome.next.inj (next.symm.trans answer)
  exact kept

/-! ## The step by the front of the queue -/

theorem step_command {c : Instr} {rest : List Instr} {s : State} (front : s.pending = c :: rest) :
    step s = exec c { s with pending := rest } := by
  unfold step
  rw [front]

theorem step_idle {s : State} (empty : s.pending = []) : step s = .next (idle s) := by
  unfold step
  rw [empty]

/-- No table word spells a command, so none is put at the front of the queue. -/
theorem withFetchWord_self (nbits w : Nat) : s.withFetchWord nbits w = s := rfl

/-- Settles O1: the step on a queue that holds a command. -/
theorem stepRunsTheFrontCommand : Obligations.StepRunsTheFrontCommand := fun _ _ _ front => step_command front

/-- Settles O2: an idle step by the main supply, and a fetched word that changes nothing. -/
theorem idleStepPassesOneMillisecond : Obligations.IdleStepPassesOneMillisecond := by
  intro s empty
  refine ⟨fun fed => ?_, fun absent => ?_, fun nbits w => ?_⟩
  · rw [step_idle empty, idle, if_neg fed]
  · rw [step_idle empty, idle, if_pos absent]
  · rw [withFetchWord_self]

end Sys2Proof.Machine
end
